-- ==== Sys2Proof/Word.lean ====
section
/-! DEFINITION. The words of the part: bytes of frames and records, and codes of the 12-bit converter. -/

namespace Sys2Proof

/-- A byte of a frame or a record (09 R160). -/
abbrev Byte := BitVec 8

/-- A code of the 12-bit converter (01, introduction). -/
abbrev Code := BitVec 12

end Sys2Proof
end

