-- ==== Sys2Proof/Syntax.lean ====
section
/-! DEFINITION. The commands the part takes: one constructor of `Instr` for each row of spec/opcode_table.json. -/

namespace Sys2Proof

/-- The three links (00 "The part and its partners"). -/
inductive Link where
  | handle
  | wand
  | dock
deriving DecidableEq, Repr

/-- The two single-wire links (09, section 9.2). -/
inductive Wire where
  | wand
  | dock
deriving DecidableEq, Repr

/-- The three inputs that wake the part (10 R181). -/
inductive WakeInput where
  | trig
  | dock
  | link
deriving DecidableEq, Repr

/-- The sixteen codes of one scan, in slot order (01 R1). -/
structure ScanCodes where
  /-- slots 0 to 6: the cells 1 to 7 -/
  cell1 : Code
  cell2 : Code
  cell3 : Code
  cell4 : Code
  cell5 : Code
  cell6 : Code
  cell7 : Code
  /-- slot 7: pack current, first sample -/
  pack1 : Code
  /-- slot 8: motor current -/
  motor : Code
  /-- slot 9: pack thermistor A -/
  thermA : Code
  /-- slot 10: pack thermistor B -/
  thermB : Code
  /-- slot 11: motor thermistor -/
  thermM : Code
  /-- slot 12: dock contact voltage -/
  dock : Code
  /-- slot 13: pack current, second sample -/
  pack2 : Code
  /-- slot 14: internal reference -/
  reference : Code
  /-- slot 15: whole-pack divider -/
  divider : Code
deriving DecidableEq, Repr

/-- The commands: the rows of spec/opcode_table.json, in its order. `dt` is the time in µs since the command before it in the
queue (log 3); an event whose moment the state holds (a timer's expiry, a scheduled scan) carries none.
A request row is the arrival, intact, of that request on `link` with the tag and payload of its frame (log 6). -/
inductive Instr where
  /-- POWER_ON (10 R182) -/
  | powerOn
  /-- SOFT_RESET (10 R183) -/
  | softReset (dt : Nat) (link : Link) (tag : Byte) (payload : List Byte)
  /-- SHELF_ENTRY (10 R180); `txn`: the complete bytes shifted in so far of a handle transaction in progress (09 R174) -/
  | shelfEntry (txn : Option (List Byte))
  /-- WAKE (10 R181) -/
  | wake (dt : Nat) (input : WakeInput)
  /-- SCAN_START (01 R3) -/
  | scanStart
  /-- SCAN_COMPLETION (01 R19) -/
  | scanCompletion (codes : ScanCodes)
  /-- ALLOWANCE_COMPLETION (02 R36) -/
  | allowanceCompletion
  /-- TRIG_EDGE (04 R66): the level on TRIG changes -/
  | trigEdge (dt : Nat)
  /-- TRIGGER_DEBOUNCE_COMPLETION (04 R66) -/
  | triggerDebounceCompletion
  /-- STALL_TIMER_EXPIRY (04 R72) -/
  | stallTimerExpiry
  /-- STOP_TIMER_EXPIRY (04 R74) -/
  | stopTimerExpiry
  /-- TACH_PULSE (04 R81) -/
  | tachPulse (dt : Nat)
  /-- TACH_TIMEOUT (04 R81) -/
  | tachTimeout
  /-- PIEZO_EDGE (06 R100): a rising edge -/
  | piezoEdge (dt : Nat)
  /-- WINDOW_EXPIRY (06 R108) -/
  | windowExpiry
  /-- BINLATCH_EDGE (06 R111): the level on BINLATCH changes -/
  | binlatchEdge (dt : Nat)
  /-- LATCH_DEBOUNCE_COMPLETION (06 R111) -/
  | latchDebounceCompletion
  /-- TRY_COMPLETION (06 R113): the sense cycles counted in the two halves -/
  | tryCompletion (dt : Nat) (h1 : Nat) (h2 : Nat)
  /-- SILENCE_EXPIRY (05 R93) -/
  | silenceExpiry
  /-- WAND_OFF_TIMER_EXPIRY (05 R90) -/
  | wandOffTimerExpiry
  /-- HELLO_TIMER_EXPIRY (08 R143) -/
  | helloTimerExpiry
  /-- PRECHARGE_TIMER_EXPIRY (08 R148) -/
  | prechargeTimerExpiry
  /-- BALANCE_TIMER_EXPIRY (08 R151) -/
  | balanceTimerExpiry
  /-- DEEP_DISCHARGE_TIMER_EXPIRY (10 R179) -/
  | deepDischargeTimerExpiry
  /-- FRAME_ARRIVAL (09 R161): the bytes of the frame received -/
  | frameArrival (dt : Nat) (wire : Wire) (bytes : List Byte)
  /-- GAP_TIMER_EXPIRY (09 R161) -/
  | gapTimerExpiry (dt : Nat) (wire : Wire)
  /-- RESPONSE_DELIVERED (09 R162) -/
  | responseDelivered (dt : Nat) (wire : Wire)
  /-- HANDLE_TRANSACTION (09 R164): the complete bytes shifted in between CSN falling and rising -/
  | handleTransaction (dt : Nat) (mosi : List Byte)
  /-- IDENT (09 R173) -/
  | ident (dt : Nat) (link : Link) (tag : Byte) (payload : List Byte)
  /-- READ_REC (09 R168) -/
  | readRec (dt : Nat) (link : Link) (tag : Byte) (payload : List Byte)
  /-- CLEAR_NOTE (09 R171) -/
  | clearNote (dt : Nat) (link : Link) (tag : Byte) (payload : List Byte)
  /-- WRITE_SET (10 R175) -/
  | writeSet (dt : Nat) (link : Link) (tag : Byte) (payload : List Byte)
  /-- CLEAR_STICKY (09 R173) -/
  | clearSticky (dt : Nat) (link : Link) (tag : Byte) (payload : List Byte)
  /-- SHELF_ENTER (10 R177) -/
  | shelfEnter (dt : Nat) (link : Link) (tag : Byte) (payload : List Byte)
  /-- CLAIM_PUSH (03 R47) -/
  | claimPush (dt : Nat) (link : Link) (tag : Byte) (payload : List Byte)
  /-- CLAIM_POP (03 R48) -/
  | claimPop (dt : Nat) (link : Link) (tag : Byte) (payload : List Byte)
  /-- CLAIM_REPLACE (03 R49) -/
  | claimReplace (dt : Nat) (link : Link) (tag : Byte) (payload : List Byte)
  /-- CLAIM_DROP (03 R50) -/
  | claimDrop (dt : Nat) (link : Link) (tag : Byte) (payload : List Byte)
  /-- LOCK_ON (04 R67) -/
  | lockOn (dt : Nat) (link : Link) (tag : Byte) (payload : List Byte)
  /-- LOCK_OFF (04 R67) -/
  | lockOff (dt : Nat) (link : Link) (tag : Byte) (payload : List Byte)
  /-- BIN_MEASURE (06 R115) -/
  | binMeasure (dt : Nat) (link : Link) (tag : Byte) (payload : List Byte)
  /-- BIN_CAL_EMPTY (06 R119) -/
  | binCalEmpty (dt : Nat) (link : Link) (tag : Byte) (payload : List Byte)
  /-- HEAD_HELLO (05 R91) -/
  | headHello (dt : Nat) (link : Link) (tag : Byte) (payload : List Byte)
  /-- FLOOR_REPORT (05 R96) -/
  | floorReport (dt : Nat) (link : Link) (tag : Byte) (payload : List Byte)
  /-- DOCK_HELLO (08 R142) -/
  | dockHello (dt : Nat) (link : Link) (tag : Byte) (payload : List Byte)
  /-- ORDER_READ (08 R146) -/
  | orderRead (dt : Nat) (link : Link) (tag : Byte) (payload : List Byte)
  /-- FRAME_START_BIT (09 R161) -/
  | frameStartBit (dt : Nat) (wire : Wire)
  /-- HANDLE_ANSWER_READY (09 R164) -/
  | handleAnswerReady (dt : Nat)
deriving DecidableEq, Repr

end Sys2Proof
end

