-- ==== Sys2Proof/Config.lean ====
section
/-! DEFINITION. What a die or an implementation fixes and the spec gives no value for: opaque constants, so that no proof can
lean on a value of them. -/

namespace Sys2Proof

/-- The two-byte vendor's code of IDENT, "a constant of the die" (09 R173). Free value, log 17. -/
opaque Config.vendorCode : BitVec 16

/-- The one-byte family code of IDENT, "a constant of the die" (09 R173). Free value, log 17. -/
opaque Config.familyCode : Byte

/-- The one-byte die revision number of IDENT, "constant for a die" (09 R173). Free value, log 17. -/
opaque Config.dieRevision : Byte

/-- At an entry to STOPPED with the run request present, whether the bin gauge takes that entry before the motor enable goes
on again: 06 R116 allows both. The argument is the counter `choices` of the state. Free value, log 18. -/
opaque Config.gaugeTakesEntryFirst : Nat → Bool

end Sys2Proof
end

