-- ==== Sys2Proof/Machine/State.lean ====
section
/-! DEFINITION. The state of the part as plain data, block by block, and the state after reset (power-on). Times are in µs, on the
clock `now` (log 3); a timer is the moment at which it runs out, or none while it is stopped. -/

namespace Sys2Proof.Machine

/-- No fault: the spec describes no event that stops the part. The states FAULT of the suction regulator and of the charge
controller are states of the machine, not faults of the model. -/
inductive Fault where
deriving DecidableEq, Repr

/-- Why a command has no meaning. -/
inductive Refusal where
  /-- The command is not modelled. Raised by no arm of `exec`: every row of the table has its meaning. Safe. -/
  | notModelled (mnemonic : String)
deriving DecidableEq, Repr

/-! ## Measurement sampler (01) -/

/-- The two cadences (01, section 1.2). -/
inductive Cadence where
  | slow
  | fast
deriving DecidableEq, Repr

/-- Validity and cause of a scan (01 R13). -/
inductive Validity where
  | valid
  | refFault
  | tapFault
deriving DecidableEq, Repr

/-- Status and temperature of a thermistor channel (01 R9). -/
inductive Therm where
  | ok (t : Int)
  | opened
  | shorted
deriving DecidableEq, Repr

/-- Seven cell voltages in mV, cells 1 to 7 (01 R5). -/
structure Cells where
  c1 : Nat
  c2 : Nat
  c3 : Nat
  c4 : Nat
  c5 : Nat
  c6 : Nat
  c7 : Nat
deriving DecidableEq, Repr

/-- The scan record (01 R19). The derived values of R12 are functions of `cells`. -/
structure ScanRecord where
  number : Nat
  cadence : Cadence
  interval : Nat
  first : Bool
  validity : Validity
  invalidCount : Nat
  cells : Cells
  i : Int
  iSat : Bool
  motor : Nat
  motorSat : Bool
  thermA : Therm
  thermB : Therm
  tmax : Option Int
  tmin : Option Int
  thermFault : Bool
  motorTemp : Therm
  dock : Nat
  reference : Nat
  vpack : Nat
  offset : Int
deriving DecidableEq, Repr

/-- Where the sampler stands in its scans (01 R3, R4, R20); `first` is the FIRST mark of the scan meant. -/
inductive ScanPhase where
  /-- no scan starts (SHELF) -/
  | stopped
  /-- the next scan starts at `due` -/
  | resting (due : Nat) (first : Bool)
  /-- a scan is in progress since `start` -/
  | running (start : Nat) (first : Bool)
deriving DecidableEq, Repr

/-- The PER_64 run of qualifying scans (01 R17). -/
structure Run64 where
  count : Nat
  sum : Int
deriving DecidableEq, Repr

structure Sampler where
  cadence : Cadence
  phase : ScanPhase
  offset : Int
  run : Run64
  invalidCount : Nat
  number : Nat
  /-- the measurement table: the latest published scan record -/
  table : Option ScanRecord
  /-- the model's own: when MEN, CHGG or WANDG last changed, for 01 R15 (log 29) -/
  lastSwitch : Option Nat
deriving DecidableEq, Repr

/-! ## Settings (10, section 10.1) -/

/-- The values of AUTOZERO (01, section 1.6). -/
inductive AutoZero where
  | off
  | perScan
  | per64
deriving DecidableEq, Repr

/-- The values of NOISE_MODE (06 R103). -/
inductive NoiseMode where
  | manual
  | auto
deriving DecidableEq, Repr

/-- A point of the derate curve (02 R35). -/
structure DeratePoint where
  t : Int
  d : Int
deriving DecidableEq, Repr

/-- A suction curve: base in W and eight slopes in 1/16 W per index step (04 R85). -/
structure Curve where
  base : Nat
  slopes : List Int
deriving DecidableEq, Repr

/-- The settings table, in identifier order (10, section 10.1). -/
structure Settings where
  autozero : AutoZero
  vcut : Nat
  vstop : Nat
  prated : Nat
  riseStep : Nat
  stepMin : Nat
  tdisLo : Int
  tdisHi : Int
  rInit : Nat
  derate : List DeratePoint
  depthSuction : Nat
  depthBrush : Nat
  headShare : Nat
  binCap : Nat
  rampUp : Nat
  ki : Nat
  pfull : Nat
  clogMinP : Nat
  /-- in rpm: ten times the value written and read (10 R175) -/
  clogRpm : Nat
  clogLock : Nat
  clogUnlock : Nat
  clogCap : Nat
  hard : Curve
  carpet : Curve
  win : Nat
  noiseMode : NoiseMode
  noiseManual : Nat
  offset : Nat
  gain : Nat
  heavyThr : Nat
  heavyLock : Nat
  heavyUnlock : Nat
  heavyFloor : Nat
  refwin : Nat
  double : Bool
  hop : Bool
  hopTol : Nat
  fullRatio : Nat
  fullPct : Nat
  designCap : Nat
  chgI : Nat
  chgVcell : Nat
  chgTlo : Int
  chgThi : Int
  termI : Nat
  balDelta : Nat
  rechargeDrop : Nat
  /-- one bit per handle notice, in the order of 09 R171 -/
  attnMask : BitVec 15
deriving DecidableEq, Repr

/-- Every setting at its default (10, section 10.1; 02 R35; 04 R86). -/
def Settings.defaults : Settings where
  autozero := .per64
  vcut := 3000
  vstop := 2700
  prated := 520
  riseStep := 8
  stepMin := 3000
  tdisLo := -20
  tdisHi := 60
  rInit := 250
  derate := [⟨-20, 128⟩, ⟨0, 192⟩, ⟨10, 256⟩, ⟨40, 256⟩, ⟨50, 208⟩, ⟨55, 160⟩, ⟨58, 96⟩, ⟨60, 0⟩]
  depthSuction := 4
  depthBrush := 3
  headShare := 64
  binCap := 150
  rampUp := 6
  ki := 4
  pfull := 600
  clogMinP := 60
  clogRpm := 115000
  clogLock := 50
  clogUnlock := 250
  clogCap := 80
  hard := ⟨120, [8, 12, 16, 24, 24, 16, 8, 0]⟩
  carpet := ⟨180, [12, 16, 24, 24, 16, 8, 0, 0]⟩
  win := 64
  noiseMode := .auto
  noiseManual := 8
  offset := 4
  gain := 16
  heavyThr := 96
  heavyLock := 3
  heavyUnlock := 8
  heavyFloor := 128
  refwin := 1024
  double := false
  hop := true
  hopTol := 12
  fullRatio := 160
  fullPct := 90
  designCap := 2500
  chgI := 2000
  chgVcell := 4200
  chgTlo := 0
  chgThi := 45
  termI := 150
  balDelta := 20
  rechargeDrop := 100
  attnMask := 0

/-! ## Allowance unit (02) -/

/-- Causes of the published allowance (02, state table), in the order of that list. -/
inductive Cause where
  | initial
  | ok
  | noHeadroom
  | stopVolt
  | stopTherm
  | stopTemp
  | scanFault
deriving DecidableEq, Repr

/-- The snapshot of the last valid scan (02 R26). -/
structure Snapshot where
  vmean : Nat
  i : Int
  sat : Bool
deriving DecidableEq, Repr

/-- The inputs a budget computation captures at its start (02 R22). -/
structure Capture where
  number : Nat
  vmin : Nat
  vmean : Nat
  i : Int
  iSat : Bool
  tmax : Option Int
  tmin : Option Int
  thermFault : Bool
  rcell : Nat
  snapshot : Option Snapshot
  vcut : Nat
  vstop : Nat
  prated : Nat
  riseStep : Nat
  stepMin : Nat
  tdisLo : Int
  tdisHi : Int
  derate : List DeratePoint
deriving DecidableEq, Repr

/-- A computation in flight: its capture and the moment it completes (02 R21). -/
structure Computation where
  inputs : Capture
  due : Nat
deriving DecidableEq, Repr

/-- The figures of a completed computation (02 R41); an absent figure is none. -/
structure Figures where
  inputs : Capture
  rnew : Option Int
  rcellAfter : Nat
  discarded : Bool
  sag : Option Nat
  voc : Option Nat
  headroom : Option Int
  imax : Option Nat
  pmax : Option Nat
  plim : Option Nat
  d : Option Int
  computed : Nat
  cause : Cause
  ovfV : Bool
  ovfI : Bool
  limited : Bool
  rclamp : Bool
deriving DecidableEq, Repr

structure Allowance where
  rcell : Nat
  snapshot : Option Snapshot
  inflight : Option Computation
  /-- a written R_INIT that takes effect at the completion in flight (02 R28) -/
  pendingRInit : Option Nat
  pallow : Nat
  cause : Cause
  ovfV : Bool
  ovfI : Bool
  /-- the empty-mark episode is open (02 R30) -/
  episode : Bool
  discards : Nat
  last : Option Figures
deriving DecidableEq, Repr

/-! ## Claim arbiter (03) -/

/-- Kind and value of a claim (03 R42): a ZERO record holds no value. -/
inductive ClaimKind where
  | level (watts : Nat)
  | curve (ceiling : Nat)
  | zero
deriving DecidableEq, Repr

/-- A claim record on a stack: its index in the pool, kind with value, and label (03 R42). The owner is the stack it is on. -/
structure Claim where
  index : Fin 10
  kind : ClaimKind
  label : Byte
deriving DecidableEq, Repr

/-- The power path (03 R59). -/
inductive Path where
  | idle
  | discharge
  | charge
deriving DecidableEq, Repr

/-- The two sides that request the path (03, section 3.5). -/
inductive Side where
  | suction
  | charger
deriving DecidableEq, Repr

/-- The arbiter's answers to a path request (03 R60). -/
inductive PathAnswer where
  | taken
  | waiting
  | held
deriving DecidableEq, Repr

structure Arbiter where
  /-- head first -/
  free : List (Fin 10)
  /-- newest (top) first -/
  suction : List Claim
  /-- newest (top) first -/
  brush : List Claim
  ds : Nat
  dh : Nat
  gs : Nat
  gh : Nat
  shortS : Bool
  shortH : Bool
  used : Nat
  path : Path
  waiting : Option Side
deriving DecidableEq, Repr

/-- The free list at power-on: 0 at the head through 9 at the tail (03 R43). -/
def freeAll : List (Fin 10) := [0, 1, 2, 3, 4, 5, 6, 7, 8, 9]

/-! ## Suction regulator (04) -/

/-- The six suction states (04, section 4.2), in the order of that list. -/
inductive SuctionState where
  | stopped
  | waitPath
  | starting
  | running
  | stopping
  | fault
deriving DecidableEq, Repr

/-- Suction fault causes (04, state table). -/
inductive SuctionCause where
  | none
  | stall
  | overcurrent
  | hot
  | clog
deriving DecidableEq, Repr

/-- Pm and error of a trim update (04 R79). -/
structure Trim where
  pm : Nat
  error : Int
deriving DecidableEq, Repr

structure Suction where
  /-- the debounced trigger is PRESSED -/
  pressed : Bool
  trigTimer : Option Nat
  lock : Bool
  state : SuctionState
  faultCause : SuctionCause
  stallTimer : Option Nat
  stopTimer : Option Nat
  enableAsked : Bool
  overCount : Nat
  target : Nat
  acc : Int
  duty : Nat
  trim : Option Trim
  speed : Nat
  /-- the tach reference: the moment of the previous accepted pulse -/
  lastPulse : Option Nat
  clogged : Bool
  lockCount : Nat
  unlockCount : Nat
  episodes : Nat
  /-- the motor temperature of the latest valid scan, for the exit from FAULT (04 R76) -/
  lastTemp : Option Therm
deriving DecidableEq, Repr

/-! ## Floor-head unit (05) -/

/-- Floor types (05, state table), in the order of 11 R186. -/
inductive FloorType where
  | hard
  | carpet
  | unknown
deriving DecidableEq, Repr

/-- What a PRESENT head has announced (05 R91). -/
structure HeadInfo where
  rating : Nat
  floorSense : Bool
deriving DecidableEq, Repr

structure Head where
  wand : Bool
  wandOff : Option Nat
  /-- PRESENT with what it announced, or ABSENT (none) -/
  info : Option HeadInfo
  silence : Option Nat
  floor : FloorType
  overload : Nat
deriving DecidableEq, Repr

/-! ## Dirt monitor (06, section 6.1) -/

/-- An OPEN window: the WIN it uses, in ms, and the moment it expires (06 R101). -/
structure Window where
  win : Nat
  expiry : Nat
deriving DecidableEq, Repr

structure Dirt where
  /-- OPEN, or CLOSED (none) -/
  window : Option Window
  count : Nat
  completed : Nat
  /-- oldest first -/
  ring : List Nat
  floorN : Option Nat
  raw : Nat
  heavy : Bool
  lockCount : Nat
  unlockCount : Nat
  eff : Nat
  /-- the moment of the previous counted edge (06 R100) -/
  lastEdge : Option Nat
deriving DecidableEq, Repr

/-! ## Bin gauge (06, section 6.2) -/

/-- Bin states (06 R121), in the order of that list. -/
inductive BinState where
  | detached
  | uncal
  | ready
  | full
deriving DecidableEq, Repr

/-- Results of a measurement (06, state table), in the order of that list. -/
inductive BinResult where
  | none
  | good
  | noisy
  | dead
  | stale
deriving DecidableEq, Repr

/-- The half counts of a try (06 R113). -/
structure Halves where
  h1 : Nat
  h2 : Nat
deriving DecidableEq, Repr

/-- A measurement in flight: the try, its frequency step and the captured settings (06 R112), and the last try as it stood before
the measurement started, to which a soft reset returns (06 R118, log 35). -/
structure Measurement where
  tryNo : Nat
  step : Nat
  refwin : Nat
  double : Bool
  hop : Bool
  hopTol : Nat
  priorTry : Option Halves
deriving DecidableEq, Repr

/-- Baseline, full count and fill, which exist together (06 R119, R120). -/
structure Calibration where
  baseline : Nat
  full : Nat
  fill : Nat
deriving DecidableEq, Repr

structure Bin where
  /-- the debounced latch is CLOSED -/
  closed : Bool
  latchTimer : Option Nat
  state : BinState
  meas : Option Measurement
  workStep : Nat
  calPending : Bool
  cal : Option Calibration
  lastCount : Option Nat
  lastResult : BinResult
  seq : Nat
  lastTry : Option Halves
deriving DecidableEq, Repr

/-! ## Charge account (07) -/

structure Account where
  q : Nat
  /-- mA·ms -/
  acc : Int
  fcc : Nat
  lastI : Option Int
  held : Nat
  discharged : Nat
  cycles : Nat
  /-- the session is OPEN -/
  session : Bool
  charged : Nat
  /-- learning is ARMED -/
  learning : Bool
  iavg : Nat
  estPending : Bool
  qEstimated : Bool
  qUnder : Bool
  qOver : Bool
deriving DecidableEq, Repr

/-! ## Charge controller (08) -/

/-- Charge states (08, state table), in the order of that list. -/
inductive ChargeState where
  | absent
  | qualify
  | waitIdle
  | precharge
  | bulk
  | topoff
  | balance
  | done
  | paused
  | fault
deriving DecidableEq, Repr

/-- Pause reasons (08, state table). -/
inductive PauseReason where
  | none
  | temp
  | therm
  | scan
deriving DecidableEq, Repr

/-- Charge fault causes (08, state table). -/
inductive ChargeCause where
  | none
  | noHello
  | overcurrent
  | noOrderRead
  | prechargeTime
  | cellOver
deriving DecidableEq, Repr

/-- A dock's announced capability (08 R142), mA and mV. -/
structure Capability where
  current : Nat
  voltage : Nat
deriving DecidableEq, Repr

/-- The order number last read, and when (08 R146). -/
structure OrderRead where
  number : Nat
  moment : Nat
deriving DecidableEq, Repr

/-- The latest valid values (08 R157). -/
structure LatestValues where
  vmin : Nat
  vmax : Nat
  spread : Nat
  tmin : Option Int
  tmax : Option Int
  thermFault : Bool
deriving DecidableEq, Repr

/-- The bleed switches BLD1 to BLD7 (08 R155). -/
structure Bleeds where
  b1 : Bool
  b2 : Bool
  b3 : Bool
  b4 : Bool
  b5 : Bool
  b6 : Bool
  b7 : Bool
deriving DecidableEq, Repr

/-- Every bleed off. -/
def Bleeds.off : Bleeds := ⟨false, false, false, false, false, false, false⟩

structure Charger where
  state : ChargeState
  attach : Nat
  detach : Nat
  helloTimer : Option Nat
  preTimer : Option Nat
  balTimer : Option Nat
  cap : Option Capability
  orderNum : Nat
  orderCur : Nat
  orderCeil : Nat
  read : Option OrderRead
  unreadSince : Option Nat
  excess : Nat
  cold : Bool
  latest : Option LatestValues
  bleeds : Bleeds
  pauseReason : PauseReason
  faultCause : ChargeCause
deriving DecidableEq, Repr

/-! ## Link ports (09) -/

/-- Slot states (09, state table). -/
inductive Slot where
  | idle
  | receiving
  | serving
  | answerReady
deriving DecidableEq, Repr

/-- An intact request frame: kind, tag and payload (09 R160). -/
structure Request where
  kind : Byte
  tag : Byte
  payload : List Byte
deriving DecidableEq, Repr

structure HandlePort where
  slot : Slot
  /-- the response frame standing in the buffer -/
  buf : List Byte
  /-- requests that arrived while the slot was SERVING, oldest first (09 R165, log 8) -/
  queue : List Request
  /-- the model's own: the bytes shifted out on SDO in the latest transaction (log 28) -/
  sdo : List Byte
deriving DecidableEq, Repr

structure WirePort where
  slot : Slot
  buf : List Byte
  gap : Option Nat
  /-- the port takes the remains of a frame that was too long (09 R161) -/
  discarding : Bool
  /-- the model's own: the latest response frame sent (log 28) -/
  sent : List Byte
deriving DecidableEq, Repr

structure Ports where
  handle : HandlePort
  wand : WirePort
  dock : WirePort
  /-- the handle notice set, one bit a name in the order of 09 R171 -/
  handleNotes : BitVec 15
  wandNotes : BitVec 1
  dockNotes : BitVec 3
deriving DecidableEq, Repr

/-- The record generations (09 R169; 10 R176). -/
structure Generations where
  status : Byte
  cells : Byte
  allowance : Byte
  claims : Byte
  suction : Byte
  dirt : Byte
  bin : Byte
  account : Byte
  charge : Byte
  page0 : Byte
  page1 : Byte
  page2 : Byte
  page3 : Byte
deriving DecidableEq, Repr

/-! ## Power control (10) -/

/-- The shelf entry (10, state table; R177). -/
inductive ShelfEntry where
  | none
  /-- PENDING with cause REQUEST; `delivered`: its response has been delivered or replaced -/
  | request (delivered : Bool)
  /-- PENDING with cause DEEP -/
  | deep
deriving DecidableEq, Repr

/-- Cause of an entry to SHELF (10, state table). -/
inductive ShelfCause where
  | request
  | deep
deriving DecidableEq, Repr

structure Power where
  /-- the power state is AWAKE, not SHELF -/
  awake : Bool
  entry : ShelfEntry
  shelfCause : Option ShelfCause
  wakeCause : Option WakeInput
  deepTimer : Option Nat
deriving DecidableEq, Repr

/-! ## The whole state -/

/-- The state of the part. -/
structure State where
  /-- the clock, in µs (the model's own, log 3) -/
  now : Nat
  /-- TRIG stands asserted (an input, log 1) -/
  trigLine : Bool
  /-- BINLATCH stands closed (an input, log 1) -/
  latchLine : Bool
  smp : Sampler
  alw : Allowance
  arb : Arbiter
  suc : Suction
  head : Head
  dirt : Dirt
  bin : Bin
  acct : Account
  chg : Charger
  ports : Ports
  settings : Settings
  pwr : Power
  gens : Generations
  /-- how many free choices have been taken (the model's own, log 18) -/
  choices : Nat
  /-- the commands that are waiting, first in, first out (log 2) -/
  pending : List Instr
deriving DecidableEq, Repr

/-- A single-wire port that is idle and empty (09 R174). -/
def WirePort.idle (sent : List Byte) : WirePort := ⟨.idle, [], none, false, sent⟩

/-- Every block at its power-on value (10 R182; the power-on columns of R20, R39, R65, R88, R99, R110, R123, R137, R159, R174),
with the clock, the input lines, the choice counter and the queue as given. The two debounce timers start and the first scan
is due at once. -/
def State.atPowerOn (now : Nat) (trigLine latchLine : Bool) (choices : Nat) (pending : List Instr) : State where
  now := now
  trigLine := trigLine
  latchLine := latchLine
  smp :=
    { cadence := .slow, phase := .resting now true, offset := 0, run := ⟨0, 0⟩, invalidCount := 0, number := 0, table := none,
      lastSwitch := none }
  alw :=
    { rcell := Settings.defaults.rInit, snapshot := none, inflight := none, pendingRInit := none, pallow := 0, cause := .initial,
      ovfV := false, ovfI := false, episode := false, discards := 0, last := none }
  arb :=
    { free := freeAll, suction := [], brush := [], ds := 0, dh := 0, gs := 0, gh := 0, shortS := false, shortH := false,
      used := 0, path := .idle, waiting := none }
  suc :=
    { pressed := false, trigTimer := some (now + 20000), lock := false, state := .stopped, faultCause := .none,
      stallTimer := none, stopTimer := none, enableAsked := false, overCount := 0, target := 0, acc := 0, duty := 0,
      trim := none, speed := 0, lastPulse := none, clogged := false, lockCount := 0, unlockCount := 0, episodes := 0,
      lastTemp := none }
  head := { wand := false, wandOff := none, info := none, silence := none, floor := .unknown, overload := 0 }
  dirt :=
    { window := none, count := 0, completed := 0, ring := [], floorN := none, raw := 0, heavy := false, lockCount := 0,
      unlockCount := 0, eff := 0, lastEdge := none }
  bin :=
    { closed := false, latchTimer := some (now + 20000), state := .detached, meas := none, workStep := 1, calPending := false,
      cal := none, lastCount := none, lastResult := .none, seq := 0, lastTry := none }
  acct :=
    { q := 0, acc := 0, fcc := Settings.defaults.designCap, lastI := none, held := 0, discharged := 0, cycles := 0,
      session := false, charged := 0, learning := false, iavg := 0, estPending := true, qEstimated := true, qUnder := false,
      qOver := false }
  chg :=
    { state := .absent, attach := 0, detach := 0, helloTimer := none, preTimer := none, balTimer := none, cap := none,
      orderNum := 0, orderCur := 0, orderCeil := Settings.defaults.chgVcell, read := none, unreadSince := none, excess := 0,
      cold := false, latest := none, bleeds := Bleeds.off, pauseReason := .none, faultCause := .none }
  ports :=
    { handle := ⟨.idle, [], [], []⟩, wand := WirePort.idle [], dock := WirePort.idle [], handleNotes := 0, wandNotes := 0,
      dockNotes := 0 }
  settings := Settings.defaults
  pwr := { awake := true, entry := .none, shelfCause := none, wakeCause := none, deepTimer := none }
  gens := ⟨0, 0, 0, 0, 0, 0, 0, 0, 0, 0, 0, 0, 0⟩
  choices := choices
  pending := pending

/-- The part right after power-on (10 R182), at clock 0, with TRIG not asserted, BINLATCH open (log 1) and nothing waiting. -/
def State.reset : State := State.atPowerOn 0 false false 0 []

end Sys2Proof.Machine
end

