-- ==== Sys2Proof/Machine/Ops.lean ====
section
/-! DEFINITION. The named operations that every block uses: the clock, the notice sets, held values. -/

namespace Sys2Proof.Machine

/-! ## The clock (log 3) -/

/-- A number of ms, in µs. -/
def ms (n : Nat) : Nat := n * 1000

/-- A command comes `dt` µs after the one before it. -/
def State.elapse (s : State) (dt : Nat) : State := { s with now := s.now + dt }

/-- An event comes at the moment `t` the state holds for it, or now when that moment has passed (log 4). -/
def State.reach (s : State) (t : Nat) : State := { s with now := max s.now t }

/-! ## Held values (00, "Limits") -/

/-- `x` saturated or clamped into `lo..hi`. -/
def clampInt (lo hi x : Int) : Int := max lo (min hi x)

/-- One more, holding at `top`. -/
def countUp (top n : Nat) : Nat := min top (n + 1)

/-! ## Notices (09, section 9.7) -/

/-- The handle link's notice names, in the order of 09 R171. -/
inductive HandleNotice where
  | grantCut
  | suctionFault
  | clog
  | runWait
  | binOpen
  | binFull
  | binDone
  | heavyDirt
  | headChange
  | headOverload
  | scanFault
  | dockChange
  | chargeState
  | chargeFault
  | shelfRefused
deriving DecidableEq, Repr

/-- The dock link's notice names, in the order of 09 R171. -/
inductive DockNotice where
  | orderChanged
  | chargeFault
  | binDone
deriving DecidableEq, Repr

/-- The set of one handle notice: one bit, in the order of 09 R171 from the least significant (11 R184). -/
def HandleNotice.bit : HandleNotice → BitVec 15
  | .grantCut => 0x0001#15
  | .suctionFault => 0x0002#15
  | .clog => 0x0004#15
  | .runWait => 0x0008#15
  | .binOpen => 0x0010#15
  | .binFull => 0x0020#15
  | .binDone => 0x0040#15
  | .heavyDirt => 0x0080#15
  | .headChange => 0x0100#15
  | .headOverload => 0x0200#15
  | .scanFault => 0x0400#15
  | .dockChange => 0x0800#15
  | .chargeState => 0x1000#15
  | .chargeFault => 0x2000#15
  | .shelfRefused => 0x4000#15

/-- The set of one dock notice (09 R171, 11 R184). -/
def DockNotice.bit : DockNotice → BitVec 3
  | .orderChanged => 1#3
  | .chargeFault => 2#3
  | .binDone => 4#3

/-- A notice raised into the handle link's set: it joins, or stays (09 R171). -/
def raiseHandle (n : HandleNotice) (s : State) : State :=
  { s with ports := { s.ports with handleNotes := s.ports.handleNotes ||| n.bit } }

/-- GRANT_CUT, the one notice of the wand link, raised into its set (09 R171). -/
def raiseWand (s : State) : State :=
  { s with ports := { s.ports with wandNotes := 1#1 } }

/-- A notice raised into the dock link's set (09 R171). -/
def raiseDock (n : DockNotice) (s : State) : State :=
  { s with ports := { s.ports with dockNotes := s.ports.dockNotes ||| n.bit } }

/-! ## Shelf cancellation (10 R178) -/

/-- A cancelling event: a PENDING shelf entry becomes NONE and SHELF_REFUSED is raised (10 R178). -/
def cancelShelf (s : State) : State :=
  if s.pwr.entry = .none then s
  else raiseHandle .shelfRefused { s with pwr := { s.pwr with entry := .none } }

/-- The deep-discharge timer is stopped (10 R179). -/
def stopDeepTimer (s : State) : State := { s with pwr := { s.pwr with deepTimer := none } }

/-! ## Answers to requests -/

/-- Status codes (09, "Status codes"). -/
inductive Status where
  | ok
  | clamped
  | accepted
  | busy
  | denied
  | badArg
  | state
  | depth
  | pool
  | label
  | empty
  | nosuch
deriving DecidableEq, Repr

/-- What serving a request gives: the state after it, the status code and the reply payload (09 R167). -/
structure Reply where
  st : State
  code : Status
  data : List Byte
deriving DecidableEq, Repr

/-- A request refused: no state changes (00, "Limits"). -/
def refuse (s : State) (c : Status) : Reply := ⟨s, c, []⟩

end Sys2Proof.Machine
end

