-- ==== Sys2Proof/Machine/Flags.lean ====
section
/-! DEFINITION. The flags and outputs that are functions of the state: the run request, the gated switches, the FAST demand, the
attention line, NOTE_PENDING, the flags of the charge order. -/

namespace Sys2Proof.Machine

/-- The run request is present: the debounced trigger is PRESSED or the lock latch is set (04 R69). -/
def State.runRequest (s : State) : Bool := s.suc.pressed || s.suc.lock

/-- MEN: on while the regulator asks for it and the path is DISCHARGE (03 R63). -/
def State.men (s : State) : Bool := s.suc.enableAsked && s.arb.path == .discharge

/-- The charging states PRECHARGE, BULK and TOPOFF (08, section 8.2). -/
def ChargeState.charging : ChargeState → Bool
  | .precharge | .bulk | .topoff => true
  | _ => false

/-- CHGG: closed while the charge controller asks for it (08 R141) and the path is CHARGE (03 R63). -/
def State.chgg (s : State) : Bool := s.chg.state.charging && s.arb.path == .charge

/-- The FAST demand (01 R2). -/
def State.fastDemand (s : State) : Bool :=
  s.runRequest || s.arb.path != .idle || s.head.wand || s.chg.state != .absent || s.bin.meas.isSome

/-- ATTN: asserted while AWAKE and the handle set holds a notice that is not masked (09 R172). -/
def State.attn (s : State) : Bool :=
  s.pwr.awake && (s.ports.handleNotes &&& ~~~s.settings.attnMask) != 0#15

/-- NOTE_PENDING: the link's notice set holds at least one notice; masked ones count (09 R167). -/
def State.notePending (s : State) : Link → Bool
  | .handle => s.ports.handleNotes != 0#15
  | .wand => s.ports.wandNotes != 0#1
  | .dock => s.ports.dockNotes != 0#3

/-- The three switches that 01 R15 watches, as they stand. -/
def State.switches (s : State) : Bool × Bool × Bool := (s.men, s.chgg, s.head.wand)

/-- Some switch that 01 R15 watches is on. -/
def State.anySwitch (s : State) : Bool := s.men || s.chgg || s.head.wand

/-- The charge order is read: its number equals the read number (08 R146). -/
def State.orderIsRead (s : State) : Bool :=
  match s.chg.read with
  | some r => r.number == s.chg.orderNum
  | none => false

/-- Grace has passed: the order is read and 500 ms or more have passed since the read (08 R146). -/
def State.gracePassed (s : State) : Bool :=
  match s.chg.read with
  | some r => r.number == s.chg.orderNum && decide (r.moment + ms 500 ≤ s.now)
  | none => false

/-- A scan record is VALID (01 R13). -/
def ScanRecord.isValid (r : ScanRecord) : Bool := r.validity == .valid

end Sys2Proof.Machine
end

