-- ==== Sys2Proof/Machine/Curves.lean ====
section
/-! DEFINITION. The polylines of the part: the thermistor table (01 R9), the derate curve (02 R35), the open-circuit table
(07 R134) and the suction curves (04 R85). Quotients truncate toward zero. -/

namespace Sys2Proof.Machine

/-! ## Thermistors (01 R9) -/

/-- The nine points of code and temperature, the code falling (01 R9). -/
def thermTable : List (Nat × Int) :=
  [(3900, -40), (3500, -20), (2900, 0), (2200, 20), (1550, 40), (1050, 60), (700, 80), (450, 100), (150, 125)]

/-- The temperature at `code` on a falling polyline: the first segment whose lower code does not exceed `code` (01 R9). -/
def thermWalk : List (Nat × Int) → Nat → Int
  | (c1, t1) :: (c2, t2) :: rest, code =>
    if c2 ≤ code then t1 + Int.tdiv ((t2 - t1) * ((c1 : Int) - code)) ((c1 : Int) - c2)
    else thermWalk ((c2, t2) :: rest) code
  | [(_, t)], _ => t
  | [], _ => 0

/-- A thermistor channel (01 R9): OPEN above 3900, SHORT below 150, otherwise the table's temperature. -/
def thermConvert (code : Nat) : Therm :=
  if 3900 < code then .opened
  else if code < 150 then .shorted
  else .ok (thermWalk thermTable code)

/-! ## The derate curve (02 R35) -/

/-- D at `t` past the first point: within the first segment whose upper temperature is above `t`, D8 past the last point. -/
def derateWalk : List DeratePoint → Int → Int
  | p :: q :: rest, t =>
    if t < q.t then p.d + Int.tdiv ((q.d - p.d) * (t - p.t)) (q.t - p.t) else derateWalk (q :: rest) t
  | [p], _ => p.d
  | [], _ => 0

/-- The factor D read from the derate curve at Tmax (02 R35). -/
def derateAt (points : List DeratePoint) (t : Int) : Int :=
  match points with
  | p :: rest => if t ≤ p.t then p.d else derateWalk (p :: rest) t
  | [] => 0

/-- Strictly increasing temperatures. -/
def increasing : List DeratePoint → Bool
  | p :: q :: rest => decide (p.t < q.t) && increasing (q :: rest)
  | _ => true

/-- A derate curve that a write may set (02 R40). -/
def derateOk (points : List DeratePoint) : Bool :=
  increasing points && points.all fun p => decide (-40 ≤ p.t ∧ p.t ≤ 125 ∧ 0 ≤ p.d ∧ p.d ≤ 256)

/-! ## The open-circuit table (07 R134) -/

/-- The five points of Vmean and percent (07 R134). -/
def ocvTable : List (Nat × Nat) := [(3300, 0), (3600, 20), (3750, 50), (3950, 80), (4150, 100)]

/-- The percent past the first point of the table. -/
def ocvWalk : List (Nat × Nat) → Nat → Nat
  | (v1, p1) :: (v2, p2) :: rest, v =>
    if v < v2 then p1 + (p2 - p1) * (v - v1) / (v2 - v1) else ocvWalk ((v2, p2) :: rest) v
  | [(_, p)], _ => p
  | [], _ => 0

/-- The percent of charge at a resting Vmean (07 R134). -/
def ocvPercent (v : Nat) : Nat := if v ≤ 3300 then 0 else ocvWalk ocvTable v

/-! ## The suction curves (04 R85) -/

/-- 16 times the value of a suction curve at index `d`, before truncation (04 R85). -/
def curveV16 (c : Curve) (d : Nat) : Int :=
  (c.base : Int) * 16 + 32 * (c.slopes.take (d / 32)).sum + c.slopes.getD (d / 32) 0 * ((d % 32 : Nat) : Int)

/-- The value of a suction curve at index `d`, in 0..600 W (04 R85). -/
def curveValue (c : Curve) (d : Nat) : Nat := (clampInt 0 600 (Int.tdiv (curveV16 c d) 16)).toNat

/-- A curve that a write may set (04 R86). -/
def curveOk (base : Int) (slopes : List Int) : Bool :=
  decide (0 ≤ base ∧ base ≤ 600) && slopes.all fun x => decide (-128 ≤ x ∧ x ≤ 127)

/-- The curve in use: CARPET on carpet, otherwise HARD (04 R85). -/
def State.curveInUse (s : State) : Curve :=
  if s.head.floor = .carpet then s.settings.carpet else s.settings.hard

/-- The curve in use at the present effective dirt index (04 R85, R87). -/
def State.curveNow (s : State) : Nat := curveValue s.curveInUse s.dirt.eff

end Sys2Proof.Machine
end

