-- ==== Sys2Proof/Machine/Scan.lean ====
section
/-! DEFINITION. The arithmetic of one scan (01, sections 1.3 to 1.5): codes to units, the derived values of the cell table, validity. -/

namespace Sys2Proof.Machine

/-! ## The cell table (01 R12) -/

/-- The seven voltages in cell order. -/
def Cells.toList (c : Cells) : List Nat := [c.c1, c.c2, c.c3, c.c4, c.c5, c.c6, c.c7]

/-- Vmin: the lowest of the seven voltages. -/
def Cells.vmin (c : Cells) : Nat := c.toList.foldl min c.c1

/-- Vmax: the highest of the seven voltages. -/
def Cells.vmax (c : Cells) : Nat := c.toList.foldl max c.c1

/-- The lowest cell index, 1 to 7, whose voltage is `v`. -/
def Cells.indexOf (c : Cells) (v : Nat) : Nat := c.toList.findIdx (· == v) + 1

/-- Vmin's index. -/
def Cells.vminIndex (c : Cells) : Nat := c.indexOf c.vmin

/-- Vmax's index. -/
def Cells.vmaxIndex (c : Cells) : Nat := c.indexOf c.vmax

/-- Spread: Vmax − Vmin. -/
def Cells.spread (c : Cells) : Nat := c.vmax - c.vmin

/-- Sum of the seven voltages. -/
def Cells.sum (c : Cells) : Nat := c.c1 + c.c2 + c.c3 + c.c4 + c.c5 + c.c6 + c.c7

/-- Vmean: Sum / 7, truncated. -/
def Cells.vmean (c : Cells) : Nat := c.sum / 7

/-! ## Conversion (01 R5 to R11) -/

/-- A cell voltage, or the reference: mV = code × 5000 / 4096 (01 R5, R11). -/
def cellMv (code : Code) : Nat := code.toNat * 5000 / 4096

/-- A raw pack current sample, no offset: (code − 2048) × 25 (01 R6). -/
def rawSample (code : Code) : Int := ((code.toNat : Int) - 2048) * 25

/-- A sample at the converter's end of range is SATURATED (01 R6). -/
def sampleSat (code : Code) : Bool := code.toNat == 0 || code.toNat == 4095

/-- A pack current sample with the offset in force (01 R6). -/
def sample (offset : Int) (code : Code) : Int :=
  if code.toNat = 0 then -51200
  else if code.toNat = 4095 then 51175
  else clampInt (-51200) 51175 (rawSample code - offset)

/-- The scan's pack current, from its two samples (01 R7): with any sample saturated, the limit of the second if it is
saturated, else of the first. -/
def packCurrent (offset : Int) (c1 c2 : Code) : Int :=
  if sampleSat c2 then sample offset c2
  else if sampleSat c1 then sample offset c1
  else Int.tdiv (sample offset c1 + sample offset c2) 2

/-- The scan's raw pack current (01 R7). -/
def rawCurrent (c1 c2 : Code) : Int := Int.tdiv (rawSample c1 + rawSample c2) 2

/-- The cells of a scan (01 R5). -/
def scanCells (k : ScanCodes) : Cells :=
  ⟨cellMv k.cell1, cellMv k.cell2, cellMv k.cell3, cellMv k.cell4, cellMv k.cell5, cellMv k.cell6, cellMv k.cell7⟩

/-- The hotter pack temperature (01 R10). -/
def hotter : Therm → Therm → Option Int
  | .ok a, .ok b => some (max a b)
  | .ok a, _ => some a
  | _, .ok b => some b
  | _, _ => none

/-- The colder pack temperature (01 R10). -/
def colder : Therm → Therm → Option Int
  | .ok a, .ok b => some (min a b)
  | .ok a, _ => some a
  | _, .ok b => some b
  | _, _ => none

/-- THERM_FAULT: both pack thermistors OPEN or SHORT (01 R10). -/
def bothInvalid : Therm → Therm → Bool
  | .ok _, _ => false
  | _, .ok _ => false
  | _, _ => true

/-! ## Validity (01 R13) -/

/-- Validity and cause from the reference, the divider and the sum of the cells (01 R13). -/
def judgeScan (reference vpack sum : Nat) : Validity :=
  if ¬ (1225 ≤ reference ∧ reference ≤ 1275) then .refFault
  else if vpack ≤ sum + 500 ∧ sum ≤ vpack + 500 then .valid
  else .tapFault

/-- The next scan number: 1..65535, wrapping to 1 (01 R19). -/
def nextScanNumber (n : Nat) : Nat := if 65535 ≤ n then 1 else n + 1

/-- The interval of a scan: 2 ms in FAST cadence, 100 ms in SLOW (01 R3). -/
def Cadence.interval : Cadence → Nat
  | .fast => 2
  | .slow => 100

/-- The record of a scan started with `first` under the sampler's cadence (01 R19). -/
def scanRecord (m : Sampler) (first : Bool) (k : ScanCodes) : ScanRecord :=
  let cells := scanCells k
  let reference := cellMv k.reference
  let vpack := k.divider.toNat * 10
  let validity := judgeScan reference vpack cells.sum
  let a := thermConvert k.thermA.toNat
  let b := thermConvert k.thermB.toNat
  { number := nextScanNumber m.number
    cadence := m.cadence
    interval := m.cadence.interval
    first := first
    validity := validity
    invalidCount := if validity = .valid then 0 else countUp 255 m.invalidCount
    cells := cells
    i := packCurrent m.offset k.pack1 k.pack2
    iSat := sampleSat k.pack1 || sampleSat k.pack2
    motor := k.motor.toNat * 12
    motorSat := k.motor.toNat == 4095
    thermA := a
    thermB := b
    tmax := hotter a b
    tmin := colder a b
    thermFault := bothInvalid a b
    motorTemp := thermConvert k.thermM.toNat
    dock := k.dock.toNat * 50000 / 4096
    reference := reference
    vpack := vpack
    offset := m.offset }

/-! ## Auto-zero (01 R15 to R18) -/

/-- The offset after one PER_SCAN update (01 R16). -/
def autoZeroPerScan (offset raw : Int) : Int := clampInt (-500) 500 (offset + Int.tdiv (raw - offset) 16)

/-- The offset after a full run of 64 with this sum (01 R17). -/
def autoZeroPer64 (offset sum : Int) : Int :=
  clampInt (-500) 500 (offset + Int.tdiv (Int.tdiv sum 64 - offset) 4)

/-- The auto-zero at a scan completion (01 R15 to R17): `qualifies` by R15, `raw` the scan's raw pack current. -/
def autoZero (mode : AutoZero) (qualifies : Bool) (raw : Int) (m : Sampler) : Sampler :=
  match mode, qualifies with
  | .perScan, true => { m with offset := autoZeroPerScan m.offset raw }
  | .per64, true =>
    if 63 ≤ m.run.count then { m with offset := autoZeroPer64 m.offset (m.run.sum + raw), run := ⟨0, 0⟩ }
    else { m with run := ⟨m.run.count + 1, m.run.sum + raw⟩ }
  | .off, true => m
  | _, false => { m with run := ⟨0, 0⟩ }

end Sys2Proof.Machine
end

