-- ==== Sys2Proof/Machine/Account.lean ====
section
/-! DEFINITION. The charge account (07): counting, marks, learning, average current, design capacity. -/

namespace Sys2Proof.Machine

/-- The cycle comparison: while the discharged count stands at FCC or above, a cycle is counted and FCC is taken from the count
(07 R127). -/
def Account.countCycles (a : Account) : Account :=
  if a.fcc = 0 then a
  else
    { a with cycles := min 65535 (a.cycles + a.discharged / a.fcc), discharged := a.discharged % a.fcc }

/-- One whole mAh removed (07 R124, R126, R127). -/
def Account.removeOne (a : Account) : Account :=
  let b := if a.q = 0 then { a with qUnder := true } else { a with q := a.q - 1 }
  Account.countCycles { b with discharged := b.discharged + 1 }

/-- One whole mAh added (07 R124, R126, R128). -/
def Account.addOne (a : Account) : Account :=
  let b := if a.fcc ≤ a.q then { a with qOver := true } else { a with q := a.q + 1 }
  if b.session then { b with charged := countUp 65535 b.charged } else b

/-- `n` whole mAh removed. -/
def Account.removeMany : Nat → Account → Account
  | 0, a => a
  | n + 1, a => Account.removeMany n a.removeOne

/-- `n` whole mAh added. -/
def Account.addMany : Nat → Account → Account
  | 0, a => a
  | n + 1, a => Account.addMany n a.addOne

/-- The accumulator's mA·ms in one whole mAh (07 R124). -/
def mAh : Nat := 3600000

/-- A charge of `x` mA·ms joins the accumulator, which is resolved into whole mAh (07 R124). -/
def Account.integrate (x : Int) (a : Account) : Account :=
  let total := a.acc + x
  let n := total.natAbs / mAh
  let b := { a with acc := Int.tmod total mAh }
  if 0 ≤ total then Account.removeMany n b else Account.addMany n b

/-- The scan's integration (07 R125). -/
def Account.integrateScan (r : ScanRecord) (a : Account) : Account :=
  if r.isValid then
    let b := if r.first then a else a.integrate (r.i * (r.interval : Int))
    { b with lastI := some r.i }
  else if r.first then a
  else
    match a.lastI with
    | none => a
    | some i => { a.integrate (i * (r.interval : Int)) with held := countUp 65535 a.held }

/-- Ieff: the pack current when above 0, otherwise 0 (02 R31, 07 R132). -/
def effCurrent (i : Int) : Int := max 0 i

/-- The average current after a scan (07 R132). -/
def Account.average (r : ScanRecord) (a : Account) : Account :=
  match r.cadence with
  | .slow => { a with iavg := 0 }
  | .fast =>
    if r.isValid then { a with iavg := ((a.iavg : Int) + Int.tdiv (effCurrent r.i - a.iavg) 64).toNat } else a

/-- The power-on estimate, at the first valid scan while it is pending (07 R134). -/
def Account.estimate (r : ScanRecord) (a : Account) : Account :=
  if a.estPending && r.isValid then
    { a with q := a.fcc * ocvPercent r.cells.vmean / 100, estPending := false }
  else a

/-- The account's work at a scan completion: the estimate, the integration, the average current (07 R124, R125, R132, R134). -/
def Account.scan (r : ScanRecord) (a : Account) : Account := ((a.estimate r).integrateScan r).average r

/-- The empty mark (07 R129). -/
def Account.emptyMark (a : Account) : Account :=
  { a with q := 0, acc := 0, qEstimated := false, charged := 0, learning := true }

/-- FCC held within DESIGN_CAP / 2 .. DESIGN_CAP × 11 / 10 (07 R126). -/
def holdFcc (designCap : Nat) (x : Int) : Nat :=
  (clampInt ((designCap / 2 : Nat) : Int) ((designCap * 11 / 10 : Nat) : Int) x).toNat

/-- The learning step of the full mark (07 R131 step 1). -/
def Account.learn (designCap : Nat) (a : Account) : Account :=
  if a.learning then
    Account.countCycles
      { a with fcc := holdFcc designCap ((a.fcc : Int) + Int.tdiv ((a.charged : Int) - a.fcc) 4) }
  else a

/-- The full mark (07 R131). -/
def Account.fullMark (designCap : Nat) (a : Account) : Account :=
  let b := a.learn designCap
  { b with q := b.fcc, acc := 0, qEstimated := false, learning := false }

/-- A session opening (07 R128). -/
def Account.openSession (a : Account) : Account := { a with session := true, charged := 0 }

/-- A session closing, which disarms learning (07 R128, R130). With no session open nothing is closed (07 R130). -/
def Account.closeSession (a : Account) : Account :=
  if a.session then { a with session := false, learning := false } else a

/-- A DESIGN_CAP write applied: FCC held within its bounds, Q held at FCC, the discharged count compared (07 R135). -/
def Account.applyDesignCap (designCap : Nat) (a : Account) : Account :=
  let fcc := holdFcc designCap a.fcc
  Account.countCycles { a with fcc := fcc, q := min a.q fcc }

end Sys2Proof.Machine
end

