-- ==== Sys2Proof/Machine/Arbiter.lean ====
section
/-! DEFINITION. The claim arbiter (03): the pool and the stacks, demands and grants, the power path. -/

namespace Sys2Proof.Machine

/-! ## Stacks and the free list (03, sections 3.1 and 3.2) -/

/-- A push takes the index at the head of the free list and places its record on top of the suction stack (03 R43, R47). -/
def Arbiter.pushSuction (a : Arbiter) (k : ClaimKind) (label : Byte) : Arbiter :=
  match a.free with
  | [] => a
  | i :: rest => { a with free := rest, suction := ⟨i, k, label⟩ :: a.suction }

/-- The same on the brush stack. -/
def Arbiter.pushBrush (a : Arbiter) (k : ClaimKind) (label : Byte) : Arbiter :=
  match a.free with
  | [] => a
  | i :: rest => { a with free := rest, brush := ⟨i, k, label⟩ :: a.brush }

/-- A pop places the top record's index at the head of the free list (03 R48). -/
def Arbiter.popSuction (a : Arbiter) : Arbiter :=
  match a.suction with
  | [] => a
  | c :: rest => { a with free := c.index :: a.free, suction := rest }

/-- The same on the brush stack. -/
def Arbiter.popBrush (a : Arbiter) : Arbiter :=
  match a.brush with
  | [] => a
  | c :: rest => { a with free := c.index :: a.free, brush := rest }

/-- A replace gives the top record a new kind and value; index, place and label stay (03 R49). -/
def Arbiter.replaceSuction (a : Arbiter) (k : ClaimKind) : Arbiter :=
  match a.suction with
  | [] => a
  | c :: rest => { a with suction := { c with kind := k } :: rest }

/-- The same on the brush stack. -/
def Arbiter.replaceBrush (a : Arbiter) (k : ClaimKind) : Arbiter :=
  match a.brush with
  | [] => a
  | c :: rest => { a with brush := { c with kind := k } :: rest }

/-- A drop releases a stack top first, each record to the head of the free list (03 R50): the bottom record ends at the head. -/
def Arbiter.dropSuction (a : Arbiter) : Arbiter :=
  { a with free := (a.suction.reverse.map (·.index)) ++ a.free, suction := [] }

/-- The same on the brush stack. -/
def Arbiter.dropBrush (a : Arbiter) : Arbiter :=
  { a with free := (a.brush.reverse.map (·.index)) ++ a.free, brush := [] }

/-- Both stacks are emptied together and the free list takes its power-on order (03 R43, R51). -/
def Arbiter.dropBoth (a : Arbiter) : Arbiter := { a with free := freeAll, suction := [], brush := [] }

/-! ## Demands (03 R52 to R54) -/

/-- The uncapped suction demand (03 R52). -/
def State.uncappedDs (s : State) : Nat :=
  if s.runRequest && (s.suc.state == .starting || s.suc.state == .running) then
    match s.arb.suction with
    | [] => 0
    | c :: _ =>
      match c.kind with
      | .level w => w
      | .curve ceiling => min s.curveNow ceiling
      | .zero => 0
  else 0

/-- The suction demand, capped by the bin state and the clog state (03 R53). -/
def State.demandS (s : State) : Nat :=
  let afterBin :=
    match s.bin.state with
    | .full => min s.uncappedDs s.settings.binCap
    | .detached => 0
    | _ => s.uncappedDs
  if s.suc.clogged then min afterBin s.settings.clogCap else afterBin

/-- The brush demand (03 R54). -/
def State.demandH (s : State) : Nat :=
  match s.head.wand, s.head.info, s.arb.brush with
  | true, some h, c :: _ =>
    match c.kind with
    | .level w => min w h.rating
    | .curve _ => 0
    | .zero => 0
  | _, _, _ => 0

/-! ## Grants (03 R55 to R58) -/

/-- The brush share of the published allowance (03 R56). -/
def State.brushShare (s : State) : Nat := s.alw.pallow * s.settings.headShare / 256

/-- The brush grant a recomputation forms (03 R56). -/
def State.grantH (s : State) : Nat := min s.demandH s.brushShare

/-- The suction grant a recomputation forms (03 R56). -/
def State.grantS (s : State) : Nat := min s.demandS (s.alw.pallow - s.grantH)

/-- The arbiter with the demands, grants, short flags and allowance used of a recomputation (03 R56, R64). -/
def State.formGrants (s : State) : Arbiter :=
  { s.arb with
    ds := s.demandS, dh := s.demandH, gs := s.grantS, gh := s.grantH
    shortS := decide (s.grantS < s.demandS), shortH := decide (s.grantH < s.demandH), used := s.alw.pallow }

/-- The duty of the trim loop: target × 1000 / PFULL + accumulator / 64, held within 0..1000, in STARTING and RUNNING; 0 in every
other state (04 R80). -/
def dutyFor (st : SuctionState) (pfull target : Nat) (acc : Int) : Nat :=
  match st with
  | .starting | .running => (clampInt 0 1000 (((target * 1000 / pfull : Nat) : Int) + Int.tdiv acc 64)).toNat
  | _ => 0

/-- The regulator takes its grant: a target above it falls to it, and the duty follows (03 R57; 04 R78, R80). -/
def takeGrant (pfull gs : Nat) (u : Suction) : Suction :=
  if gs < u.target then { u with target := gs, duty := dutyFor u.state pfull gs u.acc } else u

/-- GRANT_CUT for each short flag that was clear and is set (03 R58). -/
def raiseCuts (old : Arbiter) (s : State) : State :=
  let s := if !old.shortS && s.arb.shortS then raiseHandle .grantCut s else s
  if !old.shortH && s.arb.shortH then raiseWand s else s

/-- A recomputation of demands and grants, handed to the regulator (03 R55 to R58). Where one event gives the arbiter several causes,
their order is log 37. -/
def recompute (s : State) : State :=
  raiseCuts s.arb
    { s with arb := s.formGrants, suc := takeGrant s.settings.pfull s.grantS s.suc }

/-- The recomputation that an allowance completion causes: a hard stop that finds Gs above 0 raises GRANT_CUT (03 R58). -/
def recomputeCompletion (hardStop : Bool) (s : State) : State :=
  let t := recompute s
  if hardStop && decide (0 < s.arb.gs) then raiseHandle .grantCut t else t

/-- A release of the brush stack by the arbiter, with its recomputation (03 R51). -/
def dropBrushStack (s : State) : State := recompute { s with arb := s.arb.dropBrush }

/-! ## The power path (03 R59 to R62) -/

/-- The value of the path that a side holds. -/
def Side.path : Side → Path
  | .suction => .discharge
  | .charger => .charge

/-- A path request (03 R60). A change away from IDLE cancels a pending shelf entry and stops the deep-discharge timer
(10 R178, R179). -/
def arbRequest (side : Side) (s : State) : State × PathAnswer :=
  if s.arb.path = .idle then
    (stopDeepTimer (cancelShelf { s with arb := { s.arb with path := side.path, waiting := none } }), .taken)
  else if s.arb.path = side.path then (s, .held)
  else ({ s with arb := { s.arb with waiting := some side } }, .waiting)

/-- A release by a side (03 R61): the state after it, and the side that then receives TAKEN. -/
def arbRelease (side : Side) (s : State) : State × Option Side :=
  if s.arb.path = side.path then
    match s.arb.waiting with
    | some other => ({ s with arb := { s.arb with path := other.path, waiting := none } }, some other)
    | none => ({ s with arb := { s.arb with path := .idle } }, none)
  else (s, none)

/-- A withdrawal by a side whose request is waiting (03 R62). -/
def arbWithdraw (side : Side) (s : State) : State :=
  if s.arb.waiting = some side then { s with arb := { s.arb with waiting := none } } else s

end Sys2Proof.Machine
end

