-- ==== Sys2Proof/Machine/Budget.lean ====
section
/-! DEFINITION. The allowance unit (02): the capture, the eight stages, the publish. -/

namespace Sys2Proof.Machine

/-- IFUSE, the fixed current limit of the pack fuse path, in mA (02 R22). -/
def ifuse : Int := 40000

/-- The inputs captured at the start of a computation (02 R22). -/
def capture (s : State) (r : ScanRecord) : Capture where
  number := r.number
  vmin := r.cells.vmin
  vmean := r.cells.vmean
  i := r.i
  iSat := r.iSat
  tmax := r.tmax
  tmin := r.tmin
  thermFault := r.thermFault
  rcell := s.alw.rcell
  snapshot := s.alw.snapshot
  vcut := s.settings.vcut
  vstop := s.settings.vstop
  prated := s.settings.prated
  riseStep := s.settings.riseStep
  stepMin := s.settings.stepMin
  tdisLo := s.settings.tdisLo
  tdisHi := s.settings.tdisHi
  derate := s.settings.derate

/-! ## Stage 0 (02 R26, R27) -/

/-- What stage 0 gives: Rnew if an estimate is made, Rcell after it, whether it was discarded, RCLAMP. -/
structure Stage0 where
  rnew : Option Int
  rcell : Nat
  discarded : Bool
  rclamp : Bool
deriving DecidableEq, Repr

/-- Rcell moved an eighth of the way toward a saturated Rnew (02 R27). -/
def stepRcell (rcell : Nat) (rnew : Int) : Nat :=
  ((rcell : Int) + Int.tdiv (clampInt 50 2000 rnew - rcell) 8).toNat

/-- Stage 0, the resistance estimate (02 R26, R27). -/
def stage0 (c : Capture) : Stage0 :=
  match c.snapshot with
  | none => ⟨none, c.rcell, false, false⟩
  | some p =>
    if p.sat || c.iSat || decide ((c.i - p.i).natAbs < c.stepMin) then ⟨none, c.rcell, false, false⟩
    else
      let rnew := Int.tdiv (((p.vmean : Int) - c.vmean) * 10000) (c.i - p.i)
      if rnew ≤ 0 then ⟨some rnew, c.rcell, true, false⟩
      else ⟨some rnew, stepRcell c.rcell rnew, false, decide (rnew < 50 ∨ 2000 < rnew)⟩

/-! ## Stages 1 to 7 (02 R29 to R35) -/

/-- Stage 1: the cause of a hard stop, if one of its checks holds (02 R29). -/
def hardStop (c : Capture) : Option Cause :=
  if c.vmin < c.vstop then some .stopVolt
  else if c.thermFault then some .stopTherm
  else if (c.tmax.any fun t => decide (c.tdisHi < t)) || (c.tmin.any fun t => decide (t < c.tdisLo)) then some .stopTemp
  else none

/-- Stage 7's factor D at Tmax (02 R35). Tmax is present wherever stage 7 runs: THERM_FAULT alone makes it absent (01 R10). -/
def derateFactor (c : Capture) : Int := derateAt c.derate (c.tmax.getD 0)

/-- The computed value Plim × D / 256 (02 R35). -/
def computedPower (plim : Nat) (d : Int) : Nat := (Int.tdiv ((plim : Int) * d) 256).toNat

/-- The figures of a computation, stages 0 to 7 (02 R26 to R35). -/
def figures (c : Capture) : Figures :=
  let z := stage0 c
  match hardStop c with
  | some cause =>
    { inputs := c, rnew := z.rnew, rcellAfter := z.rcell, discarded := z.discarded, sag := none, voc := none,
      headroom := none, imax := none, pmax := none, plim := none, d := none, computed := 0, cause := cause, ovfV := false,
      ovfI := false, limited := false, rclamp := z.rclamp }
  | none =>
    let sag := (effCurrent c.i).toNat * z.rcell / 10000
    let vocRaw := c.vmin + sag
    let voc := min 4500 vocRaw
    let headroom := (voc : Int) - c.vcut
    let d := derateFactor c
    if headroom ≤ 0 then
      { inputs := c, rnew := z.rnew, rcellAfter := z.rcell, discarded := z.discarded, sag := some sag, voc := some voc,
        headroom := some headroom, imax := none, pmax := some 0, plim := some 0, d := some d, computed := computedPower 0 d,
        cause := .noHeadroom, ovfV := decide (4500 < vocRaw), ovfI := false, limited := false, rclamp := z.rclamp }
    else
      let imaxRaw := Int.tdiv (headroom * 10000) z.rcell
      let imax := min ifuse imaxRaw
      let pmax := (Int.tdiv (imax * c.vcut * 7) 1000000).toNat
      let plim := min pmax c.prated
      { inputs := c, rnew := z.rnew, rcellAfter := z.rcell, discarded := z.discarded, sag := some sag, voc := some voc,
        headroom := some headroom, imax := some imax.toNat, pmax := some pmax, plim := some plim, d := some d,
        computed := computedPower plim d, cause := .ok, ovfV := decide (4500 < vocRaw), ovfI := decide (ifuse < imaxRaw),
        limited := decide (c.prated < pmax), rclamp := z.rclamp }

/-! ## Stage 8 and the publish (02 R36 to R38, R30) -/

/-- The published value after a computation (02 R36). -/
def publishedValue (pallow computed riseStep : Nat) : Nat :=
  if computed ≤ pallow then computed else min computed (pallow + riseStep)

/-- The cause is one of the hard stop's (03 R58). -/
def Cause.isStop : Cause → Bool
  | .stopVolt | .stopTherm | .stopTemp => true
  | _ => false

/-- The allowance unit after the completion of a computation with these figures (02 R26, R27, R28, R30, R36, R38). -/
def Allowance.complete (f : Figures) (a : Allowance) : Allowance :=
  { a with
    rcell := a.pendingRInit.getD f.rcellAfter
    snapshot := some ⟨f.inputs.vmean, f.inputs.i, f.inputs.iSat⟩
    inflight := none
    pendingRInit := none
    pallow := publishedValue a.pallow f.computed f.inputs.riseStep
    cause := f.cause
    ovfV := a.ovfV || f.ovfV
    ovfI := a.ovfI || f.ovfI
    episode := f.cause == .stopVolt
    discards := if f.discarded then countUp 65535 a.discards else a.discards
    last := some f }

/-- An allowance completion: the unit's own state, the empty mark when the episode opens, and the recomputation
(02 R30, R36, R37). -/
def completeBudget (f : Figures) (s : State) : State :=
  let opens := f.cause == .stopVolt && !s.alw.episode
  let t := { s with alw := s.alw.complete f, acct := if opens then s.acct.emptyMark else s.acct }
  recomputeCompletion f.cause.isStop t

/-- The allowance unit's own work on a scan record: a capture, or the empty snapshot and the SCAN_FAULT publish
(02 R21 to R24). -/
def allowanceScan (r : ScanRecord) (s : State) : State :=
  if r.isValid then { s with alw := { s.alw with inflight := some ⟨capture s r, s.now + 400⟩ } }
  else if r.invalidCount = 3 then
    raiseHandle .scanFault { s with alw := { s.alw with snapshot := none, pallow := 0, cause := .scanFault } }
  else { s with alw := { s.alw with snapshot := none } }

end Sys2Proof.Machine
end

