-- ==== Sys2Proof/Machine/Gauge.lean ====
section
/-! DEFINITION. The bin gauge's own operations (06, sections 6.2 and 6.3). -/

namespace Sys2Proof.Machine

/-- A measurement starts at the working step with the settings as they stand (06 R112). -/
def Bin.start (t : Settings) (b : Bin) : Bin :=
  { b with
    meas :=
      some
        { tryNo := 1, step := b.workStep, refwin := t.refwin, double := t.double, hop := t.hop, hopTol := t.hopTol,
          priorTry := b.lastTry } }

/-- The last try as it stands with a measurement in flight cancelled: as it stood before the measurement started (06 R118,
log 35). -/
def Bin.tryBefore (b : Bin) : Option Halves :=
  match b.meas with
  | some m => m.priorTry
  | none => b.lastTry

/-- The full count of a baseline (06 R119). -/
def fullCount (baseline ratio : Nat) : Nat := baseline * ratio / 256

/-- The fill of a last count against a baseline (06 R120). -/
def fillOf (baseline full last : Nat) : Nat :=
  if baseline ≤ last then 0 else min 100 ((baseline - last) * 100 / (baseline - full))

/-- The bin state re-judged on a fill (06 R121): the state, and whether BIN_FULL is raised. -/
def judgeFill (fullPct fill : Nat) : BinState → BinState × Bool
  | .ready => if fullPct ≤ fill then (.full, true) else (.ready, false)
  | .full => if fill + 10 < fullPct then (.ready, false) else (.full, false)
  | .detached => (.detached, false)
  | .uncal => (.uncal, false)

/-- A GOOD count applied (06 R119 to R121): the gauge after it, and whether BIN_FULL is raised. -/
def Bin.applyGood (t : Settings) (count : Nat) (b : Bin) : Bin × Bool :=
  if b.state = .uncal ∨ b.calPending = true then
    ({ b with
        lastCount := some count, calPending := false, state := .ready,
        cal := some ⟨count, fullCount count t.fullRatio, 0⟩ }, false)
  else
    match b.cal with
    | none => ({ b with lastCount := some count }, false)
    | some c =>
      let fill := fillOf c.baseline c.full count
      let (st, raised) := judgeFill t.fullPct fill b.state
      ({ b with lastCount := some count, cal := some { c with fill := fill }, state := st }, raised)

/-- A measurement completes (06 R114). -/
def completeMeasurement (result : BinResult) (s : State) : State :=
  raiseDock .binDone (raiseHandle .binDone
    { s with bin := { s.bin with meas := none, lastResult := result, seq := (s.bin.seq + 1) % 256 } })

/-- A measurement in flight is aborted: it completes STALE (06 R117). -/
def abortMeasurement (s : State) : State :=
  if s.bin.meas.isSome then completeMeasurement .stale s else s

/-- BIN_FULL raised when a judgement says so. -/
def raiseIfFull (raised : Bool) (s : State) : State := if raised then raiseHandle .binFull s else s

/-- A measurement completes GOOD with this count (06 R114, R119 to R121), with the recomputation its change of bin state
causes. -/
def completeGood (count : Nat) (s : State) : State :=
  let t := completeMeasurement .good s
  let (b, raised) := t.bin.applyGood t.settings count
  let t := raiseIfFull raised { t with bin := b }
  if b.state = s.bin.state then t else recompute t

/-- The half count as the gauge holds it (06 R112). -/
def holdHalf (h : Nat) : Nat := min 4095 h

/-- A try of the measurement in flight completes with these half counts (06 R113). -/
def tryCompleted (m : Measurement) (h1 h2 : Nat) (s : State) : State :=
  let s := { s with bin := { s.bin with lastTry := some ⟨h1, h2⟩ } }
  if h1 = 0 ∨ h2 = 0 then completeMeasurement .dead s
  else if m.hopTol < (h1 - h2) + (h2 - h1) then
    if m.hop && decide (m.tryNo < 4) then
      { s with bin := { s.bin with meas := some { m with tryNo := m.tryNo + 1, step := (m.step + 1) % 4 } } }
    else completeMeasurement .noisy s
  else
    let count := min 4095 (if m.double then (h1 + h2) * 2 else h1 + h2)
    completeGood count { s with bin := { s.bin with workStep := m.step } }

/-- The gauge's automatic start, as it takes an entry to STOPPED or a latch close (06 R116). -/
def autoMeasure (s : State) : State :=
  if s.bin.state != .detached && s.bin.meas.isNone && !s.men then { s with bin := s.bin.start s.settings } else s

/-- The fill re-formed with a full count and the state re-judged (06 R120 to R122): after a FULL_RATIO write or a reset. -/
def Bin.reform (ratio fullPct : Nat) (b : Bin) : Bin × Bool :=
  match b.cal with
  | none => (b, false)
  | some c =>
    let full := fullCount c.baseline ratio
    let fill :=
      match b.lastCount with
      | some n => fillOf c.baseline full n
      | none => c.fill
    let (st, raised) := judgeFill fullPct fill b.state
    ({ b with cal := some ⟨c.baseline, full, fill⟩, state := st }, raised)

/-- The state re-judged against the fill as it stands (06 R122): after a FULL_PCT write. -/
def Bin.rejudge (fullPct : Nat) (b : Bin) : Bin × Bool :=
  match b.cal with
  | none => (b, false)
  | some c =>
    let (st, raised) := judgeFill fullPct c.fill b.state
    ({ b with state := st }, raised)

/-- A changed REFWIN or DOUBLE: baseline, full count and fill absent, UNCAL unless DETACHED, calibration pending clear
(06 R122). -/
def Bin.uncalibrate (b : Bin) : Bin :=
  { b with cal := none, calPending := false, state := if b.state = .detached then .detached else .uncal }

end Sys2Proof.Machine
end

