-- ==== Sys2Proof/Machine/Impacts.lean ====
section
/-! DEFINITION. The dirt monitor's own operations (06, section 6.1). -/

namespace Sys2Proof.Machine

/-- Entry of the suction state to RUNNING (06 R101). -/
def Dirt.enter (now win : Nat) (d : Dirt) : Dirt :=
  { d with
    window := some ⟨win, now + ms win⟩, count := 0, completed := 0, ring := [], floorN := none, raw := 0, heavy := false,
    lockCount := 0, unlockCount := 0, eff := 0 }

/-- Exit of the suction state from RUNNING (06 R101): the open window's count is discarded. -/
def Dirt.leave (d : Dirt) : Dirt :=
  { d with window := none, count := 0, raw := 0, heavy := false, lockCount := 0, unlockCount := 0, eff := 0 }

/-- A rising edge on PIEZO (06 R100). -/
def Dirt.edge (now : Nat) (d : Dirt) : Dirt :=
  match d.window with
  | none => d
  | some _ =>
    if (d.lastEdge.all fun t => decide (t + 50 ≤ now)) then
      { d with count := countUp 1023 d.count, lastEdge := some now }
    else d

/-- The ring after a count joins it (06 R102). -/
def joinRing (ring : List Nat) (count : Nat) : List Nat :=
  if 16 ≤ ring.length then ring.tail ++ [count] else ring ++ [count]

/-- The noise floor evaluated on a ring (06 R103). -/
def noiseFloor (mode : NoiseMode) (manual : Nat) (ring : List Nat) : Nat :=
  match mode with
  | .manual => manual
  | .auto =>
    if ring.length < 4 then manual
    else
      match ring with
      | [] => manual
      | c :: rest => rest.foldl min c

/-- The raw index from a window's count (06 R104). -/
def rawIndex (count n offset gain : Nat) : Nat := min 255 ((count - n - offset) * gain / 4)

/-- The heavy detector's step at an expiry, from the raw index just formed (06 R105, R106): the monitor after it, and whether
HEAVY_DIRT is raised. -/
def Dirt.judgeHeavy (thr lock unlock : Nat) (d : Dirt) : Dirt × Bool :=
  if d.heavy then
    let n := if d.raw < thr then countUp 15 d.unlockCount else 0
    if unlock ≤ n then ({ d with heavy := false, lockCount := 0, unlockCount := 0 }, false)
    else ({ d with unlockCount := n }, false)
  else
    let n := if thr ≤ d.raw then countUp 15 d.lockCount else 0
    if lock ≤ n then ({ d with heavy := true, lockCount := 0, unlockCount := 0 }, true)
    else ({ d with lockCount := n }, false)

/-- The steps of a window expiry, 1 to 6 of 06 R108: the monitor after them, and whether HEAVY_DIRT is raised. -/
def Dirt.expire (t : Settings) (now : Nat) (d : Dirt) : Dirt × Bool :=
  let ring := joinRing d.ring d.count
  let n := noiseFloor t.noiseMode t.noiseManual ring
  let raw := rawIndex d.count n t.offset t.gain
  let (e, raised) :=
    Dirt.judgeHeavy t.heavyThr t.heavyLock t.heavyUnlock { d with ring := ring, floorN := some n, raw := raw }
  ({ e with
      eff := if e.heavy then max raw t.heavyFloor else raw
      completed := countUp 65535 e.completed
      count := 0
      window := some ⟨t.win, now + ms t.win⟩ }, raised)

end Sys2Proof.Machine
end

