-- ==== Sys2Proof/Machine/Handover.lean ====
section
/-! DEFINITION. The suction states (04, section 4.2) and the charge states (08, section 8.2) with the exchanges between them over
the power path (03, section 3.5). A side's release calls the other side's TAKEN, whose own release hands over no further: the
waiting request is gone by then (03 R59, R61). -/

namespace Sys2Proof.Machine

/-! ## The suction regulator's own records of a state (04 R72, R74, R76, R84) -/

/-- The regulator at entry to STARTING (04 R72, R79, R84). -/
def Suction.toStarting (now : Nat) (u : Suction) : Suction :=
  { u with
    state := .starting, enableAsked := true, target := 0, acc := 0, duty := 0, overCount := 0, trim := none,
    clogged := false, lockCount := 0, unlockCount := 0, episodes := 0, stallTimer := some (now + ms 500) }

/-- The regulator at entry to STOPPING (04 R74). -/
def Suction.toStopping (now : Nat) (u : Suction) : Suction :=
  { u with
    state := .stopping, duty := 0, target := 0, acc := 0, stallTimer := none, stopTimer := some (now + ms 300) }

/-- The regulator at the end of STOPPING (04 R74). -/
def Suction.toStopped (u : Suction) : Suction :=
  { u with state := .stopped, enableAsked := false, target := 0, acc := 0, duty := 0, stallTimer := none, stopTimer := none }

/-- The regulator at entry to FAULT (04 R76). -/
def Suction.toFault (cause : SuctionCause) (u : Suction) : Suction :=
  { u with
    state := .fault, faultCause := cause, enableAsked := false, duty := 0, target := 0, acc := 0, lock := false,
    stallTimer := none, stopTimer := none }

/-- The motor has cooled: the latest valid scan shows status OK at 100 °C or below (04 R76). -/
def cooled : Option Therm → Bool
  | some (.ok t) => decide (t ≤ 100)
  | _ => false

/-- FAULT may be left (04 R76). -/
def State.mayLeaveFault (s : State) : Bool :=
  !s.runRequest && (s.suc.faultCause != .hot || cooled s.suc.lastTemp)

/-- The dirt monitor at an exit of the suction state from RUNNING (06 R101). -/
def leaveRunning (s : State) : State :=
  if s.suc.state = .running then { s with dirt := s.dirt.leave } else s

/-! ## The charge order and the charge state (08 R145) -/

/-- The bulk current (08 R145). With no capability, which BULK never meets, CHG_I alone (log 30). -/
def State.bulkCurrent (s : State) : Nat :=
  let full :=
    match s.chg.cap with
    | some c => min c.current s.settings.chgI
    | none => s.settings.chgI
  if s.chg.cold then full / 2 else full

/-- The order current of the charge state (08 R145). -/
def State.formedCurrent (s : State) : Nat :=
  match s.chg.state with
  | .precharge => 150
  | .bulk => s.bulkCurrent
  | .topoff => s.chg.orderCur
  | _ => 0

/-- The order takes a current and a ceiling: where either differs, its number advances, ORDER_CHANGED is raised, and unread since
is set if it was absent (08 R145). A number that comes round to the read number lets the moment stand, so that the next change keeps
it, as 08 R147 has it (log 38). -/
def putOrder (current ceil : Nat) (s : State) : State :=
  if current = s.chg.orderCur ∧ ceil = s.chg.orderCeil then s
  else
    raiseDock .orderChanged
      { s with
        chg :=
          { s.chg with
            orderCur := current, orderCeil := ceil, orderNum := (s.chg.orderNum + 1) % 256,
            unreadSince := some (s.chg.unreadSince.getD s.now) } }

/-- The order is re-formed (08 R145). -/
def reformOrder (s : State) : State := putOrder s.formedCurrent s.settings.chgVcell s

/-- A change of charge state raises CHARGE_STATE (08, section 8.2). -/
def setCharge (st : ChargeState) (s : State) : State :=
  if s.chg.state = st then s else raiseHandle .chargeState { s with chg := { s.chg with state := st } }

/-! ## TAKEN at the charge controller (08 R141, R144, R140) -/

/-- Entry to PAUSED (08 R153): switch open, timers stopped, bleeds off, order current 0. The path is released by the caller. -/
def pauseCharge (reason : PauseReason) (s : State) : State :=
  let s := setCharge .paused s
  reformOrder
    { s with
      chg := { s.chg with pauseReason := reason, preTimer := none, balTimer := none, bleeds := Bleeds.off, excess := 0 } }

/-- Entry to PRECHARGE (08 R144, R147, R148). -/
def beginPrecharge (s : State) : State :=
  let s := setCharge .precharge s
  reformOrder { s with chg := { s.chg with preTimer := some (s.now + ms 1800000), excess := 0 } }

/-- Entry to BULK (08 R144, R147, R148). -/
def beginBulk (s : State) : State :=
  let s := setCharge .bulk s
  reformOrder { s with chg := { s.chg with preTimer := none, excess := 0 } }

/-- The temperatures lie outside the charge window (08 R144, R153). -/
def outsideWindow (t : Settings) (tmin tmax : Option Int) : Bool :=
  (tmin.any fun x => decide (x < t.chgTlo)) || (tmax.any fun x => decide (t.chgThi < x))

/-- Entry selection (08 R144). An entry to PAUSED releases the path in the same event. -/
def entrySelection (s : State) : State :=
  match s.chg.latest with
  | none => (arbRelease .charger (pauseCharge .scan s)).1
  | some v =>
    if 3 ≤ s.smp.invalidCount then (arbRelease .charger (pauseCharge .scan s)).1
    else if v.thermFault then (arbRelease .charger (pauseCharge .therm s)).1
    else if outsideWindow s.settings v.tmin v.tmax then (arbRelease .charger (pauseCharge .temp s)).1
    else if v.vmin < 3000 then beginPrecharge s
    else beginBulk s

/-- TAKEN reaches the charge controller: in ABSENT it releases the path at once (08 R140), otherwise entry selection. -/
def chargeTaken (s : State) : State :=
  if s.chg.state = .absent then (arbRelease .charger s).1 else entrySelection s

/-- The suction regulator releases the path (03 R61). -/
def releaseSuction (s : State) : State :=
  match arbRelease .suction s with
  | (t, some .charger) => chargeTaken t
  | (t, _) => t

/-! ## The suction states (04 R70 to R74) -/

/-- Entry to STARTING with the enable asked (04 R72): MEN goes on with the path held, and a bin measurement in flight is aborted
(06 R117). -/
def enterStarting (s : State) : State :=
  let t := { s with suc := s.suc.toStarting s.now }
  recompute (if t.men then abortMeasurement t else t)

/-- An arrival of the run request in STOPPED (04 R70). The answer HELD enters STARTING, as 04 R70 says against 03 R60 (log 36). -/
def arriveStopped (s : State) : State :=
  if s.bin.state = .detached then raiseHandle .binOpen s
  else
    match arbRequest .suction s with
    | (t, .taken) => enterStarting t
    | (t, .held) => enterStarting t
    | (t, .waiting) => raiseHandle .runWait (recompute { t with suc := { t.suc with state := .waitPath } })

/-- The entry to STOPPED from STOPPING, as the gauge and a present run request take it (04 R70, 06 R116): which is first, with the
run request present, is a free choice (log 18). -/
def afterStopped (s : State) : State :=
  if s.runRequest then
    let t := { s with choices := s.choices + 1 }
    if Config.gaugeTakesEntryFirst s.choices then arriveStopped (autoMeasure t) else autoMeasure (arriveStopped t)
  else autoMeasure s

/-- The end of STOPPING (04 R74): the enable is withdrawn, the path is released, STOPPED is entered. -/
def endStopping (s : State) : State :=
  afterStopped (recompute (releaseSuction { s with suc := s.suc.toStopped }))

/-- Entry to STOPPING (04 R74), which ends at its entry with the speed below 5000 rpm or the enable not asked. -/
def enterStopping (s : State) : State :=
  let t := leaveRunning s
  let t := { t with suc := t.suc.toStopping t.now }
  if t.suc.speed < 5000 ∨ t.suc.enableAsked = false then endStopping t else recompute t

/-- Entry to RUNNING (04 R72, 06 R101). -/
def enterRunning (s : State) : State :=
  recompute
    { s with
      suc := { s.suc with state := .running, stallTimer := none }
      dirt := s.dirt.enter s.now s.settings.win }

/-- The regulator enters STARTING and at once STOPPING with the enable not asked, releases the path and enters STOPPED
(04 R71). A run request present at that entry is refused for the DETACHED bin. -/
def passThrough (s : State) : State :=
  let t := { s with suc := (s.suc.toStarting s.now).toStopped }
  let t := autoMeasure (recompute (arbRelease .suction t).1)
  if t.runRequest then raiseHandle .binOpen t else t

/-- TAKEN reaches the suction regulator from a hand-over (04 R71). -/
def suctionTaken (s : State) : State :=
  match s.suc.state with
  | .waitPath => enterStarting s
  | .stopped => if s.runRequest && s.bin.state != .detached then enterStarting s else passThrough s
  | _ => s

/-- The charge controller releases the path (03 R61). -/
def releaseCharge (s : State) : State :=
  match arbRelease .charger s with
  | (t, some .suction) => suctionTaken t
  | (t, _) => t

/-- The regulator withdraws its waiting request and enters STOPPED (04 R71). -/
def giveUpWaiting (s : State) : State :=
  let t := arbWithdraw .suction s
  recompute { t with suc := { t.suc with state := .stopped } }

/-- Entry to FAULT, but for the release of the path (04 R76). -/
def faultSuction (cause : SuctionCause) (s : State) : State :=
  let t := leaveRunning s
  raiseHandle .suctionFault { t with suc := t.suc.toFault cause }

/-! ## Arrival and end of the run request (04 R69, 05 R89, R90, 10 R178, R179) -/

/-- The wand power at an arrival of the run request (05 R89). -/
def Head.arrive (bin : BinState) (h : Head) : Head :=
  { h with wandOff := none, wand := h.wand || bin != .detached }

/-- The wand power at an end of the run request (05 R90). -/
def Head.runEnd (now : Nat) (h : Head) : Head :=
  if h.wand then { h with wandOff := some (now + ms 2000) } else h

/-- The run request arrives. -/
def runArrives (s : State) : State :=
  let t := stopDeepTimer (cancelShelf s)
  let t := recompute { t with head := t.head.arrive t.bin.state }
  if t.suc.state = .stopped then arriveStopped t else t

/-- The run request ends. -/
def runEnds (s : State) : State :=
  let t := recompute { s with head := s.head.runEnd s.now }
  match t.suc.state with
  | .waitPath => giveUpWaiting t
  | .starting => enterStopping t
  | .running => enterStopping t
  | .fault => if t.mayLeaveFault then recompute { t with suc := { t.suc with state := .stopped } } else t
  | _ => t

/-- The run request as it stood `before` a change, and as it stands (04 R69). -/
def runChanged (before : Bool) (s : State) : State :=
  match before, s.runRequest with
  | false, true => runArrives s
  | true, false => runEnds s
  | _, _ => s

/-- The lock latch is cleared (04 R68). -/
def clearLock (s : State) : State := runChanged s.runRequest { s with suc := { s.suc with lock := false } }

/-- Entry to FAULT at a timer, with the release of the path and the end of the run request that the cleared latch may cause
(04 R76, R68). -/
def enterFault (cause : SuctionCause) (s : State) : State :=
  let before := s.runRequest
  let t := faultSuction cause s
  let t := if before && !t.runRequest then { t with head := t.head.runEnd t.now } else t
  releaseSuction (recompute t)

/-- The bin state becomes DETACHED, as the regulator takes it (04 R71 to R73). -/
def binDetached (s : State) : State :=
  match s.suc.state with
  | .waitPath => raiseHandle .binOpen (giveUpWaiting s)
  | .starting => enterStopping (raiseHandle .binOpen s)
  | _ => s

/-! ## The charge states (08 R141, R148 to R156) -/

/-- The charge controller requests CHARGE (08 R141). -/
def requestCharge (s : State) : State :=
  match arbRequest .charger s with
  | (t, .taken) => entrySelection t
  | (t, .waiting) => reformOrder (setCharge .waitIdle t)
  | (t, .held) => t

/-- Entry to PAUSED from a charging state or BALANCE (08 R153). -/
def enterPaused (reason : PauseReason) (s : State) : State := releaseCharge (pauseCharge reason s)

/-- Entry to TOPOFF (08 R149): the order current stays. -/
def enterTopoff (s : State) : State :=
  let s := setCharge .topoff s
  reformOrder { s with chg := { s.chg with excess := 0 } }

/-- Entry to BALANCE (08 R151). -/
def enterBalance (s : State) : State :=
  let s := setCharge .balance s
  releaseCharge
    (reformOrder { s with chg := { s.chg with balTimer := some (s.now + ms 7200000), excess := 0 } })

/-- Entry to DONE (08 R151, R152): the full mark is raised to the charge account. -/
def enterDone (s : State) : State :=
  let s := setCharge .done s
  releaseCharge
    (reformOrder
      { s with
        chg := { s.chg with balTimer := none, bleeds := Bleeds.off, excess := 0 }
        acct := s.acct.fullMark s.settings.designCap })

/-- Entry to FAULT (08 R156). -/
def enterChargeFault (cause : ChargeCause) (s : State) : State :=
  let s := setCharge .fault s
  let s :=
    reformOrder
      { s with
        chg :=
          { s.chg with
            faultCause := cause, helloTimer := none, preTimer := none, balTimer := none, bleeds := Bleeds.off,
            excess := 0 }
        acct := { s.acct with learning := false } }
  releaseCharge (raiseDock .chargeFault (raiseHandle .chargeFault s))

/-- A dock attach (08 R139; 04 R68; 07 R128; 10 R178). -/
def attachDock (s : State) : State :=
  let s := setCharge .qualify (cancelShelf s)
  let s :=
    { s with
      chg := { s.chg with helloTimer := some (s.now + ms 1000), detach := 0 }
      acct := s.acct.openSession }
  clearLock (raiseHandle .dockChange s)

/-- The charger's record in ABSENT (08 R140, R159); the order stands. -/
def Charger.cleared (c : Charger) : Charger :=
  { c with
    attach := 0, helloTimer := none, preTimer := none, balTimer := none, cap := none, read := none, unreadSince := none,
    excess := 0, cold := false, bleeds := Bleeds.off, pauseReason := .none, faultCause := .none }

/-- A dock detach (08 R140). The order is re-formed before unread since is made absent (log 20). -/
def detachDock (s : State) : State :=
  let t := reformOrder (setCharge .absent s)
  let t :=
    raiseHandle .dockChange { t with chg := t.chg.cleared, acct := t.acct.closeSession }
  arbWithdraw .charger (releaseCharge t)

/-! ## Wand power and head presence (05 R90, R94) -/

/-- The head becomes ABSENT (05 R94): the brush stack is dropped and the grants recomputed, once for presence, floor and stack
(log 37). A head already ABSENT changes nothing. -/
def headAbsent (s : State) : State :=
  if s.head.info.isSome then
    dropBrushStack
      (raiseHandle .headChange
        { s with head := { s.head with info := none, silence := none, floor := .unknown, overload := 0 } })
  else s

/-- The wand power switch turns OFF (05 R90), and a PRESENT head becomes ABSENT. The arbiter takes the switch first and the presence
second, an order that 03 R55 leaves open (log 37). -/
def wandPowerOff (s : State) : State :=
  headAbsent (recompute { s with head := { s.head with wand := false, wandOff := none } })

end Sys2Proof.Machine
end

