-- ==== Sys2Proof/Machine/Operands.lean ====
section
/-! DEFINITION. The operand forms of the links: little-endian fields and their absent values (11 R185), CRC-8 and frames (09 R160),
the kinds of request and their payload lengths (11 R184). -/

namespace Sys2Proof.Machine

/-! ## Fields of records and replies (11 R185) -/

/-- An unsigned byte. -/
def u8 (n : Nat) : List Byte := [BitVec.ofNat 8 n]

/-- Two unsigned bytes, little-endian. -/
def u16 (n : Nat) : List Byte := [BitVec.ofNat 8 n, BitVec.ofNat 8 (n / 256)]

/-- A signed byte. -/
def i8 (x : Int) : List Byte := [BitVec.ofInt 8 x]

/-- Two signed bytes, little-endian. -/
def i16 (x : Int) : List Byte := u16 (BitVec.ofInt 16 x).toNat

/-- Four signed bytes, little-endian. -/
def i32 (x : Int) : List Byte :=
  let n := (BitVec.ofInt 32 x).toNat
  [BitVec.ofNat 8 n, BitVec.ofNat 8 (n / 256), BitVec.ofNat 8 (n / 65536), BitVec.ofNat 8 (n / 16777216)]

/-- An optional unsigned byte: FF when absent. -/
def u8? : Option Nat → List Byte
  | some n => u8 n
  | none => [0xFF#8]

/-- Two optional unsigned bytes: FFFF when absent. -/
def u16? : Option Nat → List Byte
  | some n => u16 n
  | none => [0xFF#8, 0xFF#8]

/-- An optional signed byte: 80 when absent. -/
def i8? : Option Int → List Byte
  | some x => i8 x
  | none => [0x80#8]

/-- Two optional signed bytes: 8000 when absent. -/
def i16? : Option Int → List Byte
  | some x => i16 x
  | none => [0x00#8, 0x80#8]

/-- Four optional signed bytes: 80000000 when absent. The model writes an absent four-byte field of an unsigned range so too
(log 12). -/
def i32? : Option Int → List Byte
  | some x => i32 x
  | none => [0x00#8, 0x00#8, 0x00#8, 0x80#8]

/-- The value of a byte of flags, bit 0 first; unused bits read 0. -/
def flagValue : List Bool → Nat
  | [] => 0
  | b :: rest => (if b then 1 else 0) + 2 * flagValue rest

/-- A byte of flags, bit 0 first. -/
def flags (bs : List Bool) : List Byte := u8 (flagValue bs)

/-- The unsigned value of two little-endian bytes. -/
def word (lo hi : Byte) : Nat := lo.toNat + 256 * hi.toNat

/-- The signed value of two little-endian bytes. -/
def sword (lo hi : Byte) : Int := (BitVec.ofNat 16 (word lo hi)).toInt

/-! ## CRC-8 and frames (09 R160) -/

/-- One shift of the CRC register, polynomial x^8 + x^2 + x + 1, most significant bit first. -/
def crcShift (r : Byte) : Byte := if r.msb then (r <<< 1) ^^^ 0x07#8 else r <<< 1

/-- Eight shifts of the CRC register. -/
def crcByte (r : Byte) : Byte :=
  crcShift (crcShift (crcShift (crcShift (crcShift (crcShift (crcShift (crcShift r)))))))

/-- The CRC-8 over bytes in order, with an initial value of 0. -/
def crc8 (bytes : List Byte) : Byte := bytes.foldl (fun r b => crcByte (r ^^^ b)) 0#8

/-- A frame: first byte (kind or status), tag, length, payload, CRC-8. -/
def frame (first tag : Byte) (payload : List Byte) : List Byte :=
  let body := first :: tag :: BitVec.ofNat 8 payload.length :: payload
  body ++ [crc8 body]

/-- How a received request frame is judged. -/
inductive Judged where
  | tooLong
  | truncated
  | corrupt
  | intact (r : Request)
deriving DecidableEq, Repr

/-- A received request frame judged by its third byte, its length and its CRC (09 R160); bytes after the CRC byte are
ignored. -/
def judgeFrame (bytes : List Byte) : Judged :=
  match bytes with
  | kind :: tag :: len :: rest =>
    if 56 < len.toNat then .tooLong
    else if rest.length ≤ len.toNat then .truncated
    else if crc8 (kind :: tag :: len :: rest.take (len.toNat + 1)) = 0#8 then
      .intact ⟨kind, tag, rest.take len.toNat⟩
    else .corrupt
  | _ => .truncated

/-! ## Status byte and codes (11 R184) -/

/-- Status codes (11 R184). -/
def Status.value : Status → Nat
  | .ok => 0
  | .clamped => 1
  | .accepted => 2
  | .busy => 3
  | .denied => 4
  | .badArg => 5
  | .state => 6
  | .depth => 7
  | .pool => 8
  | .label => 9
  | .empty => 10
  | .nosuch => 11

/-- The status byte: the code in the six low bits, NOTE_PENDING in bit 6 (11 R184). -/
def statusByte (c : Status) (notePending : Bool) : Byte :=
  BitVec.ofNat 8 (c.value + if notePending then 64 else 0)

/-- READY, the handle port status byte of a slot that is ANSWER_READY (11 R184). -/
def readyByte : Byte := 0xA5#8

/-- NOT_READY (11 R184). -/
def notReadyByte : Byte := 0x5A#8

/-! ## Kinds of request (11 R184) -/

/-- The request kinds the part knows, less the fill kind. -/
inductive ReqKind where
  | ident
  | readRec
  | clearNote
  | writeSet
  | clearSticky
  | softReset
  | shelfEnter
  | claimPush
  | claimPop
  | claimReplace
  | claimDrop
  | lockOn
  | lockOff
  | binMeasure
  | binCalEmpty
  | headHello
  | floorReport
  | dockHello
  | orderRead
deriving DecidableEq, Repr

/-- The kind byte of a request (11 R184). -/
def ReqKind.byte : ReqKind → Byte
  | .ident => 1#8
  | .readRec => 2#8
  | .clearNote => 3#8
  | .writeSet => 4#8
  | .clearSticky => 5#8
  | .softReset => 6#8
  | .shelfEnter => 7#8
  | .claimPush => 8#8
  | .claimPop => 9#8
  | .claimReplace => 10#8
  | .claimDrop => 11#8
  | .lockOn => 12#8
  | .lockOff => 13#8
  | .binMeasure => 14#8
  | .binCalEmpty => 15#8
  | .headHello => 16#8
  | .floorReport => 17#8
  | .dockHello => 18#8
  | .orderRead => 19#8

/-- The kind a byte names; 0 and 20 to 255 are unknown (11 R184). -/
def reqKind (b : Byte) : Option ReqKind :=
  match b.toNat with
  | 1 => some .ident
  | 2 => some .readRec
  | 3 => some .clearNote
  | 4 => some .writeSet
  | 5 => some .clearSticky
  | 6 => some .softReset
  | 7 => some .shelfEnter
  | 8 => some .claimPush
  | 9 => some .claimPop
  | 10 => some .claimReplace
  | 11 => some .claimDrop
  | 12 => some .lockOn
  | 13 => some .lockOff
  | 14 => some .binMeasure
  | 15 => some .binCalEmpty
  | 16 => some .headHello
  | 17 => some .floorReport
  | 18 => some .dockHello
  | 19 => some .orderRead
  | _ => none

/-- The links on which a kind may be issued (09 R166, permissions table). -/
def permitted (link : Link) : ReqKind → Bool
  | .ident | .readRec | .clearNote => true
  | .writeSet | .clearSticky | .softReset | .shelfEnter | .lockOn | .lockOff | .binCalEmpty => link == .handle
  | .claimPush | .claimPop | .claimReplace | .claimDrop => link != .dock
  | .binMeasure => link != .wand
  | .headHello | .floorReport => link == .wand
  | .dockHello | .orderRead => link == .dock

/-- The length in bytes of the value a WRITE_SET identifier requires (11 R184); none for an identifier the part does not
know. -/
def settingLength (id : Nat) : Option Nat :=
  if id = 10 then some 32
  else if id = 23 ∨ id = 24 then some 10
  else if 1 ≤ id ∧ id ≤ 48 then some 2
  else none

/-- The payload length is the one the kind requires (09 R166 check 6; 11 R184). -/
def lengthOk (k : ReqKind) (p : List Byte) : Bool :=
  match k with
  | .readRec => p.length == 4
  | .clearNote => p.length == 2
  | .writeSet =>
    match p with
    | [] => false
    | id :: value =>
      match settingLength id.toNat with
      | some n => value.length == n
      | none => true
  | .claimPush | .claimReplace => p.length == 4
  | .claimPop | .floorReport => p.length == 1
  | .headHello => p.length == 3
  | .dockHello => p.length == 4
  | .ident | .clearSticky | .softReset | .shelfEnter | .claimDrop | .lockOn | .lockOff | .binMeasure | .binCalEmpty
  | .orderRead => p.length == 0

/-- The records (11 R184). -/
inductive RecordId where
  | status
  | cells
  | allowance
  | claims
  | suction
  | dirt
  | bin
  | account
  | charge
  | settings
deriving DecidableEq, Repr

/-- The record a code names; 0 and 11 and above are unknown (11 R184). -/
def recordId (b : Byte) : Option RecordId :=
  match b.toNat with
  | 1 => some .status
  | 2 => some .cells
  | 3 => some .allowance
  | 4 => some .claims
  | 5 => some .suction
  | 6 => some .dirt
  | 7 => some .bin
  | 8 => some .account
  | 9 => some .charge
  | 10 => some .settings
  | _ => none

/-- The records a link may read (09 R166, permissions table). -/
def readable (link : Link) (r : RecordId) : Bool :=
  match link with
  | .handle => true
  | .wand =>
    match r with
    | .status | .claims | .suction | .dirt => true
    | _ => false
  | .dock =>
    match r with
    | .status | .cells | .account | .charge | .bin => true
    | _ => false

end Sys2Proof.Machine
end

