-- ==== Sys2Proof/Machine/Records.lean ====
section
/-! DEFINITION. The records a partner reads, as bytes (11 R185 to R188; the owners' field tables, laid out by R185: log 12), the
settings as they are written and read (10 R175, R176), and the event by which record generations advance (09 R169). -/

namespace Sys2Proof.Machine

/-! ## Positions of enumerations (11 R185) -/

/-- The position of a value of AUTOZERO (10, section 10.1). -/
def AutoZero.pos : AutoZero → Nat
  | .off => 0
  | .perScan => 1
  | .per64 => 2

/-- The position of a value of NOISE_MODE (10, section 10.1). -/
def NoiseMode.pos : NoiseMode → Nat
  | .manual => 0
  | .auto => 1

/-- The position of OFF or ON (10, section 10.1). -/
def switchPos (b : Bool) : Nat := if b then 1 else 0

/-- The position of an allowance cause (02, state table; 02 R41). -/
def Cause.pos : Cause → Nat
  | .initial => 0
  | .ok => 1
  | .noHeadroom => 2
  | .stopVolt => 3
  | .stopTherm => 4
  | .stopTemp => 5
  | .scanFault => 6

/-- The position of a suction state (11 R186). -/
def SuctionState.pos : SuctionState → Nat
  | .stopped => 0
  | .waitPath => 1
  | .starting => 2
  | .running => 3
  | .stopping => 4
  | .fault => 5

/-- The position of a suction fault cause (04 R87). -/
def SuctionCause.pos : SuctionCause → Nat
  | .none => 0
  | .stall => 1
  | .overcurrent => 2
  | .hot => 3
  | .clog => 4

/-- The position of a floor type (11 R186). -/
def FloorType.pos : FloorType → Nat
  | .hard => 0
  | .carpet => 1
  | .unknown => 2

/-- The position of a bin state (06, state table). -/
def BinState.pos : BinState → Nat
  | .detached => 0
  | .uncal => 1
  | .ready => 2
  | .full => 3

/-- The position of a bin result (06, state table). -/
def BinResult.pos : BinResult → Nat
  | .none => 0
  | .good => 1
  | .noisy => 2
  | .dead => 3
  | .stale => 4

/-- The position of a charge state (11 R186). -/
def ChargeState.pos : ChargeState → Nat
  | .absent => 0
  | .qualify => 1
  | .waitIdle => 2
  | .precharge => 3
  | .bulk => 4
  | .topoff => 5
  | .balance => 6
  | .done => 7
  | .paused => 8
  | .fault => 9

/-- The position of a pause reason (08, state table). -/
def PauseReason.pos : PauseReason → Nat
  | .none => 0
  | .temp => 1
  | .therm => 2
  | .scan => 3

/-- The position of a charge fault cause (08, state table). -/
def ChargeCause.pos : ChargeCause → Nat
  | .none => 0
  | .noHello => 1
  | .overcurrent => 2
  | .noOrderRead => 3
  | .prechargeTime => 4
  | .cellOver => 5

/-- The position of a power path (11 R187). -/
def Path.pos : Path → Nat
  | .idle => 0
  | .discharge => 1
  | .charge => 2

/-- The position of a waiting request (11 R187). -/
def waitingPos : Option Side → Nat
  | none => 0
  | some .suction => 1
  | some .charger => 2

/-- The status byte of a thermistor (11 R186). -/
def Therm.status : Therm → Nat
  | .ok _ => 0
  | .opened => 1
  | .shorted => 2

/-- The temperature of a thermistor, absent while it is OPEN or SHORT (01 R9). -/
def Therm.temp : Therm → Option Int
  | .ok t => some t
  | _ => none

/-- The cause bits and the validity byte of a scan (11 R186, R188). -/
def Validity.pos : Validity → Nat
  | .valid => 0
  | .refFault => 1
  | .tapFault => 2

/-! ## Settings as bytes (10 R175, R176) -/

/-- A suction curve as a structural group: two bytes of base, one signed byte a slope (10 R176). -/
def Curve.bytes (c : Curve) : List Byte := i16 c.base ++ c.slopes.flatMap i8

/-- The value in force of the setting with identifier `id`, coded as it is written and shown; nothing for an identifier the part
does not know (10, section 10.1, R176). -/
def Settings.bytes (t : Settings) (id : Nat) : List Byte :=
  match id with
  | 1 => i16 t.autozero.pos
  | 2 => i16 t.vcut
  | 3 => i16 t.vstop
  | 4 => i16 t.prated
  | 5 => i16 t.riseStep
  | 6 => i16 t.stepMin
  | 7 => i16 t.tdisLo
  | 8 => i16 t.tdisHi
  | 9 => i16 t.rInit
  | 10 => t.derate.flatMap fun p => i16 p.t ++ i16 p.d
  | 11 => i16 t.depthSuction
  | 12 => i16 t.depthBrush
  | 13 => i16 t.headShare
  | 14 => i16 t.binCap
  | 15 => i16 t.rampUp
  | 16 => i16 t.ki
  | 17 => i16 t.pfull
  | 18 => i16 t.clogMinP
  | 19 => i16 ((t.clogRpm / 10 : Nat) : Int)
  | 20 => i16 t.clogLock
  | 21 => i16 t.clogUnlock
  | 22 => i16 t.clogCap
  | 23 => t.hard.bytes
  | 24 => t.carpet.bytes
  | 25 => i16 t.win
  | 26 => i16 t.noiseMode.pos
  | 27 => i16 t.noiseManual
  | 28 => i16 t.offset
  | 29 => i16 t.gain
  | 30 => i16 t.heavyThr
  | 31 => i16 t.heavyLock
  | 32 => i16 t.heavyUnlock
  | 33 => i16 t.heavyFloor
  | 34 => i16 t.refwin
  | 35 => i16 (switchPos t.double)
  | 36 => i16 (switchPos t.hop)
  | 37 => i16 t.hopTol
  | 38 => i16 t.fullRatio
  | 39 => i16 t.fullPct
  | 40 => i16 t.designCap
  | 41 => i16 t.chgI
  | 42 => i16 t.chgVcell
  | 43 => i16 t.chgTlo
  | 44 => i16 t.chgThi
  | 45 => i16 t.termI
  | 46 => i16 t.balDelta
  | 47 => i16 t.rechargeDrop
  | 48 => u16 t.attnMask.toNat
  | _ => []

/-- The identifiers of a SETTINGS page, in order (10 R176). -/
def pageIds : Nat → List Nat
  | 0 => [1, 2, 3, 4, 5, 6, 7, 8, 9, 10]
  | 1 => [11, 12, 13, 14, 15, 16, 17, 18, 19, 20, 21, 22, 23, 24]
  | 2 => [25, 26, 27, 28, 29, 30, 31, 32, 33, 34, 35, 36, 37, 38, 39]
  | 3 => [40, 41, 42, 43, 44, 45, 46, 47, 48]
  | _ => []

/-- One page of the SETTINGS record (10 R176). -/
def Settings.page (t : Settings) (p : Nat) : List Byte := (pageIds p).flatMap t.bytes

/-! ## STATUS and CELLS (11 R186, R188) -/

/-- Bytes 0 to 19 of STATUS but for byte 3 and bits 0 and 1 of byte 2; with no scan, every measured field absent (11 R186).
Cadence and offset are shown as they stand (log 15). -/
def statusRecord (s : State) : List Byte :=
  let cadence := s.smp.cadence == .fast
  let floor :=
    [s.head.wand, s.head.wandOff.isSome, s.head.info.isSome, (s.head.info.map (·.floorSense)).getD false]
  let entry :=
    match s.pwr.entry with
    | .none => [false, false, false]
    | .request d => [true, false, d]
    | .deep => [false, true, false]
  let scan :=
    match s.smp.table with
    | none =>
      u16 0 ++ flags [cadence, s.fastDemand] ++ u8 s.smp.invalidCount ++ i32? none ++ u16? none ++ i8? none ++ i8? none
        ++ i8? none ++ [0xFF#8] ++ u16? none ++ u16? none
    | some r =>
      u16 r.number
        ++ flags
          [cadence, s.fastDemand, !r.isValid, r.validity == .refFault, r.validity == .tapFault, r.iSat, r.motorSat,
            r.thermFault]
        ++ u8 s.smp.invalidCount ++ i32 r.i ++ u16 r.motor ++ i8? r.tmax ++ i8? r.tmin ++ i8? r.motorTemp.temp
        ++ u8 r.motorTemp.status ++ u16 r.vpack ++ u16 r.dock
  let therms :=
    match s.smp.table with
    | none => [0xFF#8, 0xFF#8]
    | some r => u8 r.thermA.status ++ u8 r.thermB.status
  scan ++ i16 s.smp.offset ++ u8 s.suc.state.pos ++ u8 s.chg.state.pos ++ flags floor
    ++ u8? (s.head.info.map (·.rating)) ++ u8 s.head.floor.pos ++ u8 s.head.overload
    ++ flags (false :: (entry ++ [s.pwr.deepTimer.isSome]))
    ++ u8? (s.pwr.shelfCause.map fun c => match c with | .request => 0 | .deep => 1)
    ++ u8? (s.pwr.wakeCause.map fun c => match c with | .trig => 0 | .dock => 1 | .link => 2)
    ++ therms

/-- The bleed switches, cell 1 first. -/
def Bleeds.toList (b : Bleeds) : List Bool := [b.b1, b.b2, b.b3, b.b4, b.b5, b.b6, b.b7]

/-- The CELLS record (11 R188). -/
def cellsRecord (s : State) : List Byte :=
  match s.smp.table with
  | none =>
    u16 0 ++ [0xFF#8] ++ flags s.chg.bleeds.toList ++ List.replicate 14 0xFF#8 ++ u16? none ++ [0xFF#8] ++ u16? none
      ++ [0xFF#8] ++ u16? none ++ u16? none ++ u16? none
  | some r =>
    u16 r.number ++ u8 r.validity.pos ++ flags s.chg.bleeds.toList ++ r.cells.toList.flatMap u16
      ++ u16 r.cells.vmin ++ u8 r.cells.vminIndex ++ u16 r.cells.vmax ++ u8 r.cells.vmaxIndex ++ u16 r.cells.spread
      ++ u16 r.cells.sum ++ u16 r.cells.vmean

/-! ## ALLOWANCE (02 R41, laid out by 11 R185: log 12, log 13) -/

/-- The ALLOWANCE record (02 R41). It shows the snapshot and the consecutive invalid count as they stand, so an invalid scan whose
count is not 3, and the valid scan after it, may change the record and so advance its generation, beyond the events that R41 lists:
log 16. An absent scan number, of an unsigned range that takes four bytes, reads 80000000 hex: log 12. -/
def allowanceRecord (s : State) : List Byte :=
  let last := s.alw.last
  let inp := last.map (·.inputs)
  u16 s.alw.pallow ++ u8 s.alw.cause.pos
    ++ i32? (inp.map fun c => (c.number : Int))
    ++ u16? (inp.map (·.vmin)) ++ u16? (inp.map (·.vmean)) ++ i32? (inp.map (·.i))
    ++ flags [(inp.map (·.iSat)).getD false, (inp.map (·.thermFault)).getD false]
    ++ i8? (inp.bind (·.tmax)) ++ i8? (inp.bind (·.tmin))
    ++ flags [((last.bind (·.rnew)).isSome)] ++ i32? (last.bind (·.rnew)) ++ u16? (last.map (·.rcellAfter))
    ++ u16? (last.bind (·.sag)) ++ u16? (last.bind (·.voc)) ++ i16? (last.bind (·.headroom))
    ++ u16? (last.bind (·.imax)) ++ u16? (last.bind (·.pmax)) ++ u16? (last.bind (·.plim))
    ++ u16? (last.bind fun f => f.d.map Int.toNat) ++ u16? (last.map (·.computed))
    ++ u8? (last.map fun f => f.cause.pos)
    ++ flags
      [(last.map (·.ovfV)).getD false, (last.map (·.ovfI)).getD false, (last.map (·.limited)).getD false,
        (last.map (·.rclamp)).getD false]
    ++ flags [s.alw.ovfV, s.alw.ovfI] ++ u16 s.alw.rcell ++ u8 (if s.alw.snapshot.isSome then 0 else 1)
    ++ u16 s.alw.discards ++ u8 s.smp.invalidCount ++ u8 (if s.alw.episode then 0 else 1)

/-! ## CLAIMS (11 R187) -/

/-- One slot of a claim stack: index, claim kind, two-byte value (absent for ZERO), label. -/
def Claim.bytes (c : Claim) : List Byte :=
  u8 c.index.val
    ++ (match c.kind with
        | .level w => u8 0 ++ u16 w
        | .curve w => u8 1 ++ u16 w
        | .zero => u8 2 ++ u16? none)
    ++ [c.label]

/-- Four slots, bottom first; a slot at or above the depth holds FF in all five bytes. -/
def stackBytes (stack : List Claim) : List Byte :=
  (stack.reverse.take 4).flatMap Claim.bytes ++ List.replicate (5 * (4 - stack.length)) 0xFF#8

/-- The CLAIMS record (03 R64, 11 R187). -/
def claimsRecord (s : State) : List Byte :=
  u8 s.arb.free.length ++ (s.arb.free.take 10).flatMap (fun i => u8 i.val)
    ++ List.replicate (10 - s.arb.free.length) 0xFF#8
    ++ u8 s.arb.suction.length ++ u8 s.settings.depthSuction ++ stackBytes s.arb.suction
    ++ u8 s.arb.brush.length ++ u8 s.settings.depthBrush ++ stackBytes s.arb.brush
    ++ u16 s.arb.ds ++ u16 s.arb.dh ++ u16 s.arb.gs ++ u16 s.arb.gh ++ flags [s.arb.shortS, s.arb.shortH]
    ++ u16 s.arb.used ++ u8 s.arb.path.pos ++ u8 (waitingPos s.arb.waiting)

/-! ## SUCTION (04 R87), DIRT (06 R110), BIN (06 R123): laid out by 11 R185, log 12 -/

/-- The SUCTION record. -/
def suctionRecord (s : State) : List Byte :=
  u8 s.suc.state.pos ++ u8 s.suc.faultCause.pos ++ u8 (if s.runRequest then 0 else 1)
    ++ u8 (if s.suc.pressed then 0 else 1) ++ flags [s.suc.lock]
    ++ u16 s.arb.gs ++ u16 s.suc.target ++ u16 s.suc.duty ++ i16 s.suc.acc
    ++ u16? (s.suc.trim.map (·.pm)) ++ i16? (s.suc.trim.map (·.error)) ++ i32 s.suc.speed ++ u8 s.suc.overCount
    ++ u8 (if s.suc.clogged then 1 else 0) ++ u8 s.suc.lockCount ++ u16 s.suc.unlockCount ++ u8 s.suc.episodes
    ++ u8 (if s.head.floor = .carpet then 1 else 0) ++ u16 s.curveNow

/-- The DIRT record; WIN is absent while the window is CLOSED (log 14). -/
def dirtRecord (s : State) : List Byte :=
  u8 (if s.dirt.window.isSome then 0 else 1) ++ u8? (s.dirt.window.map (·.win)) ++ u16 s.dirt.completed
    ++ u8 s.dirt.ring.length ++ (s.dirt.ring.take 16).flatMap u16
    ++ List.replicate (2 * (16 - s.dirt.ring.length)) 0xFF#8
    ++ u16? s.dirt.floorN ++ u8 s.dirt.raw ++ u8 (if s.dirt.heavy then 1 else 0) ++ u8 s.dirt.lockCount
    ++ u8 s.dirt.unlockCount ++ u8 s.dirt.eff

/-- The BIN record. -/
def binRecord (s : State) : List Byte :=
  u8 (if s.bin.closed then 0 else 1) ++ u8 s.bin.state.pos ++ u8? (s.bin.meas.map (·.tryNo))
    ++ u8? (s.bin.meas.map (·.step)) ++ u8 s.bin.workStep ++ flags [s.bin.calPending]
    ++ u16? (s.bin.cal.map (·.baseline)) ++ u16? (s.bin.cal.map (·.full)) ++ u8? (s.bin.cal.map (·.fill))
    ++ u16? s.bin.lastCount ++ u8 s.bin.lastResult.pos ++ u8 s.bin.seq
    ++ u16? (s.bin.lastTry.map (·.h1)) ++ u16? (s.bin.lastTry.map (·.h2))

/-! ## ACCOUNT (07 R136) and CHARGE (08 R159): laid out by 11 R185, log 12 -/

/-- State of charge in percent (07 R133). -/
def State.soc (s : State) : Nat := s.acct.q * 100 / s.acct.fcc

/-- Runtime in minutes, absent below 100 mA (07 R133). -/
def State.runtime (s : State) : Option Nat :=
  if 100 ≤ s.acct.iavg then some (min 999 (s.acct.q * 60 / s.acct.iavg)) else none

/-- The ACCOUNT record. -/
def accountRecord (s : State) : List Byte :=
  u16 s.acct.q ++ i32 s.acct.acc ++ u16 s.acct.fcc ++ u16 s.settings.designCap ++ u8 s.soc ++ u16? s.runtime
    ++ u16 s.acct.iavg ++ flags [s.acct.qEstimated, s.acct.estPending] ++ flags [s.acct.qUnder, s.acct.qOver]
    ++ u16 s.acct.discharged ++ u16 s.acct.cycles ++ u8 (if s.acct.session then 0 else 1) ++ u16 s.acct.charged
    ++ u8 (if s.acct.learning then 0 else 1) ++ u16 s.acct.held ++ i32? s.acct.lastI

/-- The time left on the running timer among HELLO, precharge and balance, in ms (08 R159). -/
def State.chargeTimerLeft (s : State) : Option Nat :=
  match s.chg.helloTimer, s.chg.preTimer, s.chg.balTimer with
  | some d, _, _ => some ((d - s.now) / 1000)
  | none, some d, _ => some ((d - s.now) / 1000)
  | none, none, some d => some ((d - s.now) / 1000)
  | none, none, none => none

/-- The time since unread since, in ms, held at 65534, absent while the order is read (08 R159). -/
def State.unreadFor (s : State) : Option Nat :=
  if s.orderIsRead then none else s.chg.unreadSince.map fun t => min 65534 ((s.now - t) / 1000)

/-- The CHARGE record (08 R159). The bleed set is one flag byte, cell 1 in bit 0, as in CELLS (log 12). An absent voltage capability
or time left, of an unsigned range that takes four bytes, reads 80000000 hex (log 12). -/
def chargeRecord (s : State) : List Byte :=
  u8 s.chg.state.pos ++ u8 s.chg.pauseReason.pos ++ u8 s.chg.faultCause.pos
    ++ u16? (s.chg.cap.map (·.current)) ++ i32? (s.chg.cap.map fun c => (c.voltage : Int))
    ++ u8 s.chg.orderNum ++ u16 s.chg.orderCur ++ u16 s.chg.orderCeil ++ u16? (s.chg.read.map (·.number))
    ++ flags [s.orderIsRead, s.gracePassed] ++ u16? s.unreadFor ++ u8 s.chg.excess ++ flags [s.chg.cold]
    ++ u8 s.chg.attach ++ u8 s.chg.detach ++ i32? (s.chargeTimerLeft.map fun n => (n : Int))
    ++ flags s.chg.bleeds.toList

/-! ## Reading and generations (09 R168, R169) -/

/-- The bytes of a record as it stands; `page` counts for SETTINGS alone. -/
def recordBytes (r : RecordId) (page : Nat) (s : State) : List Byte :=
  match r with
  | .status => statusRecord s
  | .cells => cellsRecord s
  | .allowance => allowanceRecord s
  | .claims => claimsRecord s
  | .suction => suctionRecord s
  | .dirt => dirtRecord s
  | .bin => binRecord s
  | .account => accountRecord s
  | .charge => chargeRecord s
  | .settings => s.settings.page page

/-- The generation of a record, or of a page of SETTINGS (09 R169, 10 R176). -/
def generationOf (r : RecordId) (page : Nat) (g : Generations) : Byte :=
  match r with
  | .status => g.status
  | .cells => g.cells
  | .allowance => g.allowance
  | .claims => g.claims
  | .suction => g.suction
  | .dirt => g.dirt
  | .bin => g.bin
  | .account => g.account
  | .charge => g.charge
  | .settings =>
    match page with
    | 0 => g.page0
    | 1 => g.page1
    | 2 => g.page2
    | _ => g.page3

/-- A generation after an event: one more when the record's bytes differ (09 R169). A window expiry that leaves every byte of DIRT as
it stood, which 06 R108 would count, advances nothing (log 16). -/
def nextGeneration (r : RecordId) (page : Nat) (s t : State) : Byte :=
  if recordBytes r page s = recordBytes r page t then generationOf r page t.gens else generationOf r page t.gens + 1#8

/-- Every generation after an event from `s` to `t`. -/
def nextGenerations (s t : State) : Generations where
  status := nextGeneration .status 0 s t
  cells := nextGeneration .cells 0 s t
  allowance := nextGeneration .allowance 0 s t
  claims := nextGeneration .claims 0 s t
  suction := nextGeneration .suction 0 s t
  dirt := nextGeneration .dirt 0 s t
  bin := nextGeneration .bin 0 s t
  account := nextGeneration .account 0 s t
  charge := nextGeneration .charge 0 s t
  page0 := nextGeneration .settings 0 s t
  page1 := nextGeneration .settings 1 s t
  page2 := nextGeneration .settings 2 s t
  page3 := nextGeneration .settings 3 s t

/-- One event: what `f` does, then each record it changed advances its generation once (09 R169), and a change of MEN, CHGG or
WANDG is noted for 01 R15 (log 29). The records before the event are taken at the event's own moment, so that the passing of
time alone advances none (log 16). -/
def event (f : State → State) (s : State) : State :=
  let t := f s
  { t with
    gens := nextGenerations { s with now := t.now } t
    smp := { t.smp with lastSwitch := if t.switches = s.switches then t.smp.lastSwitch else some t.now } }

/-- The CELLS record's second event of a scan completion: a bleed set that differs from the one `before` the completion advances the
CELLS generation at its own event, beside the publish (11 R188, log 16). -/
def bleedEvent (before : Bleeds) (s : State) : State :=
  if s.chg.bleeds = before then s else { s with gens := { s.gens with cells := s.gens.cells + 1#8 } }

end Sys2Proof.Machine
end

