-- ==== Sys2Proof/Machine/SettingsTable.lean ====
section
/-! DEFINITION. The settings table (10, section 10.1): WRITE_SET judged by the kind of its entry, the owners' checks, and what each
owner does with a taken value. -/

namespace Sys2Proof.Machine

/-! ## The kinds of entry (10 R175) -/

/-- The range of a numeric tunable, in the units it is written in (10, section 10.1; CLOG_RPM counts 10 rpm). -/
def settingRange (id : Nat) : Option (Int × Int) :=
  match id with
  | 2 => some (2800, 3400)
  | 3 => some (2500, 3200)
  | 4 => some (100, 600)
  | 5 => some (1, 50)
  | 6 => some (1000, 10000)
  | 7 => some (-30, 10)
  | 8 => some (40, 80)
  | 9 => some (50, 2000)
  | 11 => some (1, 4)
  | 12 => some (1, 4)
  | 13 => some (0, 256)
  | 14 => some (0, 300)
  | 15 => some (1, 50)
  | 16 => some (0, 15)
  | 17 => some (200, 700)
  | 18 => some (0, 600)
  | 19 => some (6000, 13000)
  | 20 => some (1, 255)
  | 21 => some (1, 1023)
  | 22 => some (0, 200)
  | 25 => some (16, 250)
  | 27 => some (0, 1023)
  | 28 => some (0, 255)
  | 29 => some (1, 63)
  | 30 => some (0, 255)
  | 31 => some (1, 15)
  | 32 => some (1, 15)
  | 33 => some (0, 255)
  | 34 => some (256, 4095)
  | 37 => some (0, 255)
  | 38 => some (64, 240)
  | 39 => some (50, 100)
  | 40 => some (1000, 6000)
  | 41 => some (500, 4000)
  | 42 => some (4000, 4250)
  | 43 => some (0, 15)
  | 44 => some (35, 55)
  | 45 => some (50, 500)
  | 46 => some (10, 100)
  | 47 => some (50, 300)
  | _ => none

/-- A numeric tunable takes a value that lies in its range (10 R175). -/
def Settings.setNumeric (id : Nat) (v : Int) (t : Settings) : Settings :=
  match id with
  | 2 => { t with vcut := v.toNat }
  | 3 => { t with vstop := v.toNat }
  | 4 => { t with prated := v.toNat }
  | 5 => { t with riseStep := v.toNat }
  | 6 => { t with stepMin := v.toNat }
  | 7 => { t with tdisLo := v }
  | 8 => { t with tdisHi := v }
  | 9 => { t with rInit := v.toNat }
  | 11 => { t with depthSuction := v.toNat }
  | 12 => { t with depthBrush := v.toNat }
  | 13 => { t with headShare := v.toNat }
  | 14 => { t with binCap := v.toNat }
  | 15 => { t with rampUp := v.toNat }
  | 16 => { t with ki := v.toNat }
  | 17 => { t with pfull := v.toNat }
  | 18 => { t with clogMinP := v.toNat }
  | 19 => { t with clogRpm := 10 * v.toNat }
  | 20 => { t with clogLock := v.toNat }
  | 21 => { t with clogUnlock := v.toNat }
  | 22 => { t with clogCap := v.toNat }
  | 25 => { t with win := v.toNat }
  | 27 => { t with noiseManual := v.toNat }
  | 28 => { t with offset := v.toNat }
  | 29 => { t with gain := v.toNat }
  | 30 => { t with heavyThr := v.toNat }
  | 31 => { t with heavyLock := v.toNat }
  | 32 => { t with heavyUnlock := v.toNat }
  | 33 => { t with heavyFloor := v.toNat }
  | 34 => { t with refwin := v.toNat }
  | 37 => { t with hopTol := v.toNat }
  | 38 => { t with fullRatio := v.toNat }
  | 39 => { t with fullPct := v.toNat }
  | 40 => { t with designCap := v.toNat }
  | 41 => { t with chgI := v.toNat }
  | 42 => { t with chgVcell := v.toNat }
  | 43 => { t with chgTlo := v }
  | 44 => { t with chgThi := v }
  | 45 => { t with termI := v.toNat }
  | 46 => { t with balDelta := v.toNat }
  | 47 => { t with rechargeDrop := v.toNat }
  | _ => t

/-! ## The owners' checks (10 R175; 02 R40, 03 R45, 06 R122) -/

/-- The owner's own check on a numeric value after the clamp: the status that refuses it, if any. -/
def ownerRefusal (id : Nat) (v : Int) (s : State) : Option Status :=
  match id with
  | 2 => if v < (s.settings.vstop : Int) + 100 then some .badArg else none
  | 3 => if (s.settings.vcut : Int) < v + 100 then some .badArg else none
  | 11 => if v < (s.arb.suction.length : Int) then some .state else none
  | 12 => if v < (s.arb.brush.length : Int) then some .state else none
  | 34 => if s.bin.meas.isSome then some .busy else none
  | _ => none

/-! ## What the owners do with a taken value -/

/-- R_INIT applied: at once, or at the completion of the computation in flight (02 R28). -/
def applyRInit (s : State) : State :=
  match s.alw.inflight with
  | none => { s with alw := { s.alw with rcell := s.settings.rInit } }
  | some _ => { s with alw := { s.alw with pendingRInit := some s.settings.rInit } }

/-- The gauge takes a re-formed or re-judged record; a change of bin state is handed to the arbiter (06 R122). -/
def takeBin (p : Bin × Bool) (s : State) : State :=
  let t := raiseIfFull p.2 { s with bin := p.1 }
  if p.1.state = s.bin.state then t else recompute t

/-- What the owner of a numeric tunable does at the write; `old` is the table before it (02 R28, 06 R122, 07 R135, 08 R145,
R158). Every other value is used from its next use. -/
def applyNumeric (id : Nat) (old : Settings) (s : State) : State :=
  match id with
  | 9 => applyRInit s
  | 34 => if old.refwin = s.settings.refwin then s else takeBin (s.bin.uncalibrate, false) s
  | 38 => takeBin (s.bin.reform s.settings.fullRatio s.settings.fullPct) s
  | 39 => takeBin (s.bin.rejudge s.settings.fullPct) s
  | 40 => { s with acct := s.acct.applyDesignCap s.settings.designCap }
  | 41 => reformOrder s
  | 42 => reformOrder s
  | _ => s

/-! ## The writes (10 R175; 09 R170) -/

/-- A write's reply: the identifier and the value in force after it (09 R170). -/
def settingReply (id : Nat) (s : State) (c : Status) : Reply := ⟨s, c, u8 id ++ s.settings.bytes id⟩

/-- A numeric tunable is clamped into its range, checked by its owner, taken and applied. -/
def writeNumeric (id : Nat) (lo hi v : Int) (s : State) : Reply :=
  let c := clampInt lo hi v
  match ownerRefusal id c s with
  | some status => settingReply id s status
  | none =>
    settingReply id (applyNumeric id s.settings { s with settings := s.settings.setNumeric id c })
      (if c = v then .ok else .clamped)

/-- AUTOZERO: a taken write empties the PER_64 run, whatever value is written (01 R17). -/
def writeAutozero (v : Int) (s : State) : Reply :=
  let take (m : AutoZero) : State :=
    { s with settings := { s.settings with autozero := m }, smp := { s.smp with run := ⟨0, 0⟩ } }
  if v = 0 then settingReply 1 (take .off) .ok
  else if v = 1 then settingReply 1 (take .perScan) .ok
  else if v = 2 then settingReply 1 (take .per64) .ok
  else settingReply 1 s .badArg

/-- NOISE_MODE (06 R109). -/
def writeNoiseMode (v : Int) (s : State) : Reply :=
  if v = 0 then settingReply 26 { s with settings := { s.settings with noiseMode := .manual } } .ok
  else if v = 1 then settingReply 26 { s with settings := { s.settings with noiseMode := .auto } } .ok
  else settingReply 26 s .badArg

/-- DOUBLE (06 R122): BUSY during a measurement; a changed value discards the calibration. -/
def writeDouble (v : Int) (s : State) : Reply :=
  if v ≠ 0 ∧ v ≠ 1 then settingReply 35 s .badArg
  else if s.bin.meas.isSome then settingReply 35 s .busy
  else
    let b := decide (v = 1)
    let t := { s with settings := { s.settings with double := b } }
    settingReply 35 (if s.settings.double = b then t else takeBin (t.bin.uncalibrate, false) t) .ok

/-- HOP (06 R122). -/
def writeHop (v : Int) (s : State) : Reply :=
  if v ≠ 0 ∧ v ≠ 1 then settingReply 36 s .badArg
  else settingReply 36 { s with settings := { s.settings with hop := decide (v = 1) } } .ok

/-- The points of a derate curve as written: two bytes of temperature and two of factor each (11 R184). -/
def deratePoints : List Byte → List DeratePoint
  | a :: b :: c :: d :: rest => ⟨sword a b, sword c d⟩ :: deratePoints rest
  | _ => []

/-- The derate curve, taken whole or refused (02 R40). -/
def writeDerate (value : List Byte) (s : State) : Reply :=
  let points := deratePoints value
  if derateOk points then settingReply 10 { s with settings := { s.settings with derate := points } } .ok
  else settingReply 10 s .badArg

/-- A suction curve as written: two bytes of base, eight signed slope bytes (11 R184). -/
def curveOf : List Byte → Int × List Int
  | lo :: hi :: slopes => (sword lo hi, slopes.map BitVec.toInt)
  | _ => (-1, [])

/-- The HARD curve, taken whole or refused (04 R86). -/
def writeHard (value : List Byte) (s : State) : Reply :=
  let (base, slopes) := curveOf value
  if curveOk base slopes then
    settingReply 23 { s with settings := { s.settings with hard := ⟨base.toNat, slopes⟩ } } .ok
  else settingReply 23 s .badArg

/-- The CARPET curve, taken whole or refused (04 R86). -/
def writeCarpet (value : List Byte) (s : State) : Reply :=
  let (base, slopes) := curveOf value
  if curveOk base slopes then
    settingReply 24 { s with settings := { s.settings with carpet := ⟨base.toNat, slopes⟩ } } .ok
  else settingReply 24 s .badArg

/-- ATTN_MASK: a name outside the handle list is refused (09 R172; 11 R184). -/
def writeMask (lo hi : Byte) (s : State) : Reply :=
  if word lo hi < 32768 then
    settingReply 48 { s with settings := { s.settings with attnMask := BitVec.ofNat 15 (word lo hi) } } .ok
  else settingReply 48 s .badArg

/-- WRITE_SET as the settings table and the owner take it (10 R175; 09 R170, R166 checks 7 and 8). -/
def writeSetting (id : Nat) (value : List Byte) (s : State) : Reply :=
  if id = 10 then writeDerate value s
  else if id = 23 then writeHard value s
  else if id = 24 then writeCarpet value s
  else
    match value with
    | [lo, hi] =>
      if id = 1 then writeAutozero (sword lo hi) s
      else if id = 26 then writeNoiseMode (sword lo hi) s
      else if id = 35 then writeDouble (sword lo hi) s
      else if id = 36 then writeHop (sword lo hi) s
      else if id = 48 then writeMask lo hi s
      else
        match settingRange id with
        | some (a, b) => writeNumeric id a b (sword lo hi) s
        | none => refuse s .nosuch
    | _ => refuse s .nosuch

/-! ## The return to defaults at a soft reset (10 R183; 06 R123; 07 R135) -/

/-- The gauge at the return of the settings to their defaults (06 R123): uncalibrated where REFWIN or DOUBLE changes, otherwise
re-formed with the default FULL_RATIO and re-judged. -/
def Bin.toDefaults (old : Settings) (b : Bin) : Bin × Bool :=
  if old.refwin = Settings.defaults.refwin ∧ old.double = Settings.defaults.double then
    b.reform Settings.defaults.fullRatio Settings.defaults.fullPct
  else (b.uncalibrate, false)

end Sys2Proof.Machine
end

