-- ==== Sys2Proof/Machine/Power.lean ====
section
/-! DEFINITION. Soft reset, shelf entry and wake over the whole part (10 R180, R181, R183; the tables of R20, R39, R65, R88, R99,
R110, R123, R137, R159, R174). -/

namespace Sys2Proof.Machine

/-! ## Soft reset (10 R183) -/

/-- The sampler after a soft reset (01 R20). -/
def Sampler.softReset (now : Nat) (m : Sampler) : Sampler where
  cadence := .slow
  phase := .resting now true
  offset := 0
  run := ⟨0, 0⟩
  invalidCount := 0
  number := 0
  table := none
  lastSwitch := m.lastSwitch

/-- The allowance unit after a soft reset (02 R25, R39): Rcell stands; a pending R_INIT is dropped (log 23). -/
def Allowance.softReset (a : Allowance) : Allowance where
  rcell := a.rcell
  snapshot := none
  inflight := none
  pendingRInit := none
  pallow := 0
  cause := .initial
  ovfV := false
  ovfI := false
  episode := false
  discards := 0
  last := none

/-- The regulator after a soft reset: its power-on values (04 R88). -/
def Suction.softReset (now : Nat) : Suction where
  pressed := false
  trigTimer := some (now + ms 20)
  lock := false
  state := .stopped
  faultCause := .none
  stallTimer := none
  stopTimer := none
  enableAsked := false
  overCount := 0
  target := 0
  acc := 0
  duty := 0
  trim := none
  speed := 0
  lastPulse := none
  clogged := false
  lockCount := 0
  unlockCount := 0
  episodes := 0
  lastTemp := none

/-- The floor-head unit with the wand unpowered and the head ABSENT (05 R99). -/
def Head.unpowered : Head where
  wand := false
  wandOff := none
  info := none
  silence := none
  floor := .unknown
  overload := 0

/-- The dirt monitor after a soft reset (06 R110); the previous counted edge stands (log 34). -/
def Dirt.softReset (d : Dirt) : Dirt where
  window := none
  count := 0
  completed := 0
  ring := []
  floorN := none
  raw := 0
  heavy := false
  lockCount := 0
  unlockCount := 0
  eff := 0
  lastEdge := d.lastEdge

/-- The gauge after a soft reset, and whether BIN_FULL is raised by the re-judgement (06 R118, R123). -/
def Bin.softReset (now : Nat) (old : Settings) (b : Bin) : Bin × Bool :=
  Bin.toDefaults old { b with meas := none, lastTry := b.tryBefore, calPending := false, latchTimer := some (now + ms 20) }

/-- The account after a soft reset (07 R137): the session closed, the default DESIGN_CAP applied. -/
def Account.softReset (a : Account) : Account :=
  let b := a.closeSession
  Account.applyDesignCap Settings.defaults.designCap
    { b with qUnder := false, qOver := false, lastI := none, iavg := 0 }

/-- The charge controller after a soft reset (08 R159): the order number is kept, and advances if the current changes to 0;
ORDER_CHANGED is not raised. A ceiling that alone returns to its default advances nothing (log 26). -/
def Charger.softReset (c : Charger) : Charger :=
  { c.cleared with
    state := .absent, detach := 0, latest := none, orderCur := 0, orderCeil := Settings.defaults.chgVcell,
    orderNum := if c.orderCur = 0 then c.orderNum else (c.orderNum + 1) % 256 }

/-- The ports after a soft reset, less the SOFT_RESET response (09 R174): requests waiting behind it are dropped (log 8). -/
def Ports.softReset (p : Ports) : Ports where
  handle := { p.handle with queue := [] }
  wand := WirePort.idle p.wand.sent
  dock := WirePort.idle p.dock.sent
  handleNotes := 0
  wandNotes := 0
  dockNotes := 0

/-- A soft reset (10 R183). BIN_FULL follows the clear of the notice sets; the recomputation follows the allowance (03 R65). -/
def softReset (s : State) : State :=
  let (b, full) := s.bin.softReset s.now s.settings
  raiseIfFull full
    (recompute
      { s with
        smp := s.smp.softReset s.now
        alw := s.alw.softReset
        arb := { s.arb.dropBoth with path := .idle, waiting := none, shortS := false, shortH := false }
        suc := Suction.softReset s.now
        head := Head.unpowered
        dirt := s.dirt.softReset
        bin := b
        acct := s.acct.softReset
        chg := s.chg.softReset
        ports := s.ports.softReset
        settings := Settings.defaults
        pwr := { s.pwr with entry := .none, deepTimer := none } })

/-! ## Shelf entry (10 R177, R180) -/

/-- The cause of a PENDING shelf entry that may be carried out now, if all that R177 lists holds. -/
def State.shelfReady (s : State) : Option ShelfCause :=
  if s.pwr.awake && s.alw.inflight.isNone && s.bin.meas.isNone then
    match s.pwr.entry with
    | .request true => some .request
    | .deep => some .deep
    | _ => none
  else none

/-- The regulator at shelf entry (04 R88). -/
def Suction.shelve (u : Suction) : Suction :=
  { u with
    lock := false, trigTimer := none, enableAsked := false, duty := 0, target := 0, acc := 0, stallTimer := none,
    stopTimer := none }

/-- The charge controller at shelf entry (08 R159): the dock is treated as left; the fault cause is kept for reading. -/
def shelveCharger (s : State) : State :=
  let was := s.chg.state
  let t := reformOrder { s with chg := { s.chg with state := .absent } }
  let t :=
    { t with
      chg := { t.chg.cleared with detach := 0, faultCause := s.chg.faultCause }
      acct := t.acct.closeSession }
  let t := raiseHandle .chargeState t
  if was = .absent then t else raiseHandle .dockChange t

/-- A shelf entry carried out (10 R180). -/
def carryShelf (cause : ShelfCause) (s : State) : State :=
  let t :=
    shelveCharger
      (wandPowerOff { s with suc := s.suc.shelve, dirt := { s.dirt.leave with count := s.dirt.count } })
  recompute
    { t with
      smp := { t.smp with phase := .stopped, run := ⟨0, 0⟩ }
      arb := t.arb.dropBoth
      bin := { t.bin with latchTimer := none }
      ports := { t.ports with wand := WirePort.idle t.ports.wand.sent, dock := WirePort.idle t.ports.dock.sent }
      pwr := { t.pwr with awake := false, entry := .none, shelfCause := some cause, deepTimer := none } }

/-! ## Wake (10 R181) -/

/-- A wake from SHELF (10 R181): every block takes its wake values. -/
def wakeUp (cause : WakeInput) (s : State) : State :=
  recompute
    { s with
      smp := { s.smp with cadence := .slow, phase := .resting s.now true }
      alw := { s.alw with pallow := 0, cause := .initial, snapshot := none, episode := false }
      suc := { s.suc with trigTimer := some (s.now + ms 20), speed := 0, lastPulse := none }
      bin := { s.bin with latchTimer := some (s.now + ms 20) }
      acct := { s.acct with lastI := none, iavg := 0 }
      chg := { s.chg with latest := none, attach := 0, detach := 0 }
      pwr := { s.pwr with awake := true, wakeCause := some cause } }

end Sys2Proof.Machine
end

