-- ==== Sys2Proof/Machine/ScanWork.lean ====
section
/-! DEFINITION. What each receiver does with a published scan record (01 R19): power control (10 R179), the suction regulator
(04 R77), the floor-head unit (05 R97, R98) and the charge controller (08 R157). -/

namespace Sys2Proof.Machine

/-! ## Power control (10 R179) -/

/-- The deep-discharge condition on a valid scan. -/
def State.deepCondition (s : State) (r : ScanRecord) : Bool :=
  decide (r.cells.vmin < 2500) && s.arb.path == .idle && !s.runRequest

/-- The deep-discharge timer at a scan completion: an invalid scan neither starts nor stops it. -/
def judgeDeep (r : ScanRecord) (s : State) : State :=
  if r.isValid then
    { s with
      pwr :=
        { s.pwr with
          deepTimer := if s.deepCondition r then some (s.pwr.deepTimer.getD (s.now + ms 10000)) else none } }
  else s

/-! ## The suction regulator (04 R75 to R83) -/

/-- The overcurrent condition (04 R75). -/
def overcurrent (r : ScanRecord) : Bool := r.motorSat || decide (45000 < r.motor)

/-- The HOT condition (04 R75). -/
def motorHot : Therm → Bool
  | .ok t => decide (120 ≤ t)
  | _ => true

/-- The checks of R75 at a valid scan with the enable asked: the regulator after them, and the cause of a fault. -/
def Suction.checkMotor (r : ScanRecord) (u : Suction) : Suction × SuctionCause :=
  if motorHot r.motorTemp then
    (if overcurrent r then u else { u with overCount := 0 }, .hot)
  else if overcurrent r then
    let n := countUp 3 u.overCount
    ({ u with overCount := n }, if 3 ≤ n then .overcurrent else .none)
  else ({ u with overCount := 0 }, .none)

/-- The ramp of the target toward the grant (04 R78). -/
def rampTarget (rampUp gs target : Nat) : Nat := if target < gs then min (target + rampUp) gs else target

/-- Pm (04 R79). -/
def motorPower (r : ScanRecord) : Nat := r.vpack * r.motor / 1000000

/-- The trim update (04 R79), with the target already ramped and the duty of before. -/
def Suction.trimUpdate (ki : Nat) (r : ScanRecord) (u : Suction) : Suction :=
  let error := (u.target : Int) - motorPower r
  let holds := (u.duty == 1000 && decide (0 < error)) || (u.duty == 0 && decide (error < 0))
  { u with
    trim := some ⟨motorPower r, error⟩
    acc := if holds then u.acc else clampInt (-20000) 20000 (u.acc + error * (ki : Int)) }

/-- The ramp, the trim update at a valid scan, and the duty (04 R77 step 3). -/
def Suction.steer (t : Settings) (gs : Nat) (r : ScanRecord) (u : Suction) : Suction :=
  let u := { u with target := rampTarget t.rampUp gs u.target }
  let u := if r.isValid then u.trimUpdate t.ki r else u
  { u with duty := dutyFor u.state t.pfull u.target u.acc }

/-- The clog count (04 R82, R83): the regulator after it, and whether CLOGGED is entered. -/
def Suction.countClog (t : Settings) (u : Suction) : Suction × Bool :=
  if u.clogged then
    let n := if u.speed + 5000 < t.clogRpm then countUp 1023 u.unlockCount else 0
    if t.clogUnlock ≤ n then ({ u with clogged := false, lockCount := 0, unlockCount := 0 }, false)
    else ({ u with unlockCount := n }, false)
  else
    let n := if t.clogMinP ≤ u.target ∧ t.clogRpm ≤ u.speed then countUp 255 u.lockCount else 0
    if t.clogLock ≤ n then
      ({ u with clogged := true, lockCount := 0, unlockCount := 0, episodes := countUp 3 u.episodes }, true)
    else ({ u with lockCount := n }, false)

/-- The work of the regulator in STARTING or RUNNING after the checks of R75 (04 R77 steps 3 and 4). -/
def steerScan (r : ScanRecord) (s : State) : State :=
  let t := { s with suc := s.suc.steer s.settings s.arb.gs r }
  if t.suc.state = .running then
    let (u, entered) := t.suc.countClog t.settings
    let t := { t with suc := u }
    if entered then
      let t := raiseHandle .clog t
      if 3 ≤ t.suc.episodes then faultSuction .clog t else t
    else t
  else t

/-- The regulator's own work on a scan record, in the order of R77. The path of a fault entered here is released, and the
recomputation made, after every receiver's own work (01 R19). -/
def suctionScan (r : ScanRecord) (s : State) : State :=
  let s := if r.isValid then { s with suc := { s.suc with lastTemp := some r.motorTemp } } else s
  match s.suc.state with
  | .fault =>
    if r.isValid && s.mayLeaveFault then { s with suc := { s.suc with state := .stopped } } else s
  | .starting | .running =>
    if s.suc.enableAsked && r.isValid then
      let (u, cause) := s.suc.checkMotor r
      let t := { s with suc := u }
      if cause = .none then steerScan r t else faultSuction cause t
    else steerScan r s
  | .stopping =>
    if s.suc.enableAsked && r.isValid then
      let (u, cause) := s.suc.checkMotor r
      let t := { s with suc := u }
      if cause = .none then t else faultSuction cause t
    else s
  | _ => s

/-! ## The floor-head unit (05 R97, R98) -/

/-- The limit of the overload check, in mA (05 R97). -/
def overloadLimit (gh vpack : Nat) : Nat := gh * 1000000 / vpack * 5 / 4 + 300

/-- The scan counts for the overload check (05 R97). -/
def Head.counts (r : ScanRecord) (h : Head) : Bool :=
  r.isValid && r.cadence == .fast && !r.iSat && !r.motorSat && decide (0 < r.vpack) && h.wand && h.info.isSome

/-- The overload count after a scan (05 R97). -/
def Head.scan (gh : Nat) (r : ScanRecord) (h : Head) : Head :=
  if h.counts r then
    if (overloadLimit gh r.vpack : Int) < r.i - r.motor then { h with overload := countUp 10 h.overload }
    else { h with overload := 0 }
  else h

/-- A head overload (05 R98). -/
def headOverload (s : State) : State := wandPowerOff (raiseHandle .headOverload s)

/-! ## The charge controller (08 R138, R145, R147 to R157) -/

/-- Inserts a cell into a list of cells with their voltages: highest voltage first, equal voltages lower index first. -/
def insertCell (c : Nat × Nat) : List (Nat × Nat) → List (Nat × Nat)
  | [] => [c]
  | d :: rest => if d.2 < c.2 then c :: d :: rest else d :: insertCell c rest

/-- The cells 1 to 7 with their voltages, in the order in which the bleed selection visits them (08 R155). -/
def visitOrder (cells : Cells) : List (Nat × Nat) :=
  [(1, cells.c1), (2, cells.c2), (3, cells.c3), (4, cells.c4), (5, cells.c5), (6, cells.c6), (7, cells.c7)].foldl
    (fun acc c => insertCell c acc) []

/-- A visited candidate is taken unless a neighbour has been taken (08 R155). -/
def visit (threshold : Nat) (taken : List Nat) (c : Nat × Nat) : List Nat :=
  if threshold < c.2 ∧ taken.contains (c.1 - 1) = false ∧ taken.contains (c.1 + 1) = false then c.1 :: taken else taken

/-- The bleed set of a scan's cells (08 R155). -/
def selectBleeds (balDelta : Nat) (cells : Cells) : Bleeds :=
  let taken := (visitOrder cells).foldl (visit (cells.vmin + balDelta)) []
  ⟨taken.contains 1, taken.contains 2, taken.contains 3, taken.contains 4, taken.contains 5, taken.contains 6,
    taken.contains 7⟩

/-- COLD after a valid scan (08 R145). -/
def coldAfter (tmin : Option Int) (cold : Bool) : Bool :=
  match tmin with
  | some t => if t ≤ 10 then true else if 13 ≤ t then false else cold
  | none => cold

/-- The latest valid values stored and COLD updated, at a valid scan (08 R157, R145). A change of COLD re-forms the order. -/
def storeLatest (r : ScanRecord) (s : State) : State :=
  let cold := coldAfter r.tmin s.chg.cold
  let t :=
    { s with
      chg :=
        { s.chg with
          latest := some ⟨r.cells.vmin, r.cells.vmax, r.cells.spread, r.tmin, r.tmax, r.thermFault⟩, cold := cold } }
  if cold = s.chg.cold then t else reformOrder t

/-- The temperature window is checked in these states (08 R153). -/
def ChargeState.windowed : ChargeState → Bool
  | .precharge | .bulk | .topoff | .balance => true
  | _ => false

/-- The excess count after a valid scan in a charging state (08 R147). -/
def excessAfter (orderCur : Nat) (i : Int) (excess : Nat) : Nat :=
  if (orderCur : Int) + 300 < -i then countUp 50 excess else 0

/-- What the excess count calls for when it stands at 50 (08 R147). -/
def State.excessCause (s : State) : ChargeCause :=
  if s.chg.excess < 50 then .none
  else if s.gracePassed then .overcurrent
  else if !s.orderIsRead && (s.chg.unreadSince.any fun t => decide (t + ms 2000 ≤ s.now)) then .noOrderRead
  else .none

/-- The transitions of TOPOFF at a valid scan, after the CELL_OVER check (08 R150 steps 2 and 3). -/
def topoffScan (r : ScanRecord) (s : State) : State :=
  let t :=
    if s.settings.chgVcell ≤ r.cells.vmax then putOrder (s.chg.orderCur - 20) s.settings.chgVcell s else s
  if t.chg.orderCur ≤ t.settings.termI then
    if t.settings.balDelta < r.cells.spread then enterBalance t else enterDone t
  else t

/-- PAUSED may be left: temperatures inside the narrowed window (08 R154). -/
def resumable (t : Settings) (r : ScanRecord) : Bool :=
  !r.thermFault && (r.tmin.all fun x => decide (t.chgTlo + 3 ≤ x)) && (r.tmax.all fun x => decide (x ≤ t.chgThi - 3))

/-- The transitions of the state in force at a valid scan (08 R148 to R152, R154). -/
def chargeTransition (r : ScanRecord) (s : State) : State :=
  match s.chg.state with
  | .precharge => if 3000 ≤ r.cells.vmin then beginBulk s else s
  | .bulk => if s.settings.chgVcell ≤ r.cells.vmax then enterTopoff s else s
  | .topoff => topoffScan r s
  | .balance => if r.cells.spread ≤ s.settings.balDelta / 2 then enterDone s else s
  | .done => if r.cells.vmax + s.settings.rechargeDrop < s.settings.chgVcell then requestCharge s else s
  | .paused =>
    if resumable s.settings r then requestCharge { s with chg := { s.chg with pauseReason := .none } } else s
  | _ => s

/-- The steps of a valid scan up to the transitions: CELL_OVER, the temperature window, the excess count, the transitions; a step
that changes the state ends the scan's work for the later steps (08 R157). -/
def chargeSteps (r : ScanRecord) (s : State) : State :=
  if s.chg.state.charging && decide (s.settings.chgVcell + 50 < r.cells.vmax) then enterChargeFault .cellOver s
  else if s.chg.state.windowed && r.thermFault then enterPaused .therm s
  else if s.chg.state.windowed && outsideWindow s.settings r.tmin r.tmax then enterPaused .temp s
  else if s.chg.state.charging then
    let t := { s with chg := { s.chg with excess := excessAfter s.chg.orderCur r.i s.chg.excess } }
    let cause := t.excessCause
    if cause = .none then chargeTransition r t else enterChargeFault cause t
  else chargeTransition r s

/-- The bleed selection in the state the scan leaves the controller in (08 R155, R157). -/
def bleedScan (r : ScanRecord) (s : State) : State :=
  match s.chg.state with
  | .topoff | .balance => { s with chg := { s.chg with bleeds := selectBleeds s.settings.balDelta r.cells } }
  | _ => s

/-- The controller's work on a scan that is neither attach nor detach (08 R157). -/
def chargeJudge (r : ScanRecord) (s : State) : State :=
  if r.isValid then bleedScan r (chargeSteps r (storeLatest r s))
  else
    let t := { s with chg := { s.chg with bleeds := Bleeds.off } }
    if t.chg.state.windowed && r.invalidCount == 3 then enterPaused .scan t else t

/-- The controller's work on a scan record: the attach or detach count, then the rest (08 R138, R157). -/
def chargeScan (r : ScanRecord) (s : State) : State :=
  if s.chg.state = .absent then
    let n := if 18000 ≤ r.dock then countUp 5 s.chg.attach else 0
    let t := { s with chg := { s.chg with attach := n } }
    if 5 ≤ n then attachDock t else chargeJudge r t
  else
    let n := if r.dock < 14000 then countUp 2 s.chg.detach else 0
    let t := { s with chg := { s.chg with detach := n } }
    if 2 ≤ n then detachDock t else chargeJudge r t

/-! ## The whole completion (01 R19, R3) -/

/-- The hand-offs that follow the receivers' own work: the recomputation where the suction or clog state changed or SCAN_FAULT was
published, the end of the run request a fault's cleared latch causes, and a head overload (01 R19; 04 R76; 05 R98; log 19). -/
def scanHandOffs (r : ScanRecord) (before s : State) : State :=
  let s := if before.runRequest && !s.runRequest then { s with head := s.head.runEnd s.now } else s
  let s :=
    if s.suc.state != before.suc.state || s.suc.clogged != before.suc.clogged || (!r.isValid && r.invalidCount == 3) then
      recompute s
    else s
  if before.head.overload < 10 ∧ 10 ≤ s.head.overload then headOverload s else s

/-- The receivers' work on a record, each on the state the scan left, then the hand-offs; a suction fault's path is released
last (01 R19, log 19). -/
def receiveScan (r : ScanRecord) (s : State) : State :=
  let t := judgeDeep r s
  let t := { t with acct := t.acct.scan r, head := t.head.scan t.arb.gh r }
  let t := allowanceScan r (suctionScan r t)
  let faulted := t.suc.state == .fault && s.suc.state != .fault
  let t := chargeScan r (scanHandOffs r s t)
  if faulted then releaseSuction t else t

/-- The qualification of a scan for auto-zero (01 R15), with the switches open `before` its completion and after. -/
def qualifies (r : ScanRecord) (start : Nat) (before after : State) : Bool :=
  r.isValid && !r.iSat && !before.anySwitch && !after.anySwitch && (after.smp.lastSwitch.all fun t => decide (t < start))

/-- The sampler's cadence and next start, from the FAST demand at a completion (01 R3). -/
def scheduleScan (start : Nat) (s : State) : State :=
  if s.fastDemand then { s with smp := { s.smp with cadence := .fast, phase := .resting s.now false } }
  else { s with smp := { s.smp with cadence := .slow, phase := .resting (start + ms 100) false } }

/-- A scan completion (01 R1 to R19): the record is published, every receiver acts, the offset is updated, the next scan is
scheduled. -/
def completeScan (start : Nat) (first : Bool) (k : ScanCodes) (s : State) : State :=
  let r := scanRecord s.smp first k
  let p := { s with smp := { s.smp with number := r.number, invalidCount := r.invalidCount, table := some r } }
  let t := receiveScan r p
  let t :=
    { t with smp := autoZero t.settings.autozero (qualifies r start s t) (rawCurrent k.pack1 k.pack2) t.smp }
  scheduleScan start t

end Sys2Proof.Machine
end

