-- ==== Sys2Proof/Machine/Requests.lean ====
section
/-! DEFINITION. What the owner of each request does with it (09 R166 check 8), one definition a request: the state after it, the
status, the reply payload (layouts: log 10). -/

namespace Sys2Proof.Machine

/-! ## The port's own requests (09 R168, R171, R173) -/

/-- The byte that names a link (09 R173). -/
def linkPos : Link → Nat
  | .handle => 0
  | .wand => 1
  | .dock => 2

/-- IDENT (09 R173). -/
def serveIdent (link : Link) (s : State) : Reply :=
  ⟨s, .ok,
    u16 Config.vendorCode.toNat ++ [Config.familyCode] ++ u16 472 ++ [Config.dieRevision] ++ u8 (linkPos link) ++ u8 56⟩

/-- READ_REC, once the record is known and permitted (09 R168). -/
def serveReadRec (p : List Byte) (s : State) : Reply :=
  match p with
  | [code, page, offset, most] =>
    match recordId code with
    | none => refuse s .nosuch
    | some r =>
      let lastPage := if r = .settings then 3 else 0
      let bytes := recordBytes r page.toNat s
      if lastPage < page.toNat ∨ bytes.length < offset.toNat then refuse s .badArg
      else
        let data := (bytes.drop offset.toNat).take (min most.toNat 53)
        ⟨s, .ok,
          u8 bytes.length ++ u8 (bytes.length - offset.toNat - data.length)
            ++ [generationOf r page.toNat s.gens] ++ data⟩
  | _ => refuse s .badArg

/-- A link's notice set as two bytes, one bit a name (11 R184). -/
def State.noteBytes (s : State) : Link → List Byte
  | .handle => u16 s.ports.handleNotes.toNat
  | .wand => u16 s.ports.wandNotes.toNat
  | .dock => u16 s.ports.dockNotes.toNat

/-- The names of a set given in two bytes lie in the link's list (09 R171, 11 R184). -/
def namesKnown (link : Link) (n : Nat) : Bool :=
  match link with
  | .handle => decide (n < 32768)
  | .wand => decide (n < 2)
  | .dock => decide (n < 8)

/-- The named notices are cleared from the link's set (09 R171). -/
def clearNotes (link : Link) (n : Nat) (p : Ports) : Ports :=
  match link with
  | .handle => { p with handleNotes := p.handleNotes &&& ~~~(BitVec.ofNat 15 n) }
  | .wand => { p with wandNotes := p.wandNotes &&& ~~~(BitVec.ofNat 1 n) }
  | .dock => { p with dockNotes := p.dockNotes &&& ~~~(BitVec.ofNat 3 n) }

/-- CLEAR_NOTE (09 R171). -/
def serveClearNote (link : Link) (p : List Byte) (s : State) : Reply :=
  match p with
  | [lo, hi] =>
    if namesKnown link (word lo hi) then
      let t := { s with ports := clearNotes link (word lo hi) s.ports }
      ⟨t, .ok, t.noteBytes link⟩
    else refuse s .badArg
  | _ => refuse s .badArg

/-- WRITE_SET (10 R175). -/
def serveWriteSet (p : List Byte) (s : State) : Reply :=
  match p with
  | [] => refuse s .badArg
  | id :: value => writeSetting id.toNat value s

/-- CLEAR_STICKY (09 R173; 02 R38; 07 R126). -/
def serveClearSticky (s : State) : Reply :=
  let t :=
    { s with alw := { s.alw with ovfV := false, ovfI := false }, acct := { s.acct with qUnder := false, qOver := false } }
  ⟨t, .ok, flags [t.alw.ovfV, t.alw.ovfI, t.acct.qUnder, t.acct.qOver]⟩

/-- SOFT_RESET (09 R173, 10 R183). -/
def serveSoftReset (s : State) : Reply := ⟨softReset s, .ok, []⟩

/-- SHELF_ENTER (10 R177). -/
def serveShelfEnter (s : State) : Reply :=
  if s.pwr.entry = .none ∧ (s.arb.path ≠ .idle ∨ s.runRequest = true) then refuse s .state
  else ⟨{ s with pwr := { s.pwr with entry := .request false } }, .accepted, []⟩

/-! ## The claim requests (03, section 3.2); the presence check of R46 is check 5 of 09 R166 -/

/-- A claim's kind and value as written, checked (03 R47 check 2; 11 R184): none is BAD_ARG. -/
def claimKind (brush : Bool) (kind : Byte) (value : Nat) : Option ClaimKind :=
  if 600 < value then none
  else
    match kind.toNat with
    | 0 => some (.level value)
    | 1 => if brush then none else some (.curve value)
    | 2 => some .zero
    | _ => none

/-- A brush LEVEL above the rated power takes the rated power (03 R47): the kind stored, and whether it was clamped. -/
def clampToRating (rating : Nat) : ClaimKind → ClaimKind × Bool
  | .level w => if rating < w then (.level rating, true) else (.level w, false)
  | k => (k, false)

/-- The head's rated brush power, 0 while it is ABSENT (05 R91). -/
def State.rating (s : State) : Nat := (s.head.info.map (·.rating)).getD 0

/-- OK, or CLAMPED. -/
def okOrClamped (clamped : Bool) : Status := if clamped then .clamped else .ok

/-- Index, depth and grant of the suction stack, as a reply carries them (03 R46, R47). -/
def suctionReply (t : State) (index : Nat) (c : Status) : Reply :=
  ⟨t, c, u8 index ++ u8 t.arb.suction.length ++ u16 t.arb.gs⟩

/-- The same of the brush stack. -/
def brushReply (t : State) (index : Nat) (c : Status) : Reply :=
  ⟨t, c, u8 index ++ u8 t.arb.brush.length ++ u16 t.arb.gh⟩

/-- CLAIM_PUSH on the suction stack (03 R47). -/
def pushSuctionClaim (kind : Byte) (value : Nat) (label : Byte) (s : State) : Reply :=
  match claimKind false kind value with
  | none => refuse s .badArg
  | some k =>
    if s.settings.depthSuction ≤ s.arb.suction.length then refuse s .depth
    else
      match s.arb.free with
      | [] => refuse s .pool
      | i :: _ => suctionReply (recompute { s with arb := s.arb.pushSuction k label }) i.val .ok

/-- CLAIM_PUSH on the brush stack (03 R47). -/
def pushBrushClaim (kind : Byte) (value : Nat) (label : Byte) (s : State) : Reply :=
  match claimKind true kind value with
  | none => refuse s .badArg
  | some k =>
    if s.settings.depthBrush ≤ s.arb.brush.length then refuse s .depth
    else
      match s.arb.free with
      | [] => refuse s .pool
      | i :: _ =>
        let (stored, clamped) := clampToRating s.rating k
        brushReply (recompute { s with arb := s.arb.pushBrush stored label }) i.val (okOrClamped clamped)

/-- CLAIM_PUSH (03 R47). -/
def serveClaimPush (link : Link) (p : List Byte) (s : State) : Reply :=
  match p with
  | [kind, lo, hi, label] =>
    if link = .wand then pushBrushClaim kind (word lo hi) label s else pushSuctionClaim kind (word lo hi) label s
  | _ => refuse s .badArg

/-- CLAIM_POP on the suction stack (03 R48). -/
def popSuctionClaim (label : Byte) (s : State) : Reply :=
  match s.arb.suction with
  | [] => refuse s .empty
  | c :: _ =>
    if c.label = label then suctionReply (recompute { s with arb := s.arb.popSuction }) c.index.val .ok
    else refuse s .label

/-- CLAIM_POP on the brush stack (03 R48). -/
def popBrushClaim (label : Byte) (s : State) : Reply :=
  match s.arb.brush with
  | [] => refuse s .empty
  | c :: _ =>
    if c.label = label then brushReply (recompute { s with arb := s.arb.popBrush }) c.index.val .ok
    else refuse s .label

/-- CLAIM_POP (03 R48). -/
def serveClaimPop (link : Link) (p : List Byte) (s : State) : Reply :=
  match p with
  | [label] => if link = .wand then popBrushClaim label s else popSuctionClaim label s
  | _ => refuse s .badArg

/-- CLAIM_REPLACE on the suction stack (03 R49). -/
def replaceSuctionClaim (kind : Byte) (value : Nat) (label : Byte) (s : State) : Reply :=
  match claimKind false kind value with
  | none => refuse s .badArg
  | some k =>
    match s.arb.suction with
    | [] => refuse s .empty
    | c :: _ =>
      if c.label = label then suctionReply (recompute { s with arb := s.arb.replaceSuction k }) c.index.val .ok
      else refuse s .label

/-- CLAIM_REPLACE on the brush stack (03 R49). -/
def replaceBrushClaim (kind : Byte) (value : Nat) (label : Byte) (s : State) : Reply :=
  match claimKind true kind value with
  | none => refuse s .badArg
  | some k =>
    match s.arb.brush with
    | [] => refuse s .empty
    | c :: _ =>
      if c.label = label then
        let (stored, clamped) := clampToRating s.rating k
        brushReply (recompute { s with arb := s.arb.replaceBrush stored }) c.index.val (okOrClamped clamped)
      else refuse s .label

/-- CLAIM_REPLACE (03 R49). -/
def serveClaimReplace (link : Link) (p : List Byte) (s : State) : Reply :=
  match p with
  | [kind, lo, hi, label] =>
    if link = .wand then replaceBrushClaim kind (word lo hi) label s
    else replaceSuctionClaim kind (word lo hi) label s
  | _ => refuse s .badArg

/-- CLAIM_DROP (03 R50): the reply carries a depth of 0 and the owner's grant. -/
def serveClaimDrop (link : Link) (s : State) : Reply :=
  if link = .wand then
    let t := recompute { s with arb := s.arb.dropBrush }
    ⟨t, .ok, u8 t.arb.brush.length ++ u16 t.arb.gh⟩
  else
    let t := recompute { s with arb := s.arb.dropSuction }
    ⟨t, .ok, u8 t.arb.suction.length ++ u16 t.arb.gs⟩

/-! ## The suction regulator's requests (04 R67) -/

/-- The reply of LOCK_ON and LOCK_OFF: the latch and the suction state as they stand after the request. -/
def lockReply (t : State) (c : Status) : Reply := ⟨t, c, flags [t.suc.lock] ++ u8 t.suc.state.pos⟩

/-- LOCK_ON (04 R67). -/
def serveLockOn (s : State) : Reply :=
  if s.suc.state = .running then
    lockReply (runChanged s.runRequest { s with suc := { s.suc with lock := true } }) .ok
  else lockReply s .state

/-- LOCK_OFF (04 R67). -/
def serveLockOff (s : State) : Reply := lockReply (clearLock s) .ok

/-! ## The bin gauge's requests (06 R115, R119) -/

/-- The sequence number that the completion to come will take (06 R115). -/
def nextSeq (s : State) : List Byte := u8 ((s.bin.seq + 1) % 256)

/-- BIN_MEASURE (06 R115). -/
def serveBinMeasure (s : State) : Reply :=
  if s.bin.meas.isSome then ⟨s, .busy, nextSeq s⟩
  else if s.suc.state ≠ .stopped ∨ s.bin.state = .detached then refuse s .state
  else ⟨{ s with bin := s.bin.start s.settings }, .accepted, nextSeq s⟩

/-- BIN_CAL_EMPTY (06 R119). -/
def serveBinCalEmpty (s : State) : Reply :=
  if s.bin.meas.isSome then ⟨s, .busy, nextSeq s⟩
  else if s.suc.state ≠ .stopped ∨ s.bin.state = .detached then refuse s .state
  else ⟨{ s with bin := { s.bin.start s.settings with calPending := true } }, .accepted, nextSeq s⟩

/-! ## The floor-head unit's requests (05 R91, R92, R96) -/

/-- The reply of HEAD_HELLO (05 R91). -/
def helloReply (t : State) (c : Status) : Reply :=
  ⟨t, c,
    u8 (if t.head.info.isSome then 1 else 0) ++ u8? (t.head.info.map (·.rating))
      ++ flags [(t.head.info.map (·.floorSense)).getD false] ++ u8 t.head.floor.pos ++ u8 t.arb.brush.length
      ++ u16 t.arb.gh⟩

/-- Entry to PRESENT (05 R91). -/
def headPresent (info : HeadInfo) (s : State) : State :=
  recompute
    (raiseHandle .headChange
      { s with head := { s.head with info := some info, silence := some (s.now + ms 200), overload := 0 } })

/-- A re-announcement (05 R92): the floor becomes UNKNOWN when FLOOR_SENSE goes from set to clear; a changed rating or floor is
handed to the arbiter. Where both change, one recomputation follows, which 03 R55 leaves open (log 37). -/
def headAgain (old new : HeadInfo) (s : State) : State :=
  let floor := if old.floorSense && !new.floorSense then .unknown else s.head.floor
  let t := { s with head := { s.head with info := some new, floor := floor } }
  if old.rating = new.rating ∧ floor = s.head.floor then t else recompute t

/-- HEAD_HELLO (05 R91, R92). -/
def serveHeadHello (p : List Byte) (s : State) : Reply :=
  match p with
  | [lo, hi, capability] =>
    let rating := min 120 (word lo hi)
    let info : HeadInfo := ⟨rating, capability.getLsbD 0⟩
    let code := okOrClamped (decide (120 < word lo hi))
    if s.head.wand then
      match s.head.info with
      | none => helloReply (headPresent info s) code
      | some old => helloReply (headAgain old info s) code
    else helloReply s .state
  | _ => refuse s .badArg

/-- The floor type a byte names (11 R184). -/
def floorType (b : Byte) : Option FloorType :=
  match b.toNat with
  | 0 => some .hard
  | 1 => some .carpet
  | 2 => some .unknown
  | _ => none

/-- The reply of FLOOR_REPORT: the floor type as it stands after the request (05 R96). -/
def floorReply (t : State) (c : Status) : Reply := ⟨t, c, u8 t.head.floor.pos⟩

/-- FLOOR_REPORT (05 R96). -/
def serveFloorReport (p : List Byte) (s : State) : Reply :=
  match p with
  | [b] =>
    match floorType b with
    | none => floorReply s .badArg
    | some f =>
      if (s.head.info.map (·.floorSense)).getD false then
        if f = s.head.floor then floorReply s .ok
        else floorReply (recompute { s with head := { s.head with floor := f } }) .ok
      else floorReply s .state
  | _ => refuse s .badArg

/-! ## The charge controller's requests (08 R142, R146) -/

/-- The reply of DOCK_HELLO: the charge state after the request and the capability in force (08 R142); an absent voltage,
of an unsigned range that takes four bytes, reads 80000000 hex (log 12). -/
def dockReply (t : State) (c : Status) : Reply :=
  ⟨t, c,
    u8 t.chg.state.pos ++ u16? (t.chg.cap.map (·.current)) ++ i32? (t.chg.cap.map fun x => (x.voltage : Int))⟩

/-- The voltage capability that qualification asks for (08 R142). -/
def Settings.leastVoltage (t : Settings) : Nat := 7 * t.chgVcell + 1000

/-- An accepted DOCK_HELLO (08 R142): qualification in QUALIFY, otherwise a re-announcement. -/
def acceptHello (c : Capability) (s : State) : State :=
  if s.chg.state = .qualify then
    requestCharge (reformOrder { s with chg := { s.chg with cap := some c, helloTimer := none } })
  else reformOrder { s with chg := { s.chg with cap := some c } }

/-- DOCK_HELLO (08 R142). -/
def serveDockHello (p : List Byte) (s : State) : Reply :=
  match p with
  | [ilo, ihi, vlo, vhi] =>
    if s.chg.state = .absent ∨ s.chg.state = .fault then dockReply s .state
    else if word vlo vhi < s.settings.leastVoltage then dockReply s .badArg
    else
      let current := max 500 (min 4000 (word ilo ihi))
      dockReply (acceptHello ⟨current, word vlo vhi⟩ s) (okOrClamped (current != word ilo ihi))
  | _ => refuse s .badArg

/-- ORDER_READ (08 R146). -/
def serveOrderRead (s : State) : Reply :=
  if s.chg.state = .absent then refuse s .state
  else
    let t := { s with chg := { s.chg with read := some ⟨s.chg.orderNum, s.now⟩, unreadSince := none } }
    ⟨t, .ok,
      u8 t.chg.orderNum ++ u16 t.chg.orderCur ++ u16 t.chg.orderCeil ++ u8 t.chg.state.pos ++ flags [t.chg.cap.isSome]⟩

end Sys2Proof.Machine
end

