-- ==== Sys2Proof/Machine/Ports.lean ====
section
/-! DEFINITION. The link ports (09): the checks on a request, its response, the handle port's slot and transactions, the
single-wire ports. -/

namespace Sys2Proof.Machine

/-! ## Serving a request (09 R166, R167) -/

/-- Checks 3 and 4: the record a READ_REC names (09 R166). -/
def recordRefusal (link : Link) (p : List Byte) : Option Status :=
  match p with
  | [] => some .badArg
  | code :: _ =>
    match recordId code with
    | none => some .nosuch
    | some r => if readable link r then none else some .denied

/-- Check 5: a wand request from an ABSENT head, other than IDENT and HEAD_HELLO (05 R95). -/
def presenceRefusal (k : ReqKind) (link : Link) (s : State) : Option Status :=
  if link = .wand ∧ s.head.info.isNone = true ∧ k ≠ .ident ∧ k ≠ .headHello then some .state else none

/-- Check 7: the setting a WRITE_SET names (09 R166). -/
def settingRefusal (k : ReqKind) (p : List Byte) : Option Status :=
  match k, p with
  | .writeSet, id :: _ => if (settingLength id.toNat).isNone then some .nosuch else none
  | _, _ => none

/-- Checks 2 to 7, the first that fails (09 R166). -/
def portRefusal (k : ReqKind) (link : Link) (p : List Byte) (s : State) : Option Status :=
  if permitted link k = false then some .denied
  else
    ((if k = .readRec then recordRefusal link p else none).or (presenceRefusal k link s)).or
      ((if lengthOk k p then none else some .badArg).or (settingRefusal k p))

/-- The owner's action on a request that passed checks 1 to 7. -/
def ownerServe (k : ReqKind) (link : Link) (p : List Byte) (s : State) : Reply :=
  match k with
  | .ident => serveIdent link s
  | .readRec => serveReadRec p s
  | .clearNote => serveClearNote link p s
  | .writeSet => serveWriteSet p s
  | .clearSticky => serveClearSticky s
  | .softReset => serveSoftReset s
  | .shelfEnter => serveShelfEnter s
  | .claimPush => serveClaimPush link p s
  | .claimPop => serveClaimPop link p s
  | .claimReplace => serveClaimReplace link p s
  | .claimDrop => serveClaimDrop link s
  | .lockOn => serveLockOn s
  | .lockOff => serveLockOff s
  | .binMeasure => serveBinMeasure s
  | .binCalEmpty => serveBinCalEmpty s
  | .headHello => serveHeadHello p s
  | .floorReport => serveFloorReport p s
  | .dockHello => serveDockHello p s
  | .orderRead => serveOrderRead s

/-- A request served: the port's checks in order, then the owner (09 R166). -/
def serve (link : Link) (r : Request) (s : State) : Reply :=
  match reqKind r.kind with
  | none => refuse s .nosuch
  | some k =>
    match portRefusal k link r.payload s with
    | some c => refuse s c
    | none => ownerServe k link r.payload s

/-- The response frame to a request (09 R167): its tag, the status with NOTE_PENDING as the set stands, the reply payload. -/
def Reply.response (link : Link) (tag : Byte) (r : Reply) : List Byte :=
  frame (statusByte r.code (r.st.notePending link)) tag r.data

/-! ## The handle port (09 R163 to R165) -/

/-- The ACCEPTED response of a pending SHELF_ENTER has been delivered or replaced (10 R177). -/
def shelfDelivered (s : State) : State :=
  match s.pwr.entry with
  | .request _ => { s with pwr := { s.pwr with entry := .request true } }
  | _ => s

/-- A response that stands undelivered is replaced by an arrival (09 R165). -/
def replaceAnswer (s : State) : State :=
  if s.ports.handle.slot = .answerReady then shelfDelivered s else s

/-- The handle slot once a request is served: SERVING until its response stands in the buffer; a SOFT_RESET carried out leaves the
slot ANSWER_READY (09 R164, R173). -/
def slotAfter (r : Request) (c : Status) : Slot :=
  if r.kind = ReqKind.softReset.byte ∧ c = .ok then .answerReady else .serving

/-- A request is served on the handle link and its response stands in the buffer. -/
def handleServe (r : Request) (s : State) : State :=
  let a := serve .handle r s
  { a.st with
    ports :=
      { a.st.ports with
        handle := { a.st.ports.handle with slot := slotAfter r a.code, buf := a.response .handle r.tag } } }

/-- A request arrives at the handle port (09 R164, R165): during SERVING it waits until the response of the earlier one stands in
the buffer. -/
def handleArrive (r : Request) (s : State) : State :=
  if s.ports.handle.slot = .serving then
    { s with ports := { s.ports with handle := { s.ports.handle with queue := s.ports.handle.queue ++ [r] } } }
  else event (handleServe r) (event replaceAnswer s)

/-- The response stands in the buffer: the slot is ANSWER_READY, and a request that waited is served and replaces it
(09 R164, R165). -/
def answerReady (s : State) : State :=
  let t := { s with ports := { s.ports with handle := { s.ports.handle with slot := .answerReady } } }
  match t.ports.handle.queue with
  | [] => t
  | r :: rest =>
    handleArrive r { t with ports := { t.ports with handle := { t.ports.handle with queue := rest } } }

/-- The `n` bytes shifted out in a transaction (09 R163). -/
def outgoing (p : HandlePort) (n : Nat) : List Byte :=
  if p.slot = .answerReady then ((readyByte :: p.buf) ++ List.replicate n 0#8).take n
  else (notReadyByte :: List.replicate n 0#8).take n

/-- The outgoing side of a transaction of `n` complete bytes (09 R163): the response is delivered when its CRC byte has been shifted
out. -/
def shiftOut (n : Nat) (s : State) : State :=
  let t := { s with ports := { s.ports with handle := { s.ports.handle with sdo := outgoing s.ports.handle n } } }
  if s.ports.handle.slot = .answerReady ∧ s.ports.handle.buf.length < n then
    event shelfDelivered
      { t with ports := { t.ports with handle := { t.ports.handle with slot := .idle, buf := [] } } }
  else t

/-- The incoming side of a transaction, judged at CSN rising (09 R164): a first byte of 0 carries no request, bytes beyond the 64th
are ignored, a frame that is not intact is discarded. -/
def shiftIn (mosi : List Byte) (s : State) : State :=
  match mosi with
  | [] => s
  | first :: _ =>
    if first = 0#8 then s
    else
      match judgeFrame (mosi.take 64) with
      | .intact r => handleArrive r s
      | _ => s

/-- A transaction while AWAKE. -/
def transact (mosi : List Byte) (s : State) : State := shiftIn mosi (shiftOut mosi.length s)

/-- The transaction that wakes the part: it is not received and shifts out zero bytes (09 R174, 10 R181). -/
def wakeByLink (n : Nat) (s : State) : State :=
  event (wakeUp .link)
    { s with ports := { s.ports with handle := { s.ports.handle with sdo := List.replicate n 0#8 } } }

/-! ## The single-wire ports (09 R161, R162) -/

/-- The link of a wire. -/
def wireLink : Wire → Link
  | .wand => .wand
  | .dock => .dock

/-- The port of a wire. -/
def State.wirePort (s : State) : Wire → WirePort
  | .wand => s.ports.wand
  | .dock => s.ports.dock

/-- The port of a wire takes a new record. -/
def State.setWire (s : State) (w : Wire) (p : WirePort) : State :=
  match w with
  | .wand => { s with ports := { s.ports with wand := p } }
  | .dock => { s with ports := { s.ports with dock := p } }

/-- The time of the gap timer (09 R161). -/
def gapTime : Nat := ms 1

/-- A frame from the wand link that is intact restarts the silence timer of a PRESENT head (05 R93). -/
def hear (w : Wire) (s : State) : State :=
  if w = .wand ∧ s.head.info.isSome = true then
    { s with head := { s.head with silence := some (s.now + ms 200) } }
  else s

/-- An intact request is served on a wire; the slot is SERVING until the response has been sent (09 R162). -/
def wireServe (w : Wire) (r : Request) (s : State) : State :=
  let a := serve (wireLink w) r (hear w s)
  a.st.setWire w ⟨.serving, a.response (wireLink w) r.tag, none, false, (a.st.wirePort w).sent⟩

/-- A port goes back to IDLE with nothing in its buffer. -/
def wireIdle (w : Wire) (s : State) : State := s.setWire w (WirePort.idle (s.wirePort w).sent)

/-- The remains of a frame that was too long are taken until the gap timer runs out (09 R161). -/
def wireDiscard (w : Wire) (s : State) : State :=
  s.setWire w { s.wirePort w with slot := .receiving, buf := [], gap := some (s.now + gapTime), discarding := true }

/-- A byte reaches a port (09 R160 to R162): it joins those received of the frame in progress, and the frame is judged. A corrupt frame
returns the slot to IDLE at once, so that the next byte begins a new frame; nothing is received while the slot is SERVING; what
follows a frame too long is taken with it. -/
def wireByte (w : Wire) (s : State) (b : Byte) : State :=
  let p := s.wirePort w
  if p.slot = .serving ∨ p.slot = .answerReady then s
  else if p.discarding then wireDiscard w s
  else
    match judgeFrame (p.buf ++ [b]) with
    | .intact r => event (wireServe w r) s
    | .corrupt => wireIdle w s
    | .tooLong => wireDiscard w s
    | .truncated => s.setWire w { p with slot := .receiving, buf := p.buf ++ [b], gap := some (s.now + gapTime) }

/-- Bytes reach a port, one after the other (09 R161). -/
def wireReceive (w : Wire) (bytes : List Byte) (s : State) : State := bytes.foldl (wireByte w) s

/-- A request row on a wire: the whole frame reaches the port, intact (log 6). -/
def wireArrive (w : Wire) (r : Request) (s : State) : State :=
  let p := s.wirePort w
  if p.slot = .serving ∨ p.slot = .answerReady then s
  else if p.discarding ∨ 56 < r.payload.length then wireDiscard w s
  else event (wireServe w r) s

/-! ## Arrivals of the request rows (log 6) -/

/-- A request row: the request arrives at the port of its link. In SHELF the wires receive nothing, and a handle request's CSN fall
wakes the part and is not received (09 R174). -/
def arrive (link : Link) (r : Request) (s : State) : State :=
  if s.pwr.awake then
    match link with
    | .handle => if 56 < r.payload.length then s else handleArrive r s
    | .wand => wireArrive .wand r s
    | .dock => wireArrive .dock r s
  else
    match link with
    | .handle => event (wakeUp .link) s
    | _ => s

end Sys2Proof.Machine
end

