-- ==== Sys2Proof/Machine/ChargeFamily.lean ====
section
/-! DEFINITION. The commands of the charge controller. -/

namespace Sys2Proof.Machine

/-- The HELLO timer runs out (08 R143). -/
def helloExpires (s : State) : State :=
  let t := { s with chg := { s.chg with helloTimer := none } }
  if t.chg.state = .qualify then enterChargeFault .noHello t else t

/-- HELLO_TIMER_EXPIRY (08 R143). -/
def execHelloTimerExpiry (s : State) : Host.Outcome State Fault Refusal :=
  match s.chg.helloTimer with
  | some d => .next (event helloExpires (s.reach d))
  | none => .next s

/-- The precharge timer runs out (08 R148). -/
def prechargeExpires (s : State) : State :=
  let t := { s with chg := { s.chg with preTimer := none } }
  if t.chg.state = .precharge then enterChargeFault .prechargeTime t else t

/-- PRECHARGE_TIMER_EXPIRY (08 R148). -/
def execPrechargeTimerExpiry (s : State) : Host.Outcome State Fault Refusal :=
  match s.chg.preTimer with
  | some d => .next (event prechargeExpires (s.reach d))
  | none => .next s

/-- The balance timer runs out (08 R151). -/
def balanceExpires (s : State) : State :=
  let t := { s with chg := { s.chg with balTimer := none } }
  if t.chg.state = .balance then enterDone t else t

/-- BALANCE_TIMER_EXPIRY (08 R151). -/
def execBalanceTimerExpiry (s : State) : Host.Outcome State Fault Refusal :=
  match s.chg.balTimer with
  | some d => .next (event balanceExpires (s.reach d))
  | none => .next s

/-- DOCK_HELLO (08 R142). -/
def execDockHello (dt : Nat) (link : Link) (tag : Byte) (payload : List Byte) (s : State) :
    Host.Outcome State Fault Refusal :=
  .next (arrive link ⟨ReqKind.dockHello.byte, tag, payload⟩ (s.elapse dt))

/-- ORDER_READ (08 R146). -/
def execOrderRead (dt : Nat) (link : Link) (tag : Byte) (payload : List Byte) (s : State) :
    Host.Outcome State Fault Refusal :=
  .next (arrive link ⟨ReqKind.orderRead.byte, tag, payload⟩ (s.elapse dt))

end Sys2Proof.Machine
end

