-- ==== Sys2Proof/Machine/ClaimFamily.lean ====
section
/-! DEFINITION. The claim requests (03, section 3.2). -/

namespace Sys2Proof.Machine

/-- CLAIM_PUSH (03 R47). -/
def execClaimPush (dt : Nat) (link : Link) (tag : Byte) (payload : List Byte) (s : State) :
    Host.Outcome State Fault Refusal :=
  .next (arrive link ⟨ReqKind.claimPush.byte, tag, payload⟩ (s.elapse dt))

/-- CLAIM_POP (03 R48). -/
def execClaimPop (dt : Nat) (link : Link) (tag : Byte) (payload : List Byte) (s : State) :
    Host.Outcome State Fault Refusal :=
  .next (arrive link ⟨ReqKind.claimPop.byte, tag, payload⟩ (s.elapse dt))

/-- CLAIM_REPLACE (03 R49). -/
def execClaimReplace (dt : Nat) (link : Link) (tag : Byte) (payload : List Byte) (s : State) :
    Host.Outcome State Fault Refusal :=
  .next (arrive link ⟨ReqKind.claimReplace.byte, tag, payload⟩ (s.elapse dt))

/-- CLAIM_DROP (03 R50). -/
def execClaimDrop (dt : Nat) (link : Link) (tag : Byte) (payload : List Byte) (s : State) :
    Host.Outcome State Fault Refusal :=
  .next (arrive link ⟨ReqKind.claimDrop.byte, tag, payload⟩ (s.elapse dt))

end Sys2Proof.Machine
end

