-- ==== Sys2Proof/Machine/HeadFamily.lean ====
section
/-! DEFINITION. The commands of the floor-head unit. -/

namespace Sys2Proof.Machine

/-- The silence timer runs out (05 R93): the head becomes ABSENT. -/
def silenceExpires (s : State) : State := headAbsent { s with head := { s.head with silence := none } }

/-- SILENCE_EXPIRY (05 R93, R94). -/
def execSilenceExpiry (s : State) : Host.Outcome State Fault Refusal :=
  match s.head.silence with
  | some d => .next (event silenceExpires (s.reach d))
  | none => .next s

/-- WAND_OFF_TIMER_EXPIRY (05 R90). -/
def execWandOffTimerExpiry (s : State) : Host.Outcome State Fault Refusal :=
  match s.head.wandOff with
  | some d => .next (event wandPowerOff (s.reach d))
  | none => .next s

/-- HEAD_HELLO (05 R91, R92). -/
def execHeadHello (dt : Nat) (link : Link) (tag : Byte) (payload : List Byte) (s : State) :
    Host.Outcome State Fault Refusal :=
  .next (arrive link ⟨ReqKind.headHello.byte, tag, payload⟩ (s.elapse dt))

/-- FLOOR_REPORT (05 R96). -/
def execFloorReport (dt : Nat) (link : Link) (tag : Byte) (payload : List Byte) (s : State) :
    Host.Outcome State Fault Refusal :=
  .next (arrive link ⟨ReqKind.floorReport.byte, tag, payload⟩ (s.elapse dt))

end Sys2Proof.Machine
end

