-- ==== Sys2Proof/Machine/PortFamily.lean ====
section
/-! DEFINITION. The commands of the link ports: frames, transactions, the port's own requests and WRITE_SET. -/

namespace Sys2Proof.Machine

/-- FRAME_ARRIVAL (09 R160, R161). In SHELF bytes on the wires are lost (09 R174). -/
def execFrameArrival (dt : Nat) (wire : Wire) (bytes : List Byte) (s : State) : Host.Outcome State Fault Refusal :=
  let s := s.elapse dt
  if s.pwr.awake then .next (wireReceive wire bytes s) else .next s

/-- FRAME_START_BIT (09 R161): in IDLE a start bit begins a frame. -/
def execFrameStartBit (dt : Nat) (wire : Wire) (s : State) : Host.Outcome State Fault Refusal :=
  let s := s.elapse dt
  let p := s.wirePort wire
  if s.pwr.awake && p.slot == .idle then
    .next (s.setWire wire { p with slot := .receiving, buf := [], gap := some (s.now + gapTime), discarding := false })
  else .next s

/-- GAP_TIMER_EXPIRY (09 R161): the frame being received is discarded and the slot returns to IDLE. -/
def execGapTimerExpiry (dt : Nat) (wire : Wire) (s : State) : Host.Outcome State Fault Refusal :=
  let s := s.elapse dt
  match (s.wirePort wire).gap with
  | some d => .next (wireIdle wire (s.reach d))
  | none => .next s

/-- The response in a wire's buffer has been sent (09 R162). -/
def wireSent (w : Wire) (s : State) : State := s.setWire w (WirePort.idle (s.wirePort w).buf)

/-- RESPONSE_DELIVERED (09 R162). -/
def execResponseDelivered (dt : Nat) (wire : Wire) (s : State) : Host.Outcome State Fault Refusal :=
  let s := s.elapse dt
  if (s.wirePort wire).slot = .serving then .next (wireSent wire s) else .next s

/-- HANDLE_TRANSACTION (09 R163 to R165). In SHELF its CSN fall wakes the part (09 R174, 10 R181). -/
def execHandleTransaction (dt : Nat) (mosi : List Byte) (s : State) : Host.Outcome State Fault Refusal :=
  let s := s.elapse dt
  if s.pwr.awake then .next (transact mosi s) else .next (wakeByLink mosi.length s)

/-- HANDLE_ANSWER_READY (09 R164, R165). -/
def execHandleAnswerReady (dt : Nat) (s : State) : Host.Outcome State Fault Refusal :=
  let s := s.elapse dt
  if s.pwr.awake && s.ports.handle.slot == .serving then .next (answerReady s) else .next s

/-- IDENT (09 R173). -/
def execIdent (dt : Nat) (link : Link) (tag : Byte) (payload : List Byte) (s : State) : Host.Outcome State Fault Refusal :=
  .next (arrive link ⟨ReqKind.ident.byte, tag, payload⟩ (s.elapse dt))

/-- READ_REC (09 R168). -/
def execReadRec (dt : Nat) (link : Link) (tag : Byte) (payload : List Byte) (s : State) : Host.Outcome State Fault Refusal :=
  .next (arrive link ⟨ReqKind.readRec.byte, tag, payload⟩ (s.elapse dt))

/-- CLEAR_NOTE (09 R171). -/
def execClearNote (dt : Nat) (link : Link) (tag : Byte) (payload : List Byte) (s : State) :
    Host.Outcome State Fault Refusal :=
  .next (arrive link ⟨ReqKind.clearNote.byte, tag, payload⟩ (s.elapse dt))

/-- WRITE_SET (10 R175). -/
def execWriteSet (dt : Nat) (link : Link) (tag : Byte) (payload : List Byte) (s : State) :
    Host.Outcome State Fault Refusal :=
  .next (arrive link ⟨ReqKind.writeSet.byte, tag, payload⟩ (s.elapse dt))

/-- CLEAR_STICKY (09 R173). -/
def execClearSticky (dt : Nat) (link : Link) (tag : Byte) (payload : List Byte) (s : State) :
    Host.Outcome State Fault Refusal :=
  .next (arrive link ⟨ReqKind.clearSticky.byte, tag, payload⟩ (s.elapse dt))

end Sys2Proof.Machine
end

