-- ==== Sys2Proof/Machine/SuctionFamily.lean ====
section
/-! DEFINITION. The commands of the suction regulator: the trigger and its debounce, the stall and stop timers, the tach, the
lock. -/

namespace Sys2Proof.Machine

/-- The level on TRIG changes while AWAKE: the debounce timer restarts (04 R66). -/
def changeTrig (level : Bool) (s : State) : State :=
  { s with trigLine := level, suc := { s.suc with trigTimer := some (s.now + ms 20) } }

/-- TRIG_EDGE (04 R66). In SHELF the line going asserted wakes the part (10 R181). -/
def execTrigEdge (dt : Nat) (s : State) : Host.Outcome State Fault Refusal :=
  let s := s.elapse dt
  if s.pwr.awake then .next (changeTrig (!s.trigLine) s)
  else if s.trigLine then .next { s with trigLine := false }
  else .next (event (wakeUp .trig) { s with trigLine := true })

/-- The debounced trigger takes the line's level (04 R66); a press with the latch set clears the latch (04 R68). -/
def takeTrigger (s : State) : State :=
  if s.trigLine = s.suc.pressed then s
  else
    runChanged s.runRequest
      { s with suc := { s.suc with pressed := s.trigLine, lock := s.suc.lock && !s.trigLine } }

/-- TRIGGER_DEBOUNCE_COMPLETION (04 R66): the debounce timer runs out. -/
def execTriggerDebounceCompletion (s : State) : Host.Outcome State Fault Refusal :=
  match s.suc.trigTimer with
  | some d =>
    let s := s.reach d
    .next (event takeTrigger { s with suc := { s.suc with trigTimer := none } })
  | none => .next s

/-- The stall timer runs out (04 R72). -/
def stallExpires (s : State) : State :=
  if s.suc.state = .starting then enterFault .stall s else { s with suc := { s.suc with stallTimer := none } }

/-- STALL_TIMER_EXPIRY (04 R72). -/
def execStallTimerExpiry (s : State) : Host.Outcome State Fault Refusal :=
  match s.suc.stallTimer with
  | some d => .next (event stallExpires (s.reach d))
  | none => .next s

/-- The stop timer runs out (04 R74). -/
def stopExpires (s : State) : State :=
  if s.suc.state = .stopping then endStopping s else { s with suc := { s.suc with stopTimer := none } }

/-- STOP_TIMER_EXPIRY (04 R74). -/
def execStopTimerExpiry (s : State) : Host.Outcome State Fault Refusal :=
  match s.suc.stopTimer with
  | some d => .next (event stopExpires (s.reach d))
  | none => .next s

/-- A speed update (04 R81), on which R72 and R74 act. -/
def speedUpdate (speed : Nat) (s : State) : State :=
  let t := { s with suc := { s.suc with speed := speed } }
  match t.suc.state with
  | .starting => if 20000 ≤ speed then enterRunning t else t
  | .stopping => if speed < 5000 then endStopping t else t
  | _ => t

/-- A pulse on TACH (04 R81): a first pulse is a reference; one less than 250 µs after the previous accepted pulse is
disregarded. -/
def tachPulse (s : State) : State :=
  match s.suc.lastPulse with
  | none => { s with suc := { s.suc with lastPulse := some s.now } }
  | some p =>
    if s.now < p + 250 then s
    else speedUpdate (60000000 / (s.now - p)) { s with suc := { s.suc with lastPulse := some s.now } }

/-- TACH_PULSE (04 R81). In SHELF the tach does not run (10, section 10.2). -/
def execTachPulse (dt : Nat) (s : State) : Host.Outcome State Fault Refusal :=
  let s := s.elapse dt
  if s.pwr.awake then .next (event tachPulse s) else .next s

/-- The tach timeout (04 R81): the speed is 0 and the reference ends. -/
def tachQuiet (s : State) : State := speedUpdate 0 { s with suc := { s.suc with lastPulse := none } }

/-- TACH_TIMEOUT (04 R81): 50 ms after the latest accepted pulse. -/
def execTachTimeout (s : State) : Host.Outcome State Fault Refusal :=
  match s.pwr.awake, s.suc.lastPulse with
  | true, some p => .next (event tachQuiet (s.reach (p + ms 50)))
  | _, _ => .next s

/-- LOCK_ON (04 R67). -/
def execLockOn (dt : Nat) (link : Link) (tag : Byte) (payload : List Byte) (s : State) : Host.Outcome State Fault Refusal :=
  .next (arrive link ⟨ReqKind.lockOn.byte, tag, payload⟩ (s.elapse dt))

/-- LOCK_OFF (04 R67). -/
def execLockOff (dt : Nat) (link : Link) (tag : Byte) (payload : List Byte) (s : State) : Host.Outcome State Fault Refusal :=
  .next (arrive link ⟨ReqKind.lockOff.byte, tag, payload⟩ (s.elapse dt))

end Sys2Proof.Machine
end

