-- ==== Sys2Proof/Machine/PowerFamily.lean ====
section
/-! DEFINITION. The commands of power control: power-on, soft reset, shelf entry, wake, the deep-discharge timer. -/

namespace Sys2Proof.Machine

/-- POWER_ON (10 R182): every block takes its power-on value; the clock, the input lines, the choice counter and the queue stand
(log 28). -/
def execPowerOn (s : State) : Host.Outcome State Fault Refusal :=
  .next (State.atPowerOn s.now s.trigLine s.latchLine s.choices s.pending)

/-- SOFT_RESET (09 R173, 10 R183). -/
def execSoftReset (dt : Nat) (link : Link) (tag : Byte) (payload : List Byte) (s : State) :
    Host.Outcome State Fault Refusal :=
  .next (arrive link ⟨ReqKind.softReset.byte, tag, payload⟩ (s.elapse dt))

/-- SHELF_ENTER (10 R177). -/
def execShelfEnter (dt : Nat) (link : Link) (tag : Byte) (payload : List Byte) (s : State) :
    Host.Outcome State Fault Refusal :=
  .next (arrive link ⟨ReqKind.shelfEnter.byte, tag, payload⟩ (s.elapse dt))

/-- A handle transaction in progress is ended as though CSN had risen; a request it carries is discarded (09 R174). -/
def cutTransaction (txn : Option (List Byte)) (s : State) : State :=
  match txn with
  | none => s
  | some mosi => shiftOut mosi.length s

/-- SHELF_ENTRY (10 R177, R180): a PENDING entry is carried out when all that R177 lists holds. -/
def execShelfEntry (txn : Option (List Byte)) (s : State) : Host.Outcome State Fault Refusal :=
  let t := cutTransaction txn s
  match t.shelfReady with
  | some cause => .next (event (carryShelf cause) t)
  | none => .next s

/-- WAKE (10 R181): an edge on a wake input. While AWAKE only the line itself is seen by its own block. -/
def execWake (dt : Nat) (input : WakeInput) (s : State) : Host.Outcome State Fault Refusal :=
  let s := s.elapse dt
  match input with
  | .trig =>
    if s.trigLine then .next s
    else if s.pwr.awake then .next (changeTrig true s)
    else .next (event (wakeUp .trig) { s with trigLine := true })
  | .dock => if s.pwr.awake then .next s else .next (event (wakeUp .dock) s)
  | .link => if s.pwr.awake then .next s else .next (event (wakeUp .link) s)

/-- The deep-discharge timer runs out (10 R179). -/
def deepExpires (s : State) : State :=
  { s with pwr := { s.pwr with deepTimer := none, entry := if s.pwr.entry = .none then .deep else s.pwr.entry } }

/-- DEEP_DISCHARGE_TIMER_EXPIRY (10 R179). -/
def execDeepDischargeTimerExpiry (s : State) : Host.Outcome State Fault Refusal :=
  match s.pwr.deepTimer with
  | some d => .next (event deepExpires (s.reach d))
  | none => .next s

end Sys2Proof.Machine
end

