-- ==== Sys2Proof/Machine/SamplerFamily.lean ====
section
/-! DEFINITION. The commands of the measurement sampler and the allowance unit: SCAN_START, SCAN_COMPLETION,
ALLOWANCE_COMPLETION. -/

namespace Sys2Proof.Machine

/-- A scan starts (01 R1, R3). -/
def startScan (first : Bool) (s : State) : State := { s with smp := { s.smp with phase := .running s.now first } }

/-- SCAN_START (01 R3, R4): the scheduled scan starts at its moment. -/
def execScanStart (s : State) : Host.Outcome State Fault Refusal :=
  match s.smp.phase with
  | .resting due first => .next (startScan first (s.reach due))
  | _ => .next s

/-- SCAN_COMPLETION (01 R1, R19): the scan in progress completes 2 ms after its start with these codes. A changed bleed set is an event
of its own for the CELLS record (11 R188). -/
def execScanCompletion (codes : ScanCodes) (s : State) : Host.Outcome State Fault Refusal :=
  match s.smp.phase with
  | .running start first =>
    .next (bleedEvent s.chg.bleeds (event (completeScan start first codes) (s.reach (start + ms 2))))
  | _ => .next s

/-- ALLOWANCE_COMPLETION (02 R21, R36, R37): the computation in flight completes. -/
def execAllowanceCompletion (s : State) : Host.Outcome State Fault Refusal :=
  match s.alw.inflight with
  | some c => .next (event (completeBudget (figures c.inputs)) (s.reach c.due))
  | none => .next s

end Sys2Proof.Machine
end

