-- ==== Sys2Proof/Machine/SensingFamily.lean ====
section
/-! DEFINITION. The commands of the dirt monitor and the bin gauge. -/

namespace Sys2Proof.Machine

/-- PIEZO_EDGE (06 R100). -/
def execPiezoEdge (dt : Nat) (s : State) : Host.Outcome State Fault Refusal :=
  let s := s.elapse dt
  .next (event (fun s => { s with dirt := s.dirt.edge s.now }) s)

/-- A window expiry (06 R108): a changed effective index is handed to the arbiter. The DIRT generation advances where the record's bytes
change (09 R169, log 16). -/
def windowExpires (s : State) : State :=
  let (d, heavy) := s.dirt.expire s.settings s.now
  let t := { s with dirt := d }
  let t := if heavy then raiseHandle .heavyDirt t else t
  if d.eff = s.dirt.eff then t else recompute t

/-- WINDOW_EXPIRY (06 R108). -/
def execWindowExpiry (s : State) : Host.Outcome State Fault Refusal :=
  match s.dirt.window with
  | some w => .next (event windowExpires (s.reach w.expiry))
  | none => .next s

/-- BINLATCH_EDGE (06 R111). In SHELF the latch debounce timer does not run (06 R118). -/
def execBinlatchEdge (dt : Nat) (s : State) : Host.Outcome State Fault Refusal :=
  let s := { s.elapse dt with latchLine := !s.latchLine }
  if s.pwr.awake then .next { s with bin := { s.bin with latchTimer := some (s.now + ms 20) } } else .next s

/-- A latch open (06 R111, R117): a measurement in flight is aborted, the bin is DETACHED, its calibration is gone. -/
def latchOpens (s : State) : State :=
  let t := abortMeasurement s
  let t :=
    recompute { t with bin := { t.bin with closed := false, state := .detached, cal := none, calPending := false } }
  if s.bin.state = .detached then t else binDetached t

/-- A latch close (06 R111, R116): the bin is UNCAL, and an automatic measurement starts. -/
def latchCloses (s : State) : State :=
  autoMeasure (recompute { s with bin := { s.bin with closed := true, state := .uncal } })

/-- The debounced latch takes the line's level (06 R111). -/
def takeLatch (s : State) : State :=
  match s.latchLine, s.bin.closed with
  | true, false => latchCloses s
  | false, true => latchOpens s
  | _, _ => s

/-- LATCH_DEBOUNCE_COMPLETION (06 R111): the latch debounce timer runs out. -/
def execLatchDebounceCompletion (s : State) : Host.Outcome State Fault Refusal :=
  match s.bin.latchTimer with
  | some d =>
    let s := s.reach d
    .next (event takeLatch { s with bin := { s.bin with latchTimer := none } })
  | none => .next s

/-- TRY_COMPLETION (06 R113): the sense cycles counted in the two halves, each held at 4095 (06 R112). -/
def execTryCompletion (dt h1 h2 : Nat) (s : State) : Host.Outcome State Fault Refusal :=
  let s := s.elapse dt
  match s.bin.meas with
  | some m => .next (event (tryCompleted m (holdHalf h1) (holdHalf h2)) s)
  | none => .next s

/-- BIN_MEASURE (06 R115). -/
def execBinMeasure (dt : Nat) (link : Link) (tag : Byte) (payload : List Byte) (s : State) :
    Host.Outcome State Fault Refusal :=
  .next (arrive link ⟨ReqKind.binMeasure.byte, tag, payload⟩ (s.elapse dt))

/-- BIN_CAL_EMPTY (06 R119). -/
def execBinCalEmpty (dt : Nat) (link : Link) (tag : Byte) (payload : List Byte) (s : State) :
    Host.Outcome State Fault Refusal :=
  .next (arrive link ⟨ReqKind.binCalEmpty.byte, tag, payload⟩ (s.elapse dt))

end Sys2Proof.Machine
end

