-- ==== Sys2Proof/Machine/Dispatch.lean ====
section
/-! DEFINITION. One arm per command, in the order of spec/opcode_table.json. -/

namespace Sys2Proof.Machine

def exec (i : Instr) (s : State) : Host.Outcome State Fault Refusal :=
  match i with
  | .powerOn => Sys2Proof.Machine.execPowerOn s
  | .softReset dt link tag payload => Sys2Proof.Machine.execSoftReset dt link tag payload s
  | .shelfEntry txn => Sys2Proof.Machine.execShelfEntry txn s
  | .wake dt input => Sys2Proof.Machine.execWake dt input s
  | .scanStart => Sys2Proof.Machine.execScanStart s
  | .scanCompletion codes => Sys2Proof.Machine.execScanCompletion codes s
  | .allowanceCompletion => Sys2Proof.Machine.execAllowanceCompletion s
  | .trigEdge dt => Sys2Proof.Machine.execTrigEdge dt s
  | .triggerDebounceCompletion => Sys2Proof.Machine.execTriggerDebounceCompletion s
  | .stallTimerExpiry => Sys2Proof.Machine.execStallTimerExpiry s
  | .stopTimerExpiry => Sys2Proof.Machine.execStopTimerExpiry s
  | .tachPulse dt => Sys2Proof.Machine.execTachPulse dt s
  | .tachTimeout => Sys2Proof.Machine.execTachTimeout s
  | .piezoEdge dt => Sys2Proof.Machine.execPiezoEdge dt s
  | .windowExpiry => Sys2Proof.Machine.execWindowExpiry s
  | .binlatchEdge dt => Sys2Proof.Machine.execBinlatchEdge dt s
  | .latchDebounceCompletion => Sys2Proof.Machine.execLatchDebounceCompletion s
  | .tryCompletion dt h1 h2 => Sys2Proof.Machine.execTryCompletion dt h1 h2 s
  | .silenceExpiry => Sys2Proof.Machine.execSilenceExpiry s
  | .wandOffTimerExpiry => Sys2Proof.Machine.execWandOffTimerExpiry s
  | .helloTimerExpiry => Sys2Proof.Machine.execHelloTimerExpiry s
  | .prechargeTimerExpiry => Sys2Proof.Machine.execPrechargeTimerExpiry s
  | .balanceTimerExpiry => Sys2Proof.Machine.execBalanceTimerExpiry s
  | .deepDischargeTimerExpiry => Sys2Proof.Machine.execDeepDischargeTimerExpiry s
  | .frameArrival dt wire bytes => Sys2Proof.Machine.execFrameArrival dt wire bytes s
  | .gapTimerExpiry dt wire => Sys2Proof.Machine.execGapTimerExpiry dt wire s
  | .responseDelivered dt wire => Sys2Proof.Machine.execResponseDelivered dt wire s
  | .handleTransaction dt mosi => Sys2Proof.Machine.execHandleTransaction dt mosi s
  | .ident dt link tag payload => Sys2Proof.Machine.execIdent dt link tag payload s
  | .readRec dt link tag payload => Sys2Proof.Machine.execReadRec dt link tag payload s
  | .clearNote dt link tag payload => Sys2Proof.Machine.execClearNote dt link tag payload s
  | .writeSet dt link tag payload => Sys2Proof.Machine.execWriteSet dt link tag payload s
  | .clearSticky dt link tag payload => Sys2Proof.Machine.execClearSticky dt link tag payload s
  | .shelfEnter dt link tag payload => Sys2Proof.Machine.execShelfEnter dt link tag payload s
  | .claimPush dt link tag payload => Sys2Proof.Machine.execClaimPush dt link tag payload s
  | .claimPop dt link tag payload => Sys2Proof.Machine.execClaimPop dt link tag payload s
  | .claimReplace dt link tag payload => Sys2Proof.Machine.execClaimReplace dt link tag payload s
  | .claimDrop dt link tag payload => Sys2Proof.Machine.execClaimDrop dt link tag payload s
  | .lockOn dt link tag payload => Sys2Proof.Machine.execLockOn dt link tag payload s
  | .lockOff dt link tag payload => Sys2Proof.Machine.execLockOff dt link tag payload s
  | .binMeasure dt link tag payload => Sys2Proof.Machine.execBinMeasure dt link tag payload s
  | .binCalEmpty dt link tag payload => Sys2Proof.Machine.execBinCalEmpty dt link tag payload s
  | .headHello dt link tag payload => Sys2Proof.Machine.execHeadHello dt link tag payload s
  | .floorReport dt link tag payload => Sys2Proof.Machine.execFloorReport dt link tag payload s
  | .dockHello dt link tag payload => Sys2Proof.Machine.execDockHello dt link tag payload s
  | .orderRead dt link tag payload => Sys2Proof.Machine.execOrderRead dt link tag payload s
  | .frameStartBit dt wire => Sys2Proof.Machine.execFrameStartBit dt wire s
  | .handleAnswerReady dt => Sys2Proof.Machine.execHandleAnswerReady dt s

end Sys2Proof.Machine
end

