-- ==== Sys2Proof/Safety.lean ====
section
/-! DEFINITION. What a safe state is: the conditions the spec promises of every state, block by block, each as one predicate on the
state; and the forms in which a next state is described: up to record generations, and with an answer standing at a port. -/

namespace Sys2Proof.Machine

/-! ## Conditions on every state -/

/-- Kind and value of a claim record (03 R42, R47): 0..600 W. -/
def ClaimKind.inRange : ClaimKind → Bool
  | .level w => decide (w ≤ 600)
  | .curve w => decide (w ≤ 600)
  | .zero => true

/-- CURVE is allowed on the suction stack alone (03 R42). -/
def ClaimKind.isCurve : ClaimKind → Bool
  | .curve _ => true
  | _ => false

/-- The claim pool (03 R42 to R44): every index stands once, on the free list or on one stack; the depths stand within their limits
and the limits within 1..4. -/
def PoolOk (s : State) : Prop :=
  (s.arb.free ++ s.arb.suction.map (·.index) ++ s.arb.brush.map (·.index)).Nodup
    ∧ s.arb.free.length + s.arb.suction.length + s.arb.brush.length = 10
    ∧ s.arb.suction.length ≤ s.settings.depthSuction ∧ s.arb.brush.length ≤ s.settings.depthBrush
    ∧ 1 ≤ s.settings.depthSuction ∧ s.settings.depthSuction ≤ 4
    ∧ 1 ≤ s.settings.depthBrush ∧ s.settings.depthBrush ≤ 4
    ∧ (s.arb.suction.all fun c => c.kind.inRange) = true
    ∧ (s.arb.brush.all fun c => c.kind.inRange && !c.kind.isCurve) = true

/-- STARTING, RUNNING or STOPPING: the suction states that hold DISCHARGE and ask for the enable (04, section 4.2). -/
def SuctionState.driving : SuctionState → Bool
  | .starting | .running | .stopping => true
  | _ => false

/-- STARTING or RUNNING: the suction states in which the target follows the grant (04 R78). -/
def SuctionState.steered : SuctionState → Bool
  | .starting | .running => true
  | _ => false

/-- Grants, target and duty (03 R56; 04 R78, R80): Gs + Gh stays within the published allowance, the target within Gs, the duty within
1000, and target and duty are 0 outside STARTING and RUNNING. -/
def GrantsOk (s : State) : Prop :=
  s.settings.headShare ≤ 256 ∧ s.arb.gs + s.arb.gh ≤ s.alw.pallow ∧ s.suc.target ≤ s.arb.gs ∧ s.suc.duty ≤ 1000
    ∧ (s.suc.state.steered = false → s.suc.target = 0 ∧ s.suc.duty = 0)

/-- The power path (03 R59, R60; 04 R67 to R74; 08, section 8.2; 10 R177 to R179): who holds the path and who waits agree with the
suction and charge states; a run in WAIT_PATH, STARTING or RUNNING has its run request, and the lock latch is set in RUNNING alone;
a pending shelf entry or a running deep-discharge timer meets the path IDLE and no run request. -/
def PathOk (s : State) : Prop :=
  (s.arb.path = .discharge ↔ s.suc.state.driving = true)
    ∧ (s.arb.path = .charge ↔ s.chg.state.charging = true)
    ∧ (s.arb.waiting = some .suction ↔ s.suc.state = .waitPath)
    ∧ (s.arb.waiting = some .charger ↔ s.chg.state = .waitIdle)
    ∧ (s.arb.waiting = some .suction → s.arb.path = .charge)
    ∧ (s.arb.waiting = some .charger → s.arb.path = .discharge)
    ∧ s.suc.enableAsked = s.suc.state.driving
    ∧ (s.suc.state = .waitPath ∨ s.suc.state = .starting ∨ s.suc.state = .running → s.runRequest = true)
    ∧ (s.suc.lock = true → s.suc.state = .running)
    ∧ (s.pwr.entry ≠ .none → s.arb.path = .idle ∧ s.runRequest = false)
    ∧ (s.pwr.deepTimer.isSome = true → s.arb.path = .idle ∧ s.runRequest = false)

/-- The charge account (07 R124, R126, R127): Q within 0..FCC, FCC within its bounds under DESIGN_CAP, the discharged count below FCC,
the accumulator short of a whole mAh. -/
def AccountOk (s : State) : Prop :=
  1000 ≤ s.settings.designCap ∧ s.acct.q ≤ s.acct.fcc ∧ s.settings.designCap / 2 ≤ s.acct.fcc
    ∧ s.acct.fcc ≤ s.settings.designCap * 11 / 10 ∧ s.acct.discharged < s.acct.fcc ∧ s.acct.acc.natAbs < 3600000

/-- The whole-number settings with their ranges (10, section 10.1): lower end, value, upper end. -/
def natRanges (t : Settings) : List (Nat × Nat × Nat) :=
  [(2800, t.vcut, 3400), (2500, t.vstop, 3200), (100, t.prated, 600), (1, t.riseStep, 50), (1000, t.stepMin, 10000),
    (50, t.rInit, 2000), (1, t.depthSuction, 4), (1, t.depthBrush, 4), (0, t.headShare, 256), (0, t.binCap, 300),
    (1, t.rampUp, 50), (0, t.ki, 15), (200, t.pfull, 700), (0, t.clogMinP, 600), (60000, t.clogRpm, 130000),
    (1, t.clogLock, 255), (1, t.clogUnlock, 1023), (0, t.clogCap, 200)]
    ++ [(16, t.win, 250), (0, t.noiseManual, 1023), (0, t.offset, 255), (1, t.gain, 63), (0, t.heavyThr, 255),
      (1, t.heavyLock, 15), (1, t.heavyUnlock, 15), (0, t.heavyFloor, 255), (256, t.refwin, 4095), (0, t.hopTol, 255),
      (64, t.fullRatio, 240), (50, t.fullPct, 100), (1000, t.designCap, 6000), (500, t.chgI, 4000),
      (4000, t.chgVcell, 4250), (50, t.termI, 500), (10, t.balDelta, 100), (50, t.rechargeDrop, 300)]

/-- The signed settings with their ranges (10, section 10.1). -/
def intRanges (t : Settings) : List (Int × Int × Int) :=
  [(-30, t.tdisLo, 10), (40, t.tdisHi, 80), (0, t.chgTlo, 15), (35, t.chgThi, 55)]

/-- A suction curve within its ranges (04 R85). -/
def Curve.ok (c : Curve) : Bool :=
  decide (c.base ≤ 600) && c.slopes.length == 8 && c.slopes.all fun x => decide (-128 ≤ x ∧ x ≤ 127)

/-- The settings table (10, section 10.1, R175; 02 R40): every value in its range, VSTOP at most VCUT − 100, the derate curve of eight
points accepted by R40, both suction curves within R85. -/
def SettingsOk (s : State) : Prop :=
  (∀ r ∈ natRanges s.settings, r.1 ≤ r.2.1 ∧ r.2.1 ≤ r.2.2) ∧ (∀ r ∈ intRanges s.settings, r.1 ≤ r.2.1 ∧ r.2.1 ≤ r.2.2)
    ∧ s.settings.vstop + 100 ≤ s.settings.vcut
    ∧ derateOk s.settings.derate = true ∧ s.settings.derate.length = 8
    ∧ s.settings.hard.ok = true ∧ s.settings.carpet.ok = true

/-- What the part has learned (02 R27, R28; 01 R14, R17, R18): Rcell, in the estimate, in a capture, pending and as R_INIT, stays
within 50..2000; the offset within −500..500; the PER_64 run below 64 scans; the invalid count within 255. -/
def EstimatesOk (s : State) : Prop :=
  (50 ≤ s.alw.rcell ∧ s.alw.rcell ≤ 2000)
    ∧ (s.alw.inflight.all fun c => decide (50 ≤ c.inputs.rcell ∧ c.inputs.rcell ≤ 2000)) = true
    ∧ (s.alw.pendingRInit.all fun r => decide (50 ≤ r ∧ r ≤ 2000)) = true
    ∧ (50 ≤ s.settings.rInit ∧ s.settings.rInit ≤ 2000)
    ∧ s.smp.offset.natAbs ≤ 500 ∧ s.smp.run.count ≤ 63 ∧ s.smp.invalidCount ≤ 255

/-- The dirt monitor (06 R101, R102, R107): outside RUNNING the window is CLOSED, the indices are 0 and HEAVY is OFF; the ring holds at
most 16 counts and the open window at most 1023. -/
def DirtOk (s : State) : Prop :=
  (s.suc.state ≠ .running →
      s.dirt.window = none ∧ s.dirt.raw = 0 ∧ s.dirt.eff = 0 ∧ s.dirt.heavy = false ∧ s.dirt.lockCount = 0
        ∧ s.dirt.unlockCount = 0)
    ∧ s.dirt.ring.length ≤ 16 ∧ s.dirt.count ≤ 1023

/-- A calibration (06 R119, R120): the full count below the baseline, the fill within 100. -/
def Calibration.ok (c : Calibration) : Bool := decide (c.full < c.baseline ∧ c.fill ≤ 100)

/-- A measurement in flight (06 R112): tries 1 to 4, steps 0 to 3. -/
def Measurement.ok (m : Measurement) : Bool := decide (1 ≤ m.tryNo ∧ m.tryNo ≤ 4 ∧ m.step ≤ 3)

/-- The bin gauge (06 R111, R112, R116, R117, R120): DETACHED while the debounced latch is OPEN, a baseline exactly in READY and FULL, and
no measurement in flight while MEN is on or the bin DETACHED. -/
def BinOk (s : State) : Prop :=
  s.settings.fullRatio ≤ 240
    ∧ (s.bin.closed = false ↔ s.bin.state = .detached)
    ∧ (s.bin.cal.isSome = true ↔ (s.bin.state = .ready ∨ s.bin.state = .full))
    ∧ (s.bin.cal.all Calibration.ok) = true
    ∧ (s.bin.meas.isSome = true → s.men = false ∧ s.bin.state ≠ .detached)
    ∧ (s.bin.meas.all Measurement.ok) = true
    ∧ s.bin.workStep ≤ 3 ∧ s.bin.seq ≤ 255

/-- The floor-head unit (05 R90, R91, R94): with the wand unpowered the head is ABSENT; an ABSENT head has no brush claim, no silence
timer, an UNKNOWN floor and an overload count of 0; a rating is at most 120 W, an overload count below 10. -/
def HeadOk (s : State) : Prop :=
  (s.head.wand = false → s.head.info = none ∧ s.head.wandOff = none)
    ∧ (s.head.info = none →
        s.arb.brush = [] ∧ s.head.silence = none ∧ s.head.floor = .unknown ∧ s.head.overload = 0)
    ∧ (s.head.info.all fun h => decide (h.rating ≤ 120)) = true
    ∧ s.head.overload ≤ 9

/-- No two neighbours among seven switches. -/
def noNeighbours : List Bool → Bool
  | a :: b :: rest => !(a && b) && noNeighbours (b :: rest)
  | _ => true

/-- The charge controller (08 R145, R155): the order stands as the charge state forms it, its number within 255, no two adjacent
cells bleed, and none bleeds outside TOPOFF and BALANCE. -/
def ChargeOk (s : State) : Prop :=
  s.chg.orderCur = s.formedCurrent ∧ s.chg.orderCeil = s.settings.chgVcell ∧ s.chg.orderNum ≤ 255
    ∧ noNeighbours s.chg.bleeds.toList = true
    ∧ (s.chg.state ≠ .topoff → s.chg.state ≠ .balance → s.chg.bleeds = Bleeds.off)

/-- A safe state: every condition above. A run is safe when each of its states is. -/
def SafeState (s : State) : Prop :=
  PoolOk s ∧ GrantsOk s ∧ PathOk s ∧ AccountOk s ∧ SettingsOk s ∧ EstimatesOk s ∧ DirtOk s ∧ BinOk s ∧ HeadOk s ∧ ChargeOk s

/-! ## How a next state is described -/

/-- `t` is `b` but for the record generations, which 09 R169 gives. -/
def SameButGens (t b : State) : Prop := t = { b with gens := t.gens }

/-- `t` is `b` but for the record generations and the moment of the last switch change, which the model keeps for 01 R15. -/
def SameButMarks (t b : State) : Prop :=
  t = { b with gens := t.gens, smp := { b.smp with lastSwitch := t.smp.lastSwitch } }

/-- The handle port serves an arrival: AWAKE, and no earlier request is being served (09 R164, R165). -/
def HandleOpen (s : State) : Prop := s.pwr.awake = true ∧ s.ports.handle.slot ≠ .serving

/-- A wire's port takes a frame: AWAKE, no request being served, no remains of a discarded frame (09 R161, R162). -/
def WireOpen (w : Wire) (s : State) : Prop :=
  s.pwr.awake = true ∧ (s.wirePort w).slot ≠ .serving ∧ (s.wirePort w).slot ≠ .answerReady
    ∧ (s.wirePort w).discarding = false

/-- `s` as a handle request finds it after `dt` µs: a response that stood undelivered is replaced (09 R165). -/
def State.atHandle (s : State) (dt : Nat) : State := event replaceAnswer (s.elapse dt)

/-- `s` as an intact frame on a wire finds it after `dt` µs: a wand frame has restarted a PRESENT head's silence timer (05 R93). -/
def State.atWire (s : State) (w : Wire) (dt : Nat) : State := hear w (s.elapse dt)

/-- The port of a link serves an arrival. -/
def PortOpen (link : Link) (s : State) : Prop :=
  match link with
  | .handle => HandleOpen s
  | .wand => WireOpen .wand s
  | .dock => WireOpen .dock s

/-- `s` as a request on a link finds it after `dt` µs. -/
def State.arrived (s : State) (link : Link) (dt : Nat) : State :=
  match link with
  | .handle => s.atHandle dt
  | .wand => s.atWire .wand dt
  | .dock => s.atWire .dock dt

/-- `b` with this answer standing at the handle port (09 R164, R167). -/
def State.handleAnswers (b : State) (tag : Byte) (c : Status) (data : List Byte) : State :=
  { b with
    ports :=
      { b.ports with
        handle :=
          { b.ports.handle with
            slot := .serving, buf := frame (statusByte c (b.notePending .handle)) tag data } } }

/-- `b` with this answer on its way at a wire's port (09 R162, R167). -/
def State.wireAnswers (b : State) (w : Wire) (tag : Byte) (c : Status) (data : List Byte) : State :=
  b.setWire w
    ⟨.serving, frame (statusByte c (b.notePending (wireLink w))) tag data, none, false, (b.wirePort w).sent⟩

/-- `b` with this answer at the port of a link. -/
def State.answers (b : State) (link : Link) (tag : Byte) (c : Status) (data : List Byte) : State :=
  match link with
  | .handle => b.handleAnswers tag c data
  | .wand => b.wireAnswers .wand tag c data
  | .dock => b.wireAnswers .dock tag c data

/-- The row of the opcode table whose request has this kind. -/
def ReqKind.row (k : ReqKind) (dt : Nat) (link : Link) (tag : Byte) (payload : List Byte) : Instr :=
  match k with
  | .ident => .ident dt link tag payload
  | .readRec => .readRec dt link tag payload
  | .clearNote => .clearNote dt link tag payload
  | .writeSet => .writeSet dt link tag payload
  | .clearSticky => .clearSticky dt link tag payload
  | .softReset => .softReset dt link tag payload
  | .shelfEnter => .shelfEnter dt link tag payload
  | .claimPush => .claimPush dt link tag payload
  | .claimPop => .claimPop dt link tag payload
  | .claimReplace => .claimReplace dt link tag payload
  | .claimDrop => .claimDrop dt link tag payload
  | .lockOn => .lockOn dt link tag payload
  | .lockOff => .lockOff dt link tag payload
  | .binMeasure => .binMeasure dt link tag payload
  | .binCalEmpty => .binCalEmpty dt link tag payload
  | .headHello => .headHello dt link tag payload
  | .floorReport => .floorReport dt link tag payload
  | .dockHello => .dockHello dt link tag payload
  | .orderRead => .orderRead dt link tag payload

/-- The notice stands in the handle link's set (09 R171). -/
def State.noted (s : State) (n : HandleNotice) : Prop := s.ports.handleNotes &&& n.bit = n.bit

/-- The notice stands in the dock link's set (09 R171). -/
def State.dockNoted (s : State) (n : DockNotice) : Prop := s.ports.dockNotes &&& n.bit = n.bit

/-- What the end of STOPPING leaves, at the moment `now` and with the regulator standing at `u` (04 R74, R70; 06 R116, R117). With the
run request absent: STOPPED, the enable withdrawn, the path released, and the gauge's automatic measurement started where the bin is
fitted and none is in flight. With the run request present that entry is its arrival: BIN_OPEN for a DETACHED bin; the motor starts
again where the path is free, the gauge then having started no measurement or had it aborted as STALE (both orders are open, log 18);
the run waits where the waiting charger has taken the path. The charger that waited takes it where the latest valid scan lets it charge, and pauses
otherwise (08 R144). Nothing else changes. -/
def StoppingEnds (now : Nat) (u : Suction) (s t : State) : Prop :=
  let rested : Suction :=
    { u with
      state := .stopped, enableAsked := false, target := 0, acc := 0, duty := 0, stallTimer := none, stopTimer := none }
  let starting : Suction :=
    { u with
      state := .starting, enableAsked := true, target := 0, acc := 0, duty := 0, overCount := 0, trim := none
      clogged := false, lockCount := 0, unlockCount := 0, episodes := 0, stallTimer := some (now + 500000)
      stopTimer := none }
  let measuring : Bin :=
    if s.bin.state ≠ .detached ∧ s.bin.meas = none then
      { s.bin with
        meas :=
          some ⟨1, s.bin.workStep, s.settings.refwin, s.settings.double, s.settings.hop, s.settings.hopTol, s.bin.lastTry⟩ }
    else s.bin
  let aborted : Bin := { s.bin with meas := none, lastResult := .stale, seq := (s.bin.seq + 1) % 256 }
  let admitted : Prop :=
    s.smp.invalidCount < 3
      ∧ (s.chg.latest.any fun v =>
        !v.thermFault && v.tmin.all (fun x => decide (s.settings.chgTlo ≤ x))
          && v.tmax.all (fun x => decide (x ≤ s.settings.chgThi))) = true
  let runs : Prop := s.runRequest = true ∧ s.bin.state ≠ .detached
  t = { s with
        now := now, suc := t.suc, bin := t.bin, chg := t.chg, arb := t.arb, gens := t.gens, choices := t.choices
        smp := { s.smp with lastSwitch := t.smp.lastSwitch }
        ports :=
          { s.ports with
            handleNotes := t.ports.handleNotes, wandNotes := t.ports.wandNotes, dockNotes := t.ports.dockNotes } }
    ∧ (t.arb.suction = s.arb.suction ∧ t.arb.brush = s.arb.brush ∧ t.arb.free = s.arb.free)
    ∧ (s.arb.waiting = none → t.chg = s.chg)
    ∧ (s.arb.waiting = some .charger → admitted → t.arb.path = .charge ∧ (t.chg.state = .precharge ∨ t.chg.state = .bulk))
    ∧ (s.arb.waiting = some .charger → ¬admitted → t.arb.path ≠ .charge ∧ t.chg.state = .paused)
    ∧ (¬runs →
      t.suc = rested ∧ t.men = false ∧ t.arb.path ≠ .discharge ∧ t.arb.waiting = none ∧ t.arb.gs = 0
        ∧ (s.arb.waiting = none → t.arb.path = .idle))
    ∧ (s.runRequest = false → t.bin = measuring)
    ∧ (s.runRequest = true → s.bin.state = .detached → t.bin = s.bin ∧ t.noted .binOpen)
    ∧ (runs → s.arb.waiting = none → t.arb.path = .discharge)
    ∧ (runs → t.arb.path ≠ .charge →
      t.suc = starting ∧ t.men = true ∧ t.arb.path = .discharge ∧ t.arb.waiting = none
        ∧ (s.bin.meas = none → t.bin = s.bin ∨ (t.bin = aborted ∧ t.noted .binDone))
        ∧ (s.bin.meas ≠ none → t.bin = aborted ∧ t.noted .binDone))
    ∧ (runs → t.arb.path = .charge →
      t.suc = { rested with state := .waitPath } ∧ t.men = false ∧ t.chgg = true ∧ t.arb.waiting = some .suction
        ∧ t.bin = measuring ∧ t.noted .runWait)

/-- What a thermistor channel reads at a code (01 R9): OPEN above 3900, SHORT below 150, and between two points of the table the line
through them, truncated toward zero. -/
def ThermReads (code : Nat) (x : Therm) : Prop :=
  (3900 < code → x = .opened) ∧ (code < 150 → x = .shorted)
    ∧ ∀ p ∈ ([(3900, 3500, -40, -20), (3500, 2900, -20, 0), (2900, 2200, 0, 20), (2200, 1550, 20, 40), (1550, 1050, 40, 60),
        (1050, 700, 60, 80), (700, 450, 80, 100), (450, 150, 100, 125)] : List (Nat × Nat × Int × Int)),
      p.2.1 ≤ code → code ≤ p.1 →
        x = .ok (p.2.2.1 + Int.tdiv ((p.2.2.2 - p.2.2.1) * ((p.1 : Int) - code)) ((p.1 : Int) - p.2.1))

/-! ## Record layouts (11 R186 to R188) -/

/-- The bytes hold each field, given by its bytes, at its offset. -/
def LaidOut (bytes : List Byte) (fields : List (Nat × List Byte)) : Prop :=
  ∀ f ∈ fields, (bytes.drop f.1).take f.2.length = f.2

/-- A flag bit of a byte, by the value of its place. -/
def flagBit (b : Bool) (value : Nat) : Nat := if b then value else 0

/-- The STATUS record is 31 bytes, laid out by 11 R186. -/
def StatusLaidOut (s : State) : Prop :=
  let bytes := recordBytes .status 0 s
  let signed := fun o : Option Int => [match o with | some x => BitVec.ofInt 8 x | none => 0x80#8]
  let code := fun o : Option Nat => [match o with | some n => BitVec.ofNat 8 n | none => 0xFF#8]
  let temp := fun x : Therm => match x with | .ok c => some c | _ => none
  let health := fun x : Therm => match x with | .ok _ => some 0 | .opened => some 1 | .shorted => some 2
  let live := flagBit (s.smp.cadence == .fast) 1 + flagBit s.fastDemand 2
  bytes.length = 31
    ∧ LaidOut bytes
      [(3, [BitVec.ofNat 8 s.smp.invalidCount]), (18, i16 s.smp.offset), (20, [BitVec.ofNat 8 s.suc.state.pos]),
        (21, [BitVec.ofNat 8 s.chg.state.pos]),
        (22, [BitVec.ofNat 8 (flagBit s.head.wand 1 + flagBit s.head.wandOff.isSome 2 + flagBit s.head.info.isSome 4
          + flagBit ((s.head.info.map (·.floorSense)).getD false) 8)]),
        (23, code (s.head.info.map (·.rating))), (24, [BitVec.ofNat 8 s.head.floor.pos]),
        (25, [BitVec.ofNat 8 s.head.overload]),
        (26, [BitVec.ofNat 8 (flagBit (s.pwr.entry == .request false || s.pwr.entry == .request true) 2
          + flagBit (s.pwr.entry == .deep) 4 + flagBit (s.pwr.entry == .request true) 8
          + flagBit s.pwr.deepTimer.isSome 16)]),
        (27, code (s.pwr.shelfCause.map fun c => match c with | .request => 0 | .deep => 1)),
        (28, code (s.pwr.wakeCause.map fun c => match c with | .trig => 0 | .dock => 1 | .link => 2))]
    ∧ (∀ r, s.smp.table = some r →
      LaidOut bytes
        [(0, u16 r.number),
          (2, [BitVec.ofNat 8 (live + flagBit (r.validity != .valid) 4 + flagBit (r.validity == .refFault) 8
            + flagBit (r.validity == .tapFault) 16 + flagBit r.iSat 32 + flagBit r.motorSat 64
            + flagBit r.thermFault 128)]),
          (4, i32 r.i), (8, u16 r.motor), (10, signed r.tmax), (11, signed r.tmin), (12, signed (temp r.motorTemp)),
          (13, code (health r.motorTemp)), (14, u16 r.vpack), (16, u16 r.dock), (29, code (health r.thermA)),
          (30, code (health r.thermB))])
    ∧ (s.smp.table = none →
      LaidOut bytes
        [(0, [0, 0]), (2, [BitVec.ofNat 8 live]), (4, [0, 0, 0, 0x80]), (8, [0xFF, 0xFF]), (10, [0x80, 0x80, 0x80]),
          (13, [0xFF]), (14, [0xFF, 0xFF]), (16, [0xFF, 0xFF]), (29, [0xFF, 0xFF])])

/-- The five bytes of a claim stack's slot, counted from the bottom; FF in all of them above the depth. -/
def claimSlot (stack : List Claim) (j : Nat) : List Byte :=
  match stack.reverse[j]? with
  | some c =>
    [BitVec.ofNat 8 c.index.val]
      ++ (match c.kind with | .level w => 0#8 :: u16 w | .curve w => 1#8 :: u16 w | .zero => [2#8, 0xFF#8, 0xFF#8])
      ++ [c.label]
  | none => List.replicate 5 0xFF#8

/-- The CLAIMS record is 68 bytes, laid out by 11 R187. -/
def ClaimsLaidOut (s : State) : Prop :=
  let bytes := recordBytes .claims 0 s
  bytes.length = 68
    ∧ LaidOut bytes
      [(0, [BitVec.ofNat 8 s.arb.free.length]), (11, [BitVec.ofNat 8 s.arb.suction.length]),
        (12, [BitVec.ofNat 8 s.settings.depthSuction]), (33, [BitVec.ofNat 8 s.arb.brush.length]),
        (34, [BitVec.ofNat 8 s.settings.depthBrush]), (55, u16 s.arb.ds), (57, u16 s.arb.dh), (59, u16 s.arb.gs),
        (61, u16 s.arb.gh), (63, [BitVec.ofNat 8 (flagBit s.arb.shortS 1 + flagBit s.arb.shortH 2)]),
        (64, u16 s.arb.used), (66, [match s.arb.path with | .idle => 0 | .discharge => 1 | .charge => 2]),
        (67, [match s.arb.waiting with | none => 0 | some .suction => 1 | some .charger => 2])]
    ∧ (∀ i ∈ List.range 10,
      (bytes.drop (1 + i)).take 1 = [match s.arb.free[i]? with | some n => BitVec.ofNat 8 n.val | none => 0xFF])
    ∧ ∀ j ∈ List.range 4,
      (bytes.drop (13 + 5 * j)).take 5 = claimSlot s.arb.suction j
        ∧ (bytes.drop (35 + 5 * j)).take 5 = claimSlot s.arb.brush j

/-- The CELLS record is 30 bytes, laid out by 11 R188. -/
def CellsLaidOut (s : State) : Prop :=
  let bytes := recordBytes .cells 0 s
  let b := s.chg.bleeds
  bytes.length = 30
    ∧ LaidOut bytes
      [(3, [BitVec.ofNat 8 (flagBit b.b1 1 + flagBit b.b2 2 + flagBit b.b3 4 + flagBit b.b4 8 + flagBit b.b5 16
        + flagBit b.b6 32 + flagBit b.b7 64)])]
    ∧ (∀ r, s.smp.table = some r →
      LaidOut bytes
        [(0, u16 r.number), (2, [match r.validity with | .valid => 0 | .refFault => 1 | .tapFault => 2]),
          (4, u16 r.cells.c1), (6, u16 r.cells.c2), (8, u16 r.cells.c3), (10, u16 r.cells.c4), (12, u16 r.cells.c5),
          (14, u16 r.cells.c6), (16, u16 r.cells.c7), (18, u16 r.cells.vmin), (20, [BitVec.ofNat 8 r.cells.vminIndex]),
          (21, u16 r.cells.vmax), (23, [BitVec.ofNat 8 r.cells.vmaxIndex]), (24, u16 (r.cells.vmax - r.cells.vmin)),
          (26, u16 r.cells.sum), (28, u16 (r.cells.sum / 7))]
        ∧ r.cells.toList.all (fun v => decide (r.cells.vmin ≤ v ∧ v ≤ r.cells.vmax)) = true
        ∧ r.cells.toList[r.cells.vminIndex - 1]? = some r.cells.vmin
        ∧ r.cells.toList[r.cells.vmaxIndex - 1]? = some r.cells.vmax
        ∧ (∀ i ∈ List.range 7,
          (i + 1 < r.cells.vminIndex → r.cells.toList[i]? ≠ some r.cells.vmin)
            ∧ (i + 1 < r.cells.vmaxIndex → r.cells.toList[i]? ≠ some r.cells.vmax)))
    ∧ (s.smp.table = none →
      LaidOut bytes [(0, [0, 0]), (2, [0xFF]), (4, List.replicate 26 0xFF)])

/-- The claim that a kind byte and a value name on a stack (03 R47; 11 R184): 0 LEVEL, 1 CURVE (not on the brush stack), 2 ZERO, each with a
value of 0..600. -/
def ClaimNamed (brush : Bool) (kind : Byte) (value : Nat) (k : ClaimKind) : Prop :=
  value ≤ 600
    ∧ ((kind = 0 ∧ k = .level value) ∨ (kind = 1 ∧ brush = false ∧ k = .curve value) ∨ (kind = 2 ∧ k = .zero))

end Sys2Proof.Machine
end

