-- ==== Sys2Proof/Certificates/Slice0/Obligations.lean ====
section
/-! DEFINITION. The statements for the provers, one definition each. What each cites stands in OBLIGATIONS.json.

Choices of the model that run through them (the log's entries, not rules of the spec): a request row is the arrival of its intact frame
(log 6); reply payloads are laid out by log 10, those of refused requests by log 11; a command out of its occasion changes nothing
(log 5); a timer that runs out does so at its deadline, or now when that has passed (log 4); a field that R185 gives no layout or no
absent value of its own is written as log 12 has it. -/

open Sys2Proof Sys2Proof.Machine

/-! ## The step, reset, the safe states -/

/-- A step runs the command at the front of the queue on the queue's rest; with nothing waiting the block idles (log 2). -/
def Obligations.StepRunsTheFrontCommand : Prop :=
  (∀ (c : Instr) (rest : List Instr) (s : State),
      step { s with pending := c :: rest } = exec c { s with pending := rest })
    ∧ ∀ s : State, s.pending = [] → step s = .next s

/-- No command faults or is refused, none touches the queue, and time does not run back. -/
def Obligations.EveryCommandRuns : Prop :=
  ∀ (c : Instr) (s : State), ∃ t, exec c s = .next t ∧ t.pending = s.pending ∧ s.now ≤ t.now

/-- The values of power-on: the Power-on columns of 01 R20, 02 R39, 03 R65, 04 R88, 05 R99, 06 R110 and R123, 07 R137, 08 R159, 09 R174
and 10 R182, and the defaults of 10, section 10.1. POWER_ON from any state gives every block these values, with the two debounce timers
and the first scan at this moment. The model's own, not the spec's: the time of the clock and the levels of the input lines (log 1, 3),
no moment of a switch change (`smp.lastSwitch`, log 29), the empty queue (log 2), and that clock, lines, choice counter and queue stand
at POWER_ON (log 28). -/
def Obligations.ResetValues : Prop :=
  State.reset.smp = ⟨.slow, .resting State.reset.now true, 0, ⟨0, 0⟩, 0, 0, none, none⟩
    ∧ State.reset.alw = ⟨250, none, none, none, 0, .initial, false, false, false, 0, none⟩
    ∧ State.reset.arb = ⟨[0, 1, 2, 3, 4, 5, 6, 7, 8, 9], [], [], 0, 0, 0, 0, false, false, 0, .idle, none⟩
    ∧ State.reset.suc.pressed = false ∧ State.reset.suc.trigTimer = some (State.reset.now + 20000)
    ∧ State.reset.suc.lock = false ∧ State.reset.suc.state = .stopped ∧ State.reset.suc.faultCause = .none
    ∧ State.reset.suc.enableAsked = false ∧ State.reset.suc.duty = 0 ∧ State.reset.suc.target = 0
    ∧ State.reset.suc.acc = 0 ∧ State.reset.suc.trim = none ∧ State.reset.suc.overCount = 0
    ∧ State.reset.suc.speed = 0 ∧ State.reset.suc.lastPulse = none ∧ State.reset.suc.clogged = false
    ∧ State.reset.suc.lockCount = 0 ∧ State.reset.suc.unlockCount = 0 ∧ State.reset.suc.episodes = 0
    ∧ State.reset.suc.stallTimer = none ∧ State.reset.suc.stopTimer = none
    ∧ State.reset.head = ⟨false, none, none, none, .unknown, 0⟩
    ∧ State.reset.dirt.window = none ∧ State.reset.dirt.count = 0 ∧ State.reset.dirt.completed = 0
    ∧ State.reset.dirt.ring = [] ∧ State.reset.dirt.floorN = none ∧ State.reset.dirt.raw = 0
    ∧ State.reset.dirt.eff = 0 ∧ State.reset.dirt.heavy = false
    ∧ State.reset.bin = ⟨false, some (State.reset.now + 20000), .detached, none, 1, false, none, none, .none, 0, none⟩
    ∧ State.reset.acct = ⟨0, 0, 2500, none, 0, 0, 0, false, 0, false, 0, true, true, false, false⟩
    ∧ State.reset.chg
      = ⟨.absent, 0, 0, none, none, none, none, 0, 0, 4200, none, none, 0, false, none,
          ⟨false, false, false, false, false, false, false⟩, .none, .none⟩
    ∧ State.reset.ports.handle.slot = .idle ∧ State.reset.ports.handle.buf = []
    ∧ State.reset.ports.wand.slot = .idle ∧ State.reset.ports.wand.buf = [] ∧ State.reset.ports.wand.gap = none
    ∧ State.reset.ports.dock.slot = .idle ∧ State.reset.ports.dock.buf = [] ∧ State.reset.ports.dock.gap = none
    ∧ State.reset.ports.handleNotes = 0 ∧ State.reset.ports.wandNotes = 0 ∧ State.reset.ports.dockNotes = 0
    ∧ State.reset.settings.page 0
      = [2, 0, 184, 11, 140, 10, 8, 2, 8, 0, 184, 11, 236, 255, 60, 0, 250, 0]
        ++ [236, 255, 128, 0, 0, 0, 192, 0, 10, 0, 0, 1, 40, 0, 0, 1, 50, 0, 208, 0, 55, 0, 160, 0, 58, 0, 96, 0, 60, 0, 0, 0]
    ∧ State.reset.settings.page 1
      = [4, 0, 3, 0, 64, 0, 150, 0, 6, 0, 4, 0, 88, 2, 60, 0, 236, 44, 50, 0, 250, 0, 80, 0]
        ++ [120, 0, 8, 12, 16, 24, 24, 16, 8, 0, 180, 0, 12, 16, 24, 24, 16, 8, 0, 0]
    ∧ State.reset.settings.page 2
      = [64, 0, 1, 0, 8, 0, 4, 0, 16, 0, 96, 0, 3, 0, 8, 0, 128, 0, 0, 4, 0, 0, 1, 0, 12, 0, 160, 0, 90, 0]
    ∧ State.reset.settings.page 3 = [196, 9, 208, 7, 104, 16, 0, 0, 45, 0, 150, 0, 20, 0, 100, 0, 0, 0]
    ∧ State.reset.pwr = ⟨true, .none, none, none, none⟩
    ∧ State.reset.gens = ⟨0, 0, 0, 0, 0, 0, 0, 0, 0, 0, 0, 0, 0⟩ ∧ State.reset.pending = []
    ∧ ∀ s : State,
      exec .powerOn s
        = .next
          { State.reset with
            now := s.now, trigLine := s.trigLine, latchLine := s.latchLine, choices := s.choices, pending := s.pending
            smp := { State.reset.smp with phase := .resting s.now true }
            suc := { State.reset.suc with trigTimer := some (s.now + 20000) }
            bin := { State.reset.bin with latchTimer := some (s.now + 20000) } }

/-- The state after reset is a safe state. -/
def Obligations.ResetIsSafe : Prop := SafeState State.reset

/-- Every step keeps the claim pool: each index once, the depths within their limits. -/
def Obligations.PoolKept : Prop := ∀ s t : State, PoolOk s → step s = .next t → PoolOk t

/-- Every step keeps Gs + Gh within the published allowance, the target within Gs, the duty within 1000 and 0 outside STARTING and
RUNNING. -/
def Obligations.GrantsKept : Prop := ∀ s t : State, GrantsOk s → step s = .next t → GrantsOk t

/-- Every step keeps the path in agreement with the suction and charge states. -/
def Obligations.PathKept : Prop := ∀ s t : State, PathOk s → step s = .next t → PathOk t

/-- MEN is on while the regulator asks for it and the path is DISCHARGE, CHGG while the charge controller asks for it (in PRECHARGE, BULK
and TOPOFF) and the path is CHARGE, so that the two are never on together, whatever the state; and in a state that meets `PathOk`, MEN
is on exactly in STARTING, RUNNING and STOPPING, and CHGG exactly in PRECHARGE, BULK and TOPOFF. -/
def Obligations.SwitchesExclude : Prop :=
  (∀ s : State,
      (s.men = true ↔ s.suc.enableAsked = true ∧ s.arb.path = .discharge)
        ∧ (s.chgg = true
          ↔ (s.chg.state = .precharge ∨ s.chg.state = .bulk ∨ s.chg.state = .topoff) ∧ s.arb.path = .charge)
        ∧ ¬(s.men = true ∧ s.chgg = true))
    ∧ ∀ s : State, PathOk s →
      (s.men = true ↔ s.suc.state = .starting ∨ s.suc.state = .running ∨ s.suc.state = .stopping)
        ∧ (s.chgg = true ↔ s.chg.state = .precharge ∨ s.chg.state = .bulk ∨ s.chg.state = .topoff)

/-- Every step keeps Q, FCC, the discharged count and the accumulator within their bounds. -/
def Obligations.AccountKept : Prop := ∀ s t : State, AccountOk s → step s = .next t → AccountOk t

/-- Every step keeps every setting in its range; and every step keeps Rcell within 50..2000 and the offset within −500..500. -/
def Obligations.SettingsKept : Prop :=
  (∀ s t : State, SettingsOk s → step s = .next t → SettingsOk t)
    ∧ ∀ s t : State, EstimatesOk s → step s = .next t → EstimatesOk t

/-- Every step keeps the dirt monitor at rest outside RUNNING and the ring within 16 counts. -/
def Obligations.DirtKept : Prop := ∀ s t : State, DirtOk s → step s = .next t → DirtOk t

/-- Every step keeps the bin gauge's conditions: no measurement is in flight while MEN is on. `PathOk` (PathKept) rules out states that
no run reaches. -/
def Obligations.BinKept : Prop := ∀ s t : State, PathOk s → BinOk s → step s = .next t → BinOk t

/-- Every step keeps the floor-head unit's conditions: an ABSENT head holds nothing. -/
def Obligations.HeadKept : Prop := ∀ s t : State, HeadOk s → step s = .next t → HeadOk t

/-- Every step keeps the charge order as the charge state forms it, its number within 255, and the bleeds apart. `PathOk` (PathKept)
rules out states that no run reaches. -/
def Obligations.ChargeKept : Prop := ∀ s t : State, PathOk s → ChargeOk s → step s = .next t → ChargeOk t

/-! ## Frames and ports (09) -/

/-- A frame reads back as the request it was made of, a status byte stands for one code and one NOTE_PENDING, a kind byte for one kind,
and a frame with any one byte changed, other than its length byte, is corrupt. -/
def Obligations.FramesReadBack : Prop :=
  (∀ (c d : Status) (n m : Bool), statusByte c n = statusByte d m → c = d ∧ n = m)
    ∧ ∀ (k : ReqKind) (tag : Byte) (p : List Byte), p.length ≤ 56 →
      reqKind k.byte = some k ∧ judgeFrame (frame k.byte tag p) = .intact ⟨k.byte, tag, p⟩
        ∧ ∀ (i : Nat) (b : Byte), i < p.length + 4 → i ≠ 2 → (frame k.byte tag p)[i]? ≠ some b →
          judgeFrame ((frame k.byte tag p).set i b) = .corrupt

/-- A frame made of a request, received on an idle wire, is that request's own row: every kind, every tag, every payload. -/
def Obligations.FrameOfARowIsTheRow : Prop :=
  ∀ (k : ReqKind) (w : Wire) (dt : Nat) (tag : Byte) (p : List Byte) (s : State),
    WireOpen w s → (s.wirePort w).buf = [] → p.length ≤ 56 →
      exec (.frameArrival dt w (frame k.byte tag p)) s = exec (k.row dt (wireLink w) tag p) s

/-- Every request row, on every link whose port is open, is served and answered: the next state is the one its service leaves, with the
response frame (tag, status with NOTE_PENDING as the set then stands, reply payload) at the port. SOFT_RESET served OK, which leaves
its response standing READY, has a statement of its own. -/
def Obligations.EveryArrivalIsAnswered : Prop :=
  ∀ (k : ReqKind) (link : Link) (dt : Nat) (tag : Byte) (p : List Byte) (s : State),
    PortOpen link s → p.length ≤ 56 →
      (k = .softReset → (serve link ⟨k.byte, tag, p⟩ (s.arrived link dt)).code ≠ .ok) →
        ∃ t, exec (k.row dt link tag p) s = .next t
          ∧ SameButMarks t
            ((serve link ⟨k.byte, tag, p⟩ (s.arrived link dt)).st.answers link tag
              (serve link ⟨k.byte, tag, p⟩ (s.arrived link dt)).code
              (serve link ⟨k.byte, tag, p⟩ (s.arrived link dt)).data)

/-- The port's checks 2 to 7, in their order: the first that fails gives the answer, and nothing else changes. The kinds that an ABSENT
head may send, IDENT and HEAD_HELLO, pass check 5; READ_REC meets it with a record it may read. -/
def Obligations.PortChecksInOrder : Prop :=
  ∀ (k : ReqKind) (link : Link) (dt : Nat) (tag : Byte) (p : List Byte) (s : State),
    PortOpen link s → p.length ≤ 56 →
      (permitted link k = false →
          ∃ t, exec (k.row dt link tag p) s = .next t ∧ SameButGens t ((s.arrived link dt).answers link tag .denied []))
        ∧ (k = .readRec → p = [] →
          ∃ t, exec (k.row dt link tag p) s = .next t ∧ SameButGens t ((s.arrived link dt).answers link tag .badArg []))
        ∧ (∀ code rest, k = .readRec → p = code :: rest → recordId code = none →
          ∃ t, exec (k.row dt link tag p) s = .next t ∧ SameButGens t ((s.arrived link dt).answers link tag .nosuch []))
        ∧ (∀ code rest r, k = .readRec → p = code :: rest → recordId code = some r → readable link r = false →
          ∃ t, exec (k.row dt link tag p) s = .next t ∧ SameButGens t ((s.arrived link dt).answers link tag .denied []))
        ∧ (link = .wand → s.head.info = none → k = .clearNote ∨ k = .claimPush ∨ k = .claimPop ∨ k = .claimReplace
            ∨ k = .claimDrop ∨ k = .floorReport →
          ∃ t, exec (k.row dt link tag p) s = .next t ∧ SameButGens t ((s.arrived link dt).answers link tag .state []))
        ∧ (∀ code rest r, k = .readRec → p = code :: rest → recordId code = some r → readable link r = true →
          (link = .wand → s.head.info = none →
              ∃ t, exec (k.row dt link tag p) s = .next t ∧ SameButGens t ((s.arrived link dt).answers link tag .state []))
            ∧ ((link = .wand → s.head.info.isSome = true) → rest.length ≠ 3 →
              ∃ t, exec (k.row dt link tag p) s = .next t ∧ SameButGens t ((s.arrived link dt).answers link tag .badArg [])))
        ∧ (permitted link k = true → k ≠ .readRec →
          (link = .wand → s.head.info.isSome = true ∨ k = .ident ∨ k = .headHello) → lengthOk k p = false →
            ∃ t, exec (k.row dt link tag p) s = .next t ∧ SameButGens t ((s.arrived link dt).answers link tag .badArg []))
        ∧ ∀ id value, k = .writeSet → link = .handle → p = id :: value → id = 0 ∨ 48 < id.toNat →
          ∃ t, exec (k.row dt link tag p) s = .next t ∧ SameButGens t ((s.arrived link dt).answers link tag .nosuch [])

/-- How a frame is judged (09 R160): a length byte above 56 is too long as soon as it is there, one of 56 is not; a frame ends with its
CRC byte, and is intact where that byte fits, which makes the CRC over the whole 0. FRAME_ARRIVAL: bytes are taken one after the
other. A byte that completes no frame is held; one that shows a length above 56 drops the frame, whose remains are taken until the
gap timer runs out; a corrupt frame is dropped and the port is IDLE at once, so that the next byte begins a new frame; an intact one
is served, whatever its kind. Bytes that reach a SERVING port are lost. FRAME_START_BIT in IDLE begins a frame and starts the 1 ms
gap timer; GAP_TIMER_EXPIRY drops the frame; RESPONSE_DELIVERED leaves the port IDLE. Out of their occasion, or in SHELF, only the
time passes. That all bytes of one command come at one moment is log 7. -/
def Obligations.WireFramesAreJudged : Prop :=
  (∀ bytes : List Byte, bytes.length < 3 → judgeFrame bytes = .truncated)
    ∧ (∀ (kind tag len : Byte) (rest : List Byte),
      let bytes := kind :: tag :: len :: rest
      (56 < len.toNat → judgeFrame bytes = .tooLong)
        ∧ (len.toNat ≤ 56 → rest.length ≤ len.toNat → judgeFrame bytes = .truncated)
        ∧ (len.toNat ≤ 56 → rest.length = len.toNat + 1 →
          (crc8 bytes = 0 → judgeFrame bytes = .intact ⟨kind, tag, rest.take len.toNat⟩)
            ∧ (crc8 bytes ≠ 0 → judgeFrame bytes = .corrupt)))
    ∧ ∀ (w : Wire) (dt : Nat) (s : State),
      (s.pwr.awake = false ∨ (s.wirePort w).slot = .serving ∨ (s.wirePort w).slot = .answerReady →
          ∀ bytes, exec (.frameArrival dt w bytes) s = .next (s.elapse dt))
        ∧ exec (.frameArrival dt w []) s = .next (s.elapse dt)
        ∧ (∀ a b : List Byte, ∃ t, exec (.frameArrival dt w a) s = .next t
          ∧ exec (.frameArrival dt w (a ++ b)) s = exec (.frameArrival 0 w b) t)
        ∧ (s.pwr.awake = true → (s.wirePort w).slot ≠ .serving → (s.wirePort w).slot ≠ .answerReady →
          (s.wirePort w).discarding = true → ∀ b : Byte,
            exec (.frameArrival dt w [b]) s
              = .next
                ((s.elapse dt).setWire w ⟨.receiving, [], some (s.now + dt + 1000), true, (s.wirePort w).sent⟩))
        ∧ (WireOpen w s → ∀ b : Byte,
          let bytes := (s.wirePort w).buf ++ [b]
          (judgeFrame bytes = .corrupt →
              exec (.frameArrival dt w [b]) s
                = .next ((s.elapse dt).setWire w ⟨.idle, [], none, false, (s.wirePort w).sent⟩))
            ∧ (judgeFrame bytes = .tooLong →
              exec (.frameArrival dt w [b]) s
                = .next
                  ((s.elapse dt).setWire w ⟨.receiving, [], some (s.now + dt + 1000), true, (s.wirePort w).sent⟩))
            ∧ (judgeFrame bytes = .truncated →
              exec (.frameArrival dt w [b]) s
                = .next
                  ((s.elapse dt).setWire w
                    ⟨.receiving, bytes, some (s.now + dt + 1000), false, (s.wirePort w).sent⟩))
            ∧ ∀ r : Request, judgeFrame bytes = .intact r →
              ∃ t, exec (.frameArrival dt w [b]) s = .next t
                ∧ SameButMarks t
                  ((serve (wireLink w) r (s.atWire w dt)).st.wireAnswers w r.tag
                    (serve (wireLink w) r (s.atWire w dt)).code (serve (wireLink w) r (s.atWire w dt)).data)
                ∧ (reqKind r.kind = none → (serve (wireLink w) r (s.atWire w dt)) = ⟨s.atWire w dt, .nosuch, []⟩))
        ∧ (s.pwr.awake = true → (s.wirePort w).slot = .idle →
          exec (.frameStartBit dt w) s
            = .next
              ((s.elapse dt).setWire w ⟨.receiving, [], some (s.now + dt + 1000), false, (s.wirePort w).sent⟩))
        ∧ (s.pwr.awake = false ∨ (s.wirePort w).slot ≠ .idle → exec (.frameStartBit dt w) s = .next (s.elapse dt))
        ∧ (∀ d, (s.wirePort w).gap = some d →
          exec (.gapTimerExpiry dt w) s
            = .next (((s.elapse dt).reach d).setWire w ⟨.idle, [], none, false, (s.wirePort w).sent⟩))
        ∧ ((s.wirePort w).gap = none → exec (.gapTimerExpiry dt w) s = .next (s.elapse dt))
        ∧ ((s.wirePort w).slot = .serving →
          exec (.responseDelivered dt w) s
            = .next ((s.elapse dt).setWire w ⟨.idle, [], none, false, (s.wirePort w).buf⟩))
        ∧ ((s.wirePort w).slot ≠ .serving → exec (.responseDelivered dt w) s = .next (s.elapse dt))

/-- A HANDLE_TRANSACTION that carries no request (no complete byte, a first byte of 0, or a frame that is not intact): the status byte,
then the waiting response and zeros, or zeros alone; the response is delivered exactly when its last byte has gone out. -/
def Obligations.HandleFetch : Prop :=
  ∀ (dt : Nat) (mosi : List Byte) (s : State), s.pwr.awake = true →
    (mosi = [] ∨ mosi.head? = some 0 ∨ ∀ r, judgeFrame (mosi.take 64) ≠ .intact r) →
      ∃ t, exec (.handleTransaction dt mosi) s = .next t
        ∧ t.ports.handle.sdo
          = (if s.ports.handle.slot = .answerReady
              then (0xA5#8 :: s.ports.handle.buf ++ List.replicate mosi.length 0#8).take mosi.length
              else (0x5A#8 :: List.replicate mosi.length 0#8).take mosi.length)
        ∧ (s.ports.handle.slot = .answerReady → s.ports.handle.buf.length < mosi.length →
          t.ports.handle.slot = .idle ∧ t.ports.handle.buf = []
            ∧ (∀ d, s.pwr.entry = .request d → t.pwr.entry = .request true))
        ∧ ((∀ d, s.pwr.entry ≠ .request d) → t.pwr = s.pwr)
        ∧ (¬(s.ports.handle.slot = .answerReady ∧ s.ports.handle.buf.length < mosi.length) →
          t.ports.handle.slot = s.ports.handle.slot ∧ t.ports.handle.buf = s.ports.handle.buf ∧ t.pwr = s.pwr)
        ∧ t = { s with
            now := s.now + dt
            ports :=
              { s.ports with
                handle :=
                  { s.ports.handle with
                    sdo := t.ports.handle.sdo, slot := t.ports.handle.slot, buf := t.ports.handle.buf } }
            pwr := { s.pwr with entry := t.pwr.entry }
            gens := t.gens }

/-- A HANDLE_TRANSACTION that carries an intact request: the outgoing side comes first, then the request is served and its response
replaces what stands; during SERVING the request waits (log 8). HANDLE_ANSWER_READY puts the response in the buffer; with a request
waiting, that request is served and its response replaces it. -/
def Obligations.HandleRequests : Prop :=
  ∀ (dt : Nat) (s : State), s.pwr.awake = true →
    (∀ (mosi : List Byte) (r : Request), mosi.head? ≠ some 0 → judgeFrame (mosi.take 64) = .intact r →
        s.ports.handle.slot ≠ .serving →
          ∃ u t, u = event replaceAnswer (shiftOut mosi.length (s.elapse dt))
            ∧ exec (.handleTransaction dt mosi) s = .next t
            ∧ SameButMarks t
              { (serve .handle r u).st with
                ports :=
                  { (serve .handle r u).st.ports with
                    handle :=
                      { (serve .handle r u).st.ports.handle with
                        slot :=
                          if r.kind = ReqKind.softReset.byte ∧ (serve .handle r u).code = .ok then .answerReady else .serving
                        buf :=
                          frame (statusByte (serve .handle r u).code ((serve .handle r u).st.notePending .handle)) r.tag
                            (serve .handle r u).data } } })
      ∧ (∀ (mosi : List Byte) (r : Request), mosi.head? ≠ some 0 → judgeFrame (mosi.take 64) = .intact r →
        s.ports.handle.slot = .serving →
          exec (.handleTransaction dt mosi) s
            = .next
              { s.elapse dt with
                ports :=
                  { s.ports with
                    handle :=
                      { s.ports.handle with
                        sdo := (0x5A#8 :: List.replicate mosi.length 0#8).take mosi.length
                        queue := s.ports.handle.queue ++ [r] } } })
      ∧ (s.ports.handle.slot = .serving → s.ports.handle.queue = [] →
        exec (.handleAnswerReady dt) s
          = .next
            { s.elapse dt with ports := { s.ports with handle := { s.ports.handle with slot := .answerReady } } })
      ∧ (∀ (r : Request) (rest : List Request), s.ports.handle.slot = .serving → s.ports.handle.queue = r :: rest →
        ∃ u t, u = event replaceAnswer
              { s.elapse dt with
                ports := { s.ports with handle := { s.ports.handle with slot := .answerReady, queue := rest } } }
            ∧ exec (.handleAnswerReady dt) s = .next t
            ∧ SameButMarks t
              { (serve .handle r u).st with
                ports :=
                  { (serve .handle r u).st.ports with
                    handle :=
                      { (serve .handle r u).st.ports.handle with
                        slot :=
                          if r.kind = ReqKind.softReset.byte ∧ (serve .handle r u).code = .ok then .answerReady else .serving
                        buf :=
                          frame (statusByte (serve .handle r u).code ((serve .handle r u).st.notePending .handle)) r.tag
                            (serve .handle r u).data } } })
      ∧ (s.ports.handle.slot ≠ .serving → exec (.handleAnswerReady dt) s = .next (s.elapse dt))

/-- ATTN stands while the part is AWAKE and the handle set holds a notice that is not masked, NOTE_PENDING while the link's set holds
any (09 R167, R172). IDENT on every link, in every head presence and charge state; CLEAR_STICKY; and CLEAR_NOTE on every link:
exactly the named notices are cleared, bit by bit, every other stands, and a name outside the link's list refuses the whole; the
notices' bits stand in the order of R171. Nothing else changes. The two constants and the revision of IDENT are free values (log
17). -/
def Obligations.PortsOwnRequests : Prop :=
  (∀ s : State,
      (s.attn = true
          ↔ s.pwr.awake = true
            ∧ ∃ i ∈ List.range 15, s.ports.handleNotes.getLsbD i = true ∧ s.settings.attnMask.getLsbD i = false)
        ∧ (s.notePending .handle = true ↔ s.ports.handleNotes ≠ 0) ∧ (s.notePending .wand = true ↔ s.ports.wandNotes ≠ 0)
        ∧ (s.notePending .dock = true ↔ s.ports.dockNotes ≠ 0)
        ∧ s.noteBytes .handle = u16 s.ports.handleNotes.toNat ∧ s.noteBytes .wand = u16 s.ports.wandNotes.toNat
        ∧ s.noteBytes .dock = u16 s.ports.dockNotes.toNat)
    ∧ (∀ p ∈ ([(.grantCut, 0), (.suctionFault, 1), (.clog, 2), (.runWait, 3), (.binOpen, 4), (.binFull, 5), (.binDone, 6),
          (.heavyDirt, 7), (.headChange, 8), (.headOverload, 9), (.scanFault, 10), (.dockChange, 11), (.chargeState, 12),
          (.chargeFault, 13), (.shelfRefused, 14)] : List (HandleNotice × Nat)),
      p.1.bit = 1#15 <<< p.2)
    ∧ (∀ p ∈ ([(.orderChanged, 0), (.chargeFault, 1), (.binDone, 2)] : List (DockNotice × Nat)), p.1.bit = 1#3 <<< p.2)
    ∧ (∀ (link : Link) (n : Nat) (p : Ports),
      let q := clearNotes link n p
      q = { p with handleNotes := q.handleNotes, wandNotes := q.wandNotes, dockNotes := q.dockNotes }
        ∧ ∀ i : Nat,
          q.handleNotes.getLsbD i = (p.handleNotes.getLsbD i && !(decide (link = .handle) && n.testBit i))
            ∧ q.wandNotes.getLsbD i = (p.wandNotes.getLsbD i && !(decide (link = .wand) && n.testBit i))
            ∧ q.dockNotes.getLsbD i = (p.dockNotes.getLsbD i && !(decide (link = .dock) && n.testBit i)))
    ∧ ∀ (link : Link) (dt : Nat) (tag : Byte) (s : State), PortOpen link s →
      (∃ t, exec (.ident dt link tag []) s = .next t
          ∧ SameButGens t
            ((s.arrived link dt).answers link tag .ok
              [Config.vendorCode.setWidth 8, (Config.vendorCode >>> 8).setWidth 8, Config.familyCode, 0xD8#8, 0x01#8,
                Config.dieRevision, (match link with | .handle => 0#8 | .wand => 1#8 | .dock => 2#8), 56#8]))
        ∧ (link = .handle →
          ∃ t, exec (.clearSticky dt link tag []) s = .next t
            ∧ SameButGens t
              ({ s.arrived link dt with
                  alw := { s.alw with ovfV := false, ovfI := false }
                  acct := { s.acct with qUnder := false, qOver := false } }.answers link tag .ok [0#8]))
        ∧ ((link = .wand → s.head.info.isSome = true) → ∀ lo hi : Byte,
          (lo.toNat + 256 * hi.toNat < (match link with | .handle => 32768 | .wand => 2 | .dock => 8) →
              ∃ t, exec (.clearNote dt link tag [lo, hi]) s = .next t
                ∧ SameButGens t
                  ({ s.arrived link dt with
                      ports := clearNotes link (lo.toNat + 256 * hi.toNat) (s.arrived link dt).ports }.answers link tag .ok
                    ({ s.arrived link dt with
                      ports := clearNotes link (lo.toNat + 256 * hi.toNat) (s.arrived link dt).ports }.noteBytes link)))
            ∧ ((match link with | .handle => 32768 | .wand => 2 | .dock => 8) ≤ lo.toNat + 256 * hi.toNat →
              ∃ t, exec (.clearNote dt link tag [lo, hi]) s = .next t
                ∧ SameButGens t ((s.arrived link dt).answers link tag .badArg [])))

/-- The layouts of STATUS (11 R186), CLAIMS (R187) and CELLS (R188), field by field at their offsets, and the read-back of two-byte fields
(R185). READ_REC of a record the link may read: length, residue, generation and at most 53 bytes from the offset; BAD_ARG for a page the
record does not have or an offset past its end. Nothing changes but the answer. The bytes of a record whose layout the spec leaves to
R185 are laid out by log 12. STATUS shows the cadence (byte 2, bit 0) and the offset (bytes 18 and 19) as the sampler holds them, not
as the latest scan had them: that is log 15, the model's reading of R186, R18 and R20. -/
def Obligations.ReadRecPieces : Prop :=
  (∀ n, n < 65536 → ∃ lo hi, u16 n = [lo, hi] ∧ word lo hi = n)
    ∧ (∀ x : Int, -32768 ≤ x → x < 32768 → ∃ lo hi, i16 x = [lo, hi] ∧ sword lo hi = x)
    ∧ (∀ s : State, StatusLaidOut s) ∧ (∀ s : State, ClaimsLaidOut s) ∧ (∀ s : State, CellsLaidOut s)
    ∧ ∀ (link : Link) (dt : Nat) (tag code page offset most : Byte) (r : RecordId) (s : State),
      PortOpen link s → (link = .wand → s.head.info.isSome = true) → recordId code = some r → readable link r = true →
        let bytes := recordBytes r page.toNat (s.arrived link dt)
        let pages := if r = .settings then 4 else 1
        let data := (bytes.drop offset.toNat).take (min most.toNat 53)
        (page.toNat < pages → offset.toNat ≤ bytes.length →
            ∃ t, exec (.readRec dt link tag [code, page, offset, most]) s = .next t
              ∧ SameButGens t
                ((s.arrived link dt).answers link tag .ok
                  ([BitVec.ofNat 8 bytes.length, BitVec.ofNat 8 (bytes.length - offset.toNat - data.length),
                      generationOf r page.toNat (s.arrived link dt).gens] ++ data)))
          ∧ (pages ≤ page.toNat ∨ bytes.length < offset.toNat →
            ∃ t, exec (.readRec dt link tag [code, page, offset, most]) s = .next t
              ∧ SameButGens t ((s.arrived link dt).answers link tag .badArg []))

/-- 09 R169 of every command but POWER_ON (which sets every generation to 0): a record's generation advances by one exactly when the
command changes the record's bytes, and the CELLS generation once more at a scan that changes the bleed set (11 R188). A command on the
handle link that marks the SHELF_ENTER response delivered and then serves a request is two events for STATUS. The bytes are compared at
the command's own moment, and what is one event, and that an invalid scan that changes the ALLOWANCE record is one although R41 does not
list it, is the model's choice (log 16). -/
def Obligations.EventAdvancesGenerations : Prop :=
  ∀ (c : Instr) (s : State), c ≠ .powerOn →
    ∃ t, exec c s = .next t
      ∧ ∀ (r : RecordId) (page : Nat), page ≤ 3 → (r ≠ .settings → page = 0) →
        let changed := recordBytes r page { s with now := t.now } ≠ recordBytes r page t
        let scan : Bool := match c with | .scanCompletion _ => true | _ => false
        let bleeds := r = .cells ∧ scan = true ∧ t.chg.bleeds ≠ s.chg.bleeds
        (r ≠ .status ∨ s.pwr.entry ≠ .request false →
            generationOf r page t.gens
              = generationOf r page s.gens + (if changed then 1 else 0) + (if bleeds then 1 else 0))
          ∧ ∃ n : Nat, n ≤ 2 ∧ (changed → n ≠ 0)
            ∧ generationOf r page t.gens = generationOf r page s.gens + BitVec.ofNat 8 n

/-! ## Settings (10) -/

/-- WRITE_SET of each numeric tunable: a value is clamped into the range, and where the owner's own check holds it is taken (the
identifier reads back the clamped value, every other identifier reads as before) and answered OK or CLAMPED. Only the owners of
R_INIT, REFWIN, FULL_RATIO, FULL_PCT, DESIGN_CAP, CHG_I and CHG_VCELL act at the write, as 02 R28, 06 R122, 07 R135 and 08 R145,
R158 give; for every other identifier nothing else changes. The bulk current with no capability is log 30, the moment unread since
keeps when the number has come round to the read number log 38. -/
def Obligations.NumericSettingWritten : Prop :=
  ∀ (id : Byte) (lo hi : Int) (a b : Byte) (dt : Nat) (tag : Byte) (s : State), HandleOpen s →
    (id.toNat, lo, hi) ∈
      ([(2, 2800, 3400), (3, 2500, 3200), (4, 100, 600), (5, 1, 50), (6, 1000, 10000), (7, -30, 10), (8, 40, 80), (9, 50, 2000),
          (11, 1, 4), (12, 1, 4), (13, 0, 256), (14, 0, 300), (15, 1, 50), (16, 0, 15), (17, 200, 700), (18, 0, 600),
          (19, 6000, 13000), (20, 1, 255), (21, 1, 1023), (22, 0, 200)]
        ++ [(25, 16, 250), (27, 0, 1023), (28, 0, 255), (29, 1, 63), (30, 0, 255), (31, 1, 15), (32, 1, 15), (33, 0, 255),
          (34, 256, 4095), (37, 0, 255), (38, 64, 240), (39, 50, 100), (40, 1000, 6000), (41, 500, 4000), (42, 4000, 4250),
          (43, 0, 15), (44, 35, 55), (45, 50, 500), (46, 10, 100), (47, 50, 300)] : List (Nat × Int × Int)) →
    let v := (BitVec.ofNat 16 (a.toNat + 256 * b.toNat)).toInt
    let c := max lo (min hi v)
    (id = 2 → (s.settings.vstop : Int) + 100 ≤ c) → (id = 3 → c + 100 ≤ s.settings.vcut) →
    (id = 11 → (s.arb.suction.length : Int) ≤ c) → (id = 12 → (s.arb.brush.length : Int) ≤ c) →
    (id = 34 → s.bin.meas = none) →
      ∃ t, exec (.writeSet dt .handle tag [id, a, b]) s = .next t
        ∧ t.settings.bytes id.toNat = i16 c
        ∧ (∀ j, j ≠ id.toNat → t.settings.bytes j = s.settings.bytes j)
        ∧ t.ports.handle
          = { s.ports.handle with
              slot := .serving
              buf := frame (statusByte (if c = v then .ok else .clamped) (t.notePending .handle)) tag (id :: i16 c) }
        ∧ t = { s with
            now := s.now + dt, alw := t.alw, arb := t.arb, suc := t.suc, bin := t.bin, acct := t.acct, chg := t.chg
            ports := { s.ports with
              handle := t.ports.handle, handleNotes := t.ports.handleNotes, wandNotes := t.ports.wandNotes
              dockNotes := t.ports.dockNotes }
            settings := t.settings, pwr := (replaceAnswer s).pwr, gens := t.gens }
        ∧ (let written : State :=
            { s with
              now := s.now + dt, ports := { s.ports with handle := t.ports.handle }
              settings := t.settings, pwr := (replaceAnswer s).pwr, gens := t.gens }
          let judged := fun (pct fill : Nat) =>
            if s.bin.state = .ready ∧ pct ≤ fill then BinState.full
            else if s.bin.state = .full ∧ fill + 10 < pct then .ready
            else s.bin.state
          (id.toNat ∉ [9, 34, 38, 39, 40, 41, 42] → t = written)
            ∧ (id = 9 →
              t = { written with
                alw :=
                  if s.alw.inflight.isSome = true then { s.alw with pendingRInit := some c.toNat }
                  else { s.alw with rcell := c.toNat } })
            ∧ (id = 34 ∨ id = 38 ∨ id = 39 →
              (t.bin.state = s.bin.state → t = { written with bin := t.bin })
                ∧ (t.bin.state ≠ s.bin.state →
                  t.arb.ds = t.demandS ∧ t.arb.gs = min t.demandS (t.alw.pallow - t.arb.gh)
                    ∧ t.arb.path = s.arb.path ∧ t.alw = s.alw ∧ t.acct = s.acct ∧ t.chg = s.chg
                    ∧ (t.bin.state = .full → t.noted .binFull)))
            ∧ (id = 34 →
              t.bin
                = (if c = s.settings.refwin then s.bin
                    else
                      { s.bin with
                        cal := none, calPending := false
                        state := if s.bin.state = .detached then .detached else .uncal }))
            ∧ (id = 38 ∨ id = 39 → s.bin.cal = none → t.bin = s.bin)
            ∧ (∀ cal, s.bin.cal = some cal →
              (id = 38 →
                  let full := cal.baseline * c.toNat / 256
                  let fill :=
                    match s.bin.lastCount with
                    | none => cal.fill
                    | some n => if cal.baseline ≤ n then 0 else min 100 ((cal.baseline - n) * 100 / (cal.baseline - full))
                  t.bin
                    = { s.bin with cal := some ⟨cal.baseline, full, fill⟩, state := judged s.settings.fullPct fill })
                ∧ (id = 39 → t.bin = { s.bin with state := judged c.toNat cal.fill }))
            ∧ (id = 40 →
              let fcc := max (c.toNat / 2) (min (c.toNat * 11 / 10) s.acct.fcc)
              t = { written with
                acct :=
                  { s.acct with
                    fcc := fcc, q := min s.acct.q fcc, cycles := min 65535 (s.acct.cycles + s.acct.discharged / fcc)
                    discharged := s.acct.discharged % fcc } })
            ∧ (id = 41 ∨ id = 42 →
              let most := min ((s.chg.cap.map (·.current)).getD t.settings.chgI) t.settings.chgI
              let current :=
                match s.chg.state with
                | .precharge => 150
                | .bulk => if s.chg.cold = true then most / 2 else most
                | .topoff => s.chg.orderCur
                | _ => 0
              if current = s.chg.orderCur ∧ t.settings.chgVcell = s.chg.orderCeil then t = written
              else
                t.dockNoted .orderChanged
                  ∧ t = { written with
                      chg :=
                        { s.chg with
                          orderCur := current, orderCeil := t.settings.chgVcell, orderNum := (s.chg.orderNum + 1) % 256
                          unreadSince := some (s.chg.unreadSince.getD (s.now + dt)) }
                      ports := { s.ports with handle := t.ports.handle, dockNotes := t.ports.dockNotes } }))

/-- WRITE_SET refused after the table's judgement: a depth below its stack's depth with STATE, VSTOP or VCUT too close with BAD_ARG,
REFWIN and DOUBLE during a measurement with BUSY, an enumeration or a name set outside its values with BAD_ARG. The setting stands,
and the reply carries it. -/
def Obligations.SettingWritesRefused : Prop :=
  ∀ (id a b : Byte) (dt : Nat) (tag : Byte) (s : State), HandleOpen s →
    let v := (BitVec.ofNat 16 (a.toNat + 256 * b.toNat)).toInt
    let refused := fun c =>
      ∃ t, exec (.writeSet dt .handle tag [id, a, b]) s = .next t
        ∧ SameButGens t ((s.atHandle dt).handleAnswers tag c (id :: s.settings.bytes id.toNat))
    (id = 11 → max 1 (min 4 v) < s.arb.suction.length → refused .state)
      ∧ (id = 12 → max 1 (min 4 v) < s.arb.brush.length → refused .state)
      ∧ (id = 2 → max 2800 (min 3400 v) < (s.settings.vstop : Int) + 100 → refused .badArg)
      ∧ (id = 3 → (s.settings.vcut : Int) < max 2500 (min 3200 v) + 100 → refused .badArg)
      ∧ (id = 34 → s.bin.meas.isSome = true → refused .busy)
      ∧ (id = 35 → v = 0 ∨ v = 1 → s.bin.meas.isSome = true → refused .busy)
      ∧ (id = 1 → v < 0 ∨ 2 < v → refused .badArg)
      ∧ (id = 26 ∨ id = 35 ∨ id = 36 → v < 0 ∨ 1 < v → refused .badArg)
      ∧ (id = 48 → 32768 ≤ a.toNat + 256 * b.toNat → refused .badArg)

/-- WRITE_SET of the three structural groups and of ATTN_MASK: a group that its rule accepts is taken whole, byte for byte, and no other
setting changes; one that it refuses leaves everything. A derate curve (02 R40) is accepted with its temperatures strictly
increasing and within −40..125 and every D within 0..256; its points are read four bytes each. WRITE_SET of the four enumerations:
AUTOZERO empties the PER_64 run, a DOUBLE that changes discards the bin's calibration, NOISE_MODE and HOP change nothing else. -/
def Obligations.GroupSettingWritten : Prop :=
  (∀ points : List DeratePoint,
      derateOk points = true
        ↔ (∀ b ∈ points.zip points.tail, b.1.t < b.2.t)
          ∧ ∀ p ∈ points, -40 ≤ p.t ∧ p.t ≤ 125 ∧ 0 ≤ p.d ∧ p.d ≤ 256)
    ∧ (∀ value : List Byte, value.length = 32 →
      deratePoints value
        = (List.range 8).map fun i =>
          ⟨sword (value.getD (4 * i) 0) (value.getD (4 * i + 1) 0), sword (value.getD (4 * i + 2) 0) (value.getD (4 * i + 3) 0)⟩)
    ∧ ∀ (id : Byte) (value : List Byte) (dt : Nat) (tag : Byte) (s : State), HandleOpen s →
    let points := deratePoints value
    let number := word (value.getD 0 0) (value.getD 1 0)
    let good :=
      (id = 10 ∧ value.length = 32 ∧ derateOk points = true)
        ∨ ((id = 23 ∨ id = 24) ∧ value.length = 10 ∧ number ≤ 600)
        ∨ ((id = 26 ∨ id = 36) ∧ value.length = 2 ∧ number < 2)
        ∨ (id = 48 ∧ value.length = 2 ∧ number < 32768)
    let bad :=
      (id = 10 ∧ value.length = 32 ∧ derateOk points = false)
        ∨ ((id = 23 ∨ id = 24) ∧ value.length = 10 ∧ 600 < number)
    let taken := fun t : State =>
      t.settings.bytes id.toNat = value ∧ ∀ j, j ≠ id.toNat → t.settings.bytes j = s.settings.bytes j
    (good →
        ∃ t, exec (.writeSet dt .handle tag (id :: value)) s = .next t
          ∧ taken t
          ∧ SameButGens t ({ s.atHandle dt with settings := t.settings }.handleAnswers tag .ok (id :: value)))
      ∧ (bad →
        ∃ t, exec (.writeSet dt .handle tag (id :: value)) s = .next t
          ∧ SameButGens t ((s.atHandle dt).handleAnswers tag .badArg (id :: s.settings.bytes id.toNat)))
      ∧ (id = 1 → value.length = 2 → number < 3 →
        ∃ t, exec (.writeSet dt .handle tag (id :: value)) s = .next t
          ∧ taken t
          ∧ SameButGens t
            ({ s.atHandle dt with settings := t.settings, smp := { s.smp with run := ⟨0, 0⟩ } }.handleAnswers tag .ok
              (id :: value)))
      ∧ (id = 35 → value.length = 2 → number < 2 → s.bin.meas = none →
        ∃ t, exec (.writeSet dt .handle tag (id :: value)) s = .next t
          ∧ taken t
          ∧ t.bin
            = (if s.settings.bytes 35 = value then s.bin
                else
                  { s.bin with
                    cal := none, calPending := false, state := if s.bin.state = .detached then .detached else .uncal })
          ∧ t.ports.handle
            = { s.ports.handle with
                slot := .serving
                buf := frame (statusByte .ok (t.notePending .handle)) tag (id :: value) }
          ∧ t = { s with
              now := s.now + dt, arb := t.arb, suc := t.suc, bin := t.bin
              ports := { s.ports with
                handle := t.ports.handle, handleNotes := t.ports.handleNotes, wandNotes := t.ports.wandNotes }
              settings := t.settings, pwr := t.pwr, gens := t.gens })

/-! ## Claims, grants, the power path (03) -/

/-- A recomputation (03 R56): the brush share, the two grants, the short flags, the sum within the published allowance; HEAD_SHARE is a
setting of 0..256 with default 64. -/
def Obligations.GrantsAreShared : Prop :=
  Settings.defaults.headShare = 64 ∧ settingRange 13 = some (0, 256)
    ∧ ∀ s : State, s.settings.headShare ≤ 256 →
      (recompute s).arb.ds = s.demandS ∧ (recompute s).arb.dh = s.demandH
        ∧ (recompute s).arb.gh = min s.demandH (s.alw.pallow * s.settings.headShare / 256)
        ∧ (recompute s).arb.gs = min s.demandS (s.alw.pallow - (recompute s).arb.gh)
        ∧ s.alw.pallow * s.settings.headShare / 256 ≤ s.alw.pallow
        ∧ (recompute s).arb.gs + (recompute s).arb.gh ≤ s.alw.pallow
        ∧ ((recompute s).arb.shortS = true ↔ (recompute s).arb.gs < (recompute s).arb.ds)
        ∧ ((recompute s).arb.shortH = true ↔ (recompute s).arb.gh < (recompute s).arb.dh)

/-- The demands: the suction demand by the rows of 03 R52 and the caps of R53, with the suction curves of 04 R85; the brush demand by
R54, 0 with the wand off, the head ABSENT, the stack empty or a ZERO on top, otherwise the smaller of the top LEVEL and the head's
rating. And what a recomputation leaves alone and hands on: GRANT_CUT for each short flag newly set, the target lowered to Gs and
the duty with it, nothing raised; stacks, free list, path and every other block stand. -/
def Obligations.GrantsAreHandedOn : Prop :=
  (∀ (c : Curve) (d : Nat),
      let v16 := (c.base : Int) * 16 + 32 * ((List.range (d / 32)).map fun i => c.slopes.getD i 0).sum
        + c.slopes.getD (d / 32) 0 * ((d % 32 : Nat) : Int)
      (curveValue c d : Int) = max 0 (min 600 (Int.tdiv v16 16)))
    ∧ (∀ s : State,
      s.curveNow = curveValue (if s.head.floor = .carpet then s.settings.carpet else s.settings.hard) s.dirt.eff)
    ∧ (∀ s : State,
      let capped := fun w : Nat =>
        if s.bin.state = .detached then 0
        else
          min (if s.bin.state = .full then min w s.settings.binCap else w) (if s.suc.clogged = true then s.settings.clogCap else w)
      (s.runRequest = false ∨ s.suc.state.steered = false ∨ s.arb.suction = [] → s.demandS = 0)
        ∧ (s.runRequest = true → s.suc.state.steered = true → ∀ c rest, s.arb.suction = c :: rest →
          (c.kind = .zero → s.demandS = 0)
            ∧ (∀ w, c.kind = .level w → s.demandS = capped w)
            ∧ (∀ w, c.kind = .curve w → s.demandS = capped (min s.curveNow w)))
        ∧ (s.head.wand = false ∨ s.head.info = none ∨ s.arb.brush = [] → s.demandH = 0)
        ∧ ∀ h c rest, s.head.wand = true → s.head.info = some h → s.arb.brush = c :: rest →
          (c.kind = .zero → s.demandH = 0) ∧ ∀ w, c.kind = .level w → s.demandH = min w h.rating)
    ∧ ∀ s : State,
      (s.suc.target ≤ (recompute s).arb.gs → (recompute s).suc = s.suc)
        ∧ ((recompute s).arb.gs < s.suc.target →
          (recompute s).suc
            = { s.suc with
                target := (recompute s).arb.gs
                duty := dutyFor s.suc.state s.settings.pfull (recompute s).arb.gs s.suc.acc })
        ∧ (recompute s).ports.handleNotes
          = (if s.arb.shortS = false ∧ (recompute s).arb.shortS = true then s.ports.handleNotes ||| HandleNotice.grantCut.bit
              else s.ports.handleNotes)
        ∧ (recompute s).ports.wandNotes
          = (if s.arb.shortH = false ∧ (recompute s).arb.shortH = true then 1 else s.ports.wandNotes)
        ∧ recompute s
          = { s with
              arb :=
                { s.arb with
                  ds := (recompute s).arb.ds, dh := (recompute s).arb.dh, gs := (recompute s).arb.gs, gh := (recompute s).arb.gh
                  shortS := (recompute s).arb.shortS, shortH := (recompute s).arb.shortH, used := s.alw.pallow }
              suc := (recompute s).suc
              ports :=
                { s.ports with
                  handleNotes := (recompute s).ports.handleNotes, wandNotes := (recompute s).ports.wandNotes } }

/-- The exchanges over the power path, by the rows of 03 R60, R61 and R62. -/
def Obligations.PathExchanges : Prop :=
  ∀ (side other : Side) (s : State), side ≠ other →
    (s.arb.path = .idle →
        (arbRequest side s).2 = .taken ∧ (arbRequest side s).1.arb = { s.arb with path := side.path, waiting := none })
      ∧ (s.arb.path = other.path → arbRequest side s = ({ s with arb := { s.arb with waiting := some side } }, .waiting))
      ∧ (s.arb.path = side.path → arbRequest side s = (s, .held))
      ∧ (s.arb.path = side.path → s.arb.waiting = some other →
        arbRelease side s = ({ s with arb := { s.arb with path := other.path, waiting := none } }, some other))
      ∧ (s.arb.path = side.path → s.arb.waiting = none →
        arbRelease side s = ({ s with arb := { s.arb with path := .idle } }, none))
      ∧ (s.arb.path ≠ side.path → arbRelease side s = (s, none))
      ∧ (s.arb.waiting = some side → arbWithdraw side s = { s with arb := { s.arb with waiting := none } })
      ∧ (s.arb.waiting ≠ some side → arbWithdraw side s = s)

/-- CLAIM_PUSH taken, on either stack: the index at the head of the free list, the record on top, a recomputation, and the reply with
index, new depth and grant. On the brush stack a LEVEL above the rating is stored at the rating and answered CLAMPED. -/
def Obligations.ClaimPushed : Prop :=
  ∀ (kind lo hi label : Byte) (k : ClaimKind) (i : Fin 10) (rest : List (Fin 10)) (dt : Nat) (tag : Byte) (s : State),
    s.arb.free = i :: rest →
      (HandleOpen s → ClaimNamed false kind (word lo hi) k → s.arb.suction.length < s.settings.depthSuction →
          let r :=
            recompute { s.atHandle dt with arb := { s.arb with free := rest, suction := ⟨i, k, label⟩ :: s.arb.suction } }
          ∃ t, exec (.claimPush dt .handle tag [kind, lo, hi, label]) s = .next t
            ∧ SameButGens t (r.handleAnswers tag .ok (u8 i.val ++ u8 (s.arb.suction.length + 1) ++ u16 r.arb.gs)))
        ∧ (∀ h : HeadInfo, WireOpen .wand s → s.head.info = some h → ClaimNamed true kind (word lo hi) k →
          s.arb.brush.length < s.settings.depthBrush →
          let clamped := decide (kind = 0 ∧ h.rating < word lo hi)
          let r :=
            recompute
              { s.atWire .wand dt with
                arb :=
                  { s.arb with
                    free := rest, brush := ⟨i, if clamped then .level h.rating else k, label⟩ :: s.arb.brush } }
          ∃ t, exec (.claimPush dt .wand tag [kind, lo, hi, label]) s = .next t
            ∧ SameButGens t
              (r.wireAnswers .wand tag (if clamped then .clamped else .ok)
                (u8 i.val ++ u8 (s.arb.brush.length + 1) ++ u16 r.arb.gh)))

/-- CLAIM_POP taken, on either stack: the top record leaves, its index heads the free list, the record beneath is in force. CLAIM_DROP, on
either stack, empty or not: the stack is emptied top first, so that its bottom record heads the free list. -/
def Obligations.ClaimsReleased : Prop :=
  (∀ (c : Claim) (rest : List Claim) (dt : Nat) (tag : Byte) (s : State),
      (HandleOpen s → s.arb.suction = c :: rest →
          let r := recompute { s.atHandle dt with arb := { s.arb with free := c.index :: s.arb.free, suction := rest } }
          ∃ t, exec (.claimPop dt .handle tag [c.label]) s = .next t
            ∧ SameButGens t (r.handleAnswers tag .ok (u8 c.index.val ++ u8 rest.length ++ u16 r.arb.gs)))
        ∧ (WireOpen .wand s → s.head.info.isSome = true → s.arb.brush = c :: rest →
          let r := recompute { s.atWire .wand dt with arb := { s.arb with free := c.index :: s.arb.free, brush := rest } }
          ∃ t, exec (.claimPop dt .wand tag [c.label]) s = .next t
            ∧ SameButGens t (r.wireAnswers .wand tag .ok (u8 c.index.val ++ u8 rest.length ++ u16 r.arb.gh))))
    ∧ ∀ (dt : Nat) (tag : Byte) (s : State),
      (HandleOpen s →
          let r :=
            recompute
              { s.atHandle dt with
                arb := { s.arb with free := (s.arb.suction.map (·.index)).reverse ++ s.arb.free, suction := [] } }
          ∃ t, exec (.claimDrop dt .handle tag []) s = .next t
            ∧ SameButGens t (r.handleAnswers tag .ok (0#8 :: u16 r.arb.gs)))
        ∧ (WireOpen .wand s → s.head.info.isSome = true →
          let r :=
            recompute
              { s.atWire .wand dt with
                arb := { s.arb with free := (s.arb.brush.map (·.index)).reverse ++ s.arb.free, brush := [] } }
          ∃ t, exec (.claimDrop dt .wand tag []) s = .next t
            ∧ SameButGens t (r.wireAnswers .wand tag .ok (0#8 :: u16 r.arb.gh)))

/-- CLAIM_REPLACE taken, on either stack: the top record keeps index, place and label and takes the new kind and value. -/
def Obligations.ClaimReplaced : Prop :=
  ∀ (kind lo hi : Byte) (k : ClaimKind) (c : Claim) (rest : List Claim) (dt : Nat) (tag : Byte) (s : State),
    (HandleOpen s → ClaimNamed false kind (word lo hi) k → s.arb.suction = c :: rest →
        let r := recompute { s.atHandle dt with arb := { s.arb with suction := ⟨c.index, k, c.label⟩ :: rest } }
        ∃ t, exec (.claimReplace dt .handle tag [kind, lo, hi, c.label]) s = .next t
          ∧ SameButGens t (r.handleAnswers tag .ok (u8 c.index.val ++ u8 (rest.length + 1) ++ u16 r.arb.gs)))
      ∧ (∀ h : HeadInfo, WireOpen .wand s → s.head.info = some h → ClaimNamed true kind (word lo hi) k →
        s.arb.brush = c :: rest →
        let clamped := decide (kind = 0 ∧ h.rating < word lo hi)
        let r :=
          recompute
            { s.atWire .wand dt with
              arb :=
                { s.arb with brush := ⟨c.index, if clamped then .level h.rating else k, c.label⟩ :: rest } }
        ∃ t, exec (.claimReplace dt .wand tag [kind, lo, hi, c.label]) s = .next t
          ∧ SameButGens t
            (r.wireAnswers .wand tag (if clamped then .clamped else .ok)
              (u8 c.index.val ++ u8 (rest.length + 1) ++ u16 r.arb.gh)))

/-- The refusals of the claims on either stack, in their order, each changing nothing: BAD_ARG, DEPTH, POOL of a push; EMPTY, LABEL of a
pop; BAD_ARG, EMPTY, LABEL of a replace. On the brush stack a CURVE is BAD_ARG. -/
def Obligations.ClaimsRefused : Prop :=
  ∀ (kind lo hi label : Byte) (dt : Nat) (tag : Byte) (s : State),
    (HandleOpen s →
        let refused := fun (i : Instr) (c : Status) =>
          ∃ t, exec i s = .next t ∧ SameButGens t ((s.atHandle dt).handleAnswers tag c [])
        let push : Instr := .claimPush dt .handle tag [kind, lo, hi, label]
        let pop : Instr := .claimPop dt .handle tag [label]
        let replace : Instr := .claimReplace dt .handle tag [kind, lo, hi, label]
        let valid := kind.toNat ≤ 2 ∧ word lo hi ≤ 600
        (¬valid → refused push .badArg ∧ refused replace .badArg)
          ∧ (valid → s.settings.depthSuction ≤ s.arb.suction.length → refused push .depth)
          ∧ (valid → s.arb.suction.length < s.settings.depthSuction → s.arb.free = [] → refused push .pool)
          ∧ (s.arb.suction = [] → refused pop .empty ∧ (valid → refused replace .empty))
          ∧ ∀ c rest, s.arb.suction = c :: rest → c.label ≠ label →
            refused pop .label ∧ (valid → refused replace .label))
      ∧ (WireOpen .wand s → s.head.info.isSome = true →
        let refused := fun (i : Instr) (c : Status) =>
          ∃ t, exec i s = .next t ∧ SameButGens t ((s.atWire .wand dt).wireAnswers .wand tag c [])
        let push : Instr := .claimPush dt .wand tag [kind, lo, hi, label]
        let pop : Instr := .claimPop dt .wand tag [label]
        let replace : Instr := .claimReplace dt .wand tag [kind, lo, hi, label]
        let valid := (kind = 0 ∨ kind = 2) ∧ word lo hi ≤ 600
        (¬valid → refused push .badArg ∧ refused replace .badArg)
          ∧ (valid → s.settings.depthBrush ≤ s.arb.brush.length → refused push .depth)
          ∧ (valid → s.arb.brush.length < s.settings.depthBrush → s.arb.free = [] → refused push .pool)
          ∧ (s.arb.brush = [] → refused pop .empty ∧ (valid → refused replace .empty))
          ∧ ∀ c rest, s.arb.brush = c :: rest → c.label ≠ label →
            refused pop .label ∧ (valid → refused replace .label))

/-! ## Suction (04) -/

/-- TRIG_EDGE and BINLATCH_EDGE while AWAKE: the line takes its other level and its debounce timer restarts at 20 ms; nothing else
happens yet. In SHELF a latch edge, and TRIG going deasserted, move the line alone (a TRIG assertion wakes the part: `WakeInputs`). -/
def Obligations.EdgesRestartDebounce : Prop :=
  ∀ (dt : Nat) (s : State),
    (s.pwr.awake = true →
        exec (.trigEdge dt) s
            = .next
              { s with now := s.now + dt, trigLine := !s.trigLine, suc := { s.suc with trigTimer := some (s.now + dt + 20000) } }
          ∧ exec (.binlatchEdge dt) s
            = .next
              { s with
                now := s.now + dt, latchLine := !s.latchLine, bin := { s.bin with latchTimer := some (s.now + dt + 20000) } })
      ∧ (s.pwr.awake = false →
        exec (.binlatchEdge dt) s = .next { s with now := s.now + dt, latchLine := !s.latchLine }
          ∧ (s.trigLine = true → exec (.trigEdge dt) s = .next { s with now := s.now + dt, trigLine := false }))

/-- TRIGGER_DEBOUNCE_COMPLETION in STOPPED with the line asserted: with the bin fitted and the path IDLE the motor starts (04 R70, R72;
05 R89; 06 R117; 10 R178); with the charger on the path it waits; with the bin DETACHED it is refused with BIN_OPEN. In STOPPING and
FAULT the run request arrives and the suction state stands (04 R74, R76). In each of these a pending shelf entry is cancelled with
SHELF_REFUSED (10 R178). An expiry at the debounced level changes nothing. -/
def Obligations.TriggerPressed : Prop :=
  ∀ (d : Nat) (s : State), s.suc.trigTimer = some d →
    (s.trigLine = s.suc.pressed →
        ∃ t, exec .triggerDebounceCompletion s = .next t
          ∧ SameButGens t { s with now := max s.now d, suc := { s.suc with trigTimer := none } })
      ∧ (s.trigLine = true → s.suc.pressed = false → s.suc.lock = true →
        ∃ t, exec .triggerDebounceCompletion s = .next t
          ∧ SameButGens t
            { s with now := max s.now d, suc := { s.suc with trigTimer := none, pressed := true, lock := false } })
      ∧ (s.trigLine = true → s.suc.pressed = false → s.suc.lock = false → s.suc.state = .stopped →
        s.bin.state ≠ .detached → s.arb.path = .idle →
          ∃ t, exec .triggerDebounceCompletion s = .next t
            ∧ t.suc
              = { s.suc with
                  trigTimer := none, pressed := true, state := .starting, enableAsked := true, target := 0, acc := 0, duty := 0
                  overCount := 0, trim := none, clogged := false, lockCount := 0, unlockCount := 0, episodes := 0
                  stallTimer := some (max s.now d + 500000) }
            ∧ t.men = true ∧ t.arb.path = .discharge ∧ t.arb.waiting = none
            ∧ t.arb.suction = s.arb.suction ∧ t.arb.brush = s.arb.brush ∧ t.arb.free = s.arb.free
            ∧ t.arb.ds = t.demandS ∧ t.arb.gs = min t.demandS (t.alw.pallow - t.arb.gh)
            ∧ t.head = { s.head with wand := true, wandOff := none }
            ∧ t.bin
              = (if s.bin.meas.isSome = true
                  then { s.bin with meas := none, lastResult := .stale, seq := (s.bin.seq + 1) % 256 } else s.bin)
            ∧ t.pwr = { s.pwr with entry := .none, deepTimer := none } ∧ (s.pwr.entry ≠ .none → t.noted .shelfRefused)
            ∧ t = { s with
                now := max s.now d, smp := { s.smp with lastSwitch := t.smp.lastSwitch }, arb := t.arb, suc := t.suc
                head := t.head, bin := t.bin
                ports := { s.ports with
                  handleNotes := t.ports.handleNotes, wandNotes := t.ports.wandNotes, dockNotes := t.ports.dockNotes }
                pwr := t.pwr, gens := t.gens })
      ∧ (s.trigLine = true → s.suc.pressed = false → s.suc.lock = false → s.suc.state = .stopped →
        s.bin.state ≠ .detached → s.arb.path = .charge →
          ∃ t, exec .triggerDebounceCompletion s = .next t
            ∧ t.suc.state = .waitPath ∧ t.suc.enableAsked = s.suc.enableAsked ∧ t.arb.path = .charge
            ∧ t.arb.waiting = some .suction ∧ t.chg = s.chg ∧ t.bin = s.bin
            ∧ t.head = { s.head with wand := true, wandOff := none }
            ∧ t.pwr = { s.pwr with entry := .none, deepTimer := none } ∧ (s.pwr.entry ≠ .none → t.noted .shelfRefused)
            ∧ t.noted .runWait)
      ∧ (s.trigLine = true → s.suc.pressed = false → s.suc.lock = false → s.suc.state = .stopped →
        s.bin.state = .detached →
          ∃ t, exec .triggerDebounceCompletion s = .next t
            ∧ t.suc.state = .stopped ∧ t.arb.path = s.arb.path ∧ t.arb.waiting = s.arb.waiting ∧ t.chg = s.chg
            ∧ t.bin = s.bin ∧ t.head = { s.head with wandOff := none }
            ∧ t.pwr = { s.pwr with entry := .none, deepTimer := none } ∧ (s.pwr.entry ≠ .none → t.noted .shelfRefused)
            ∧ t.noted .binOpen)
      ∧ (s.trigLine = true → s.suc.pressed = false → s.suc.lock = false → s.suc.state = .stopping ∨ s.suc.state = .fault →
        ∃ t, exec .triggerDebounceCompletion s = .next t
          ∧ t.runRequest = true
          ∧ t.suc = { s.suc with trigTimer := none, pressed := true, target := t.suc.target, duty := t.suc.duty }
          ∧ t.suc.target = min s.suc.target t.arb.gs ∧ t.arb.ds = 0 ∧ t.arb.gs = 0
          ∧ t.head = { s.head with wandOff := none, wand := s.head.wand || decide (s.bin.state ≠ .detached) }
          ∧ t.pwr = { s.pwr with entry := .none, deepTimer := none } ∧ (s.pwr.entry ≠ .none → t.noted .shelfRefused)
          ∧ t = { s with
              now := max s.now d, smp := { s.smp with lastSwitch := t.smp.lastSwitch }
              arb := { s.arb with
                ds := t.arb.ds, dh := t.arb.dh, gs := t.arb.gs, gh := t.arb.gh, shortS := t.arb.shortS
                shortH := t.arb.shortH, used := t.arb.used }
              suc := t.suc, head := t.head
              ports := { s.ports with handleNotes := t.ports.handleNotes, wandNotes := t.ports.wandNotes }
              pwr := t.pwr, gens := t.gens })

/-- TRIGGER_DEBOUNCE_COMPLETION with the line deasserted and the lock clear: the run request ends (04 R69; 05 R90: the wand-off timer at
2 s). In RUNNING (04 R73, R74; 06 R101): STOPPING for 300 ms with the enable kept, target, accumulator and duty 0, the window closed
and the indices 0; STARTING likewise; below 5000 rpm the stop ends at its entry, in STOPPED, with the path released and the gauge's
automatic measurement (06 R116). In WAIT_PATH the request is withdrawn; FAULT is left where R76 allows; STOPPING and STOPPED stand.
With the lock set in RUNNING the run goes on. -/
def Obligations.TriggerReleased : Prop :=
  ∀ (d : Nat) (s : State), s.suc.trigTimer = some d → s.trigLine = false → s.suc.pressed = true →
    (s.suc.state = .running → s.suc.lock = true →
        ∃ t, exec .triggerDebounceCompletion s = .next t
          ∧ SameButGens t { s with now := max s.now d, suc := { s.suc with trigTimer := none, pressed := false } })
      ∧ (s.suc.state = .running → s.suc.lock = false → s.suc.enableAsked = true → 5000 ≤ s.suc.speed →
        ∃ t, exec .triggerDebounceCompletion s = .next t
          ∧ t.suc
            = { s.suc with
                trigTimer := none, pressed := false, state := .stopping, target := 0, acc := 0, duty := 0
                stallTimer := none, stopTimer := some (max s.now d + 300000) }
          ∧ t.dirt
            = { s.dirt with
                window := none, count := 0, raw := 0, heavy := false, lockCount := 0, unlockCount := 0, eff := 0 }
          ∧ t.head = { s.head with wandOff := if s.head.wand = true then some (max s.now d + 2000000) else s.head.wandOff }
          ∧ t.arb.path = s.arb.path ∧ t.arb.waiting = s.arb.waiting ∧ t.arb.ds = 0 ∧ t.arb.gs = 0
          ∧ t.arb.suction = s.arb.suction ∧ t.arb.brush = s.arb.brush ∧ t.arb.free = s.arb.free
          ∧ t = { s with
              now := max s.now d, arb := t.arb, suc := t.suc, head := t.head, dirt := t.dirt
              ports := { s.ports with handleNotes := t.ports.handleNotes, wandNotes := t.ports.wandNotes }, gens := t.gens })
      ∧ (PathOk s → s.suc.lock = false →
        let ended := fun t : State =>
          t.runRequest = false
            ∧ t.head = { s.head with wandOff := if s.head.wand = true then some (max s.now d + 2000000) else s.head.wandOff }
            ∧ t.arb.suction = s.arb.suction ∧ t.arb.brush = s.arb.brush ∧ t.arb.free = s.arb.free
            ∧ t.arb.ds = 0 ∧ t.arb.gs = 0 ∧ t.acct = s.acct ∧ t.alw = s.alw ∧ t.settings = s.settings
        let released := fun t : State =>
          t.men = false ∧ t.arb.path ≠ .discharge
            ∧ (s.arb.waiting = none → t.arb.path = .idle ∧ t.chg = s.chg)
            ∧ (s.arb.waiting = some .charger → t.arb.waiting = none ∧ t.chg.state ≠ .waitIdle)
        (s.suc.state = .starting → 5000 ≤ s.suc.speed →
            ∃ t, exec .triggerDebounceCompletion s = .next t ∧ ended t
              ∧ t.suc
                = { s.suc with
                    trigTimer := none, pressed := false, state := .stopping, target := 0, acc := 0, duty := 0
                    stallTimer := none, stopTimer := some (max s.now d + 300000) }
              ∧ t.arb.path = s.arb.path ∧ t.arb.waiting = s.arb.waiting ∧ t.chg = s.chg ∧ t.bin = s.bin)
          ∧ (s.suc.state = .starting ∨ s.suc.state = .running → s.suc.speed < 5000 →
            ∃ t, exec .triggerDebounceCompletion s = .next t ∧ ended t ∧ released t
              ∧ t.suc
                = { s.suc with
                    trigTimer := none, pressed := false, state := .stopped, enableAsked := false, target := 0, acc := 0
                    duty := 0, stallTimer := none, stopTimer := none }
              ∧ t.dirt.window = (if s.suc.state = .running then none else s.dirt.window)
              ∧ t.bin
                = (if s.bin.state ≠ .detached ∧ s.bin.meas = none
                    then
                      { s.bin with
                        meas :=
                          some
                            ⟨1, s.bin.workStep, s.settings.refwin, s.settings.double, s.settings.hop, s.settings.hopTol,
                              s.bin.lastTry⟩ }
                    else s.bin))
          ∧ (s.suc.state = .waitPath →
            ∃ t, exec .triggerDebounceCompletion s = .next t ∧ ended t
              ∧ t.suc
                = { s.suc with
                    trigTimer := none, pressed := false, state := .stopped, target := t.suc.target, duty := t.suc.duty }
              ∧ t.arb.path = .charge ∧ t.arb.waiting = none ∧ t.chg = s.chg ∧ t.bin = s.bin)
          ∧ (s.suc.state = .fault ∨ s.suc.state = .stopping ∨ s.suc.state = .stopped →
            ∃ t, exec .triggerDebounceCompletion s = .next t ∧ ended t
              ∧ t.suc
                = { s.suc with
                    trigTimer := none, pressed := false, target := t.suc.target, duty := t.suc.duty, state := t.suc.state }
              ∧ (let leaves :=
                  s.suc.state = .fault
                    ∧ (s.suc.faultCause ≠ .hot ∨ ∃ x, s.suc.lastTemp = some (.ok x) ∧ x ≤ 100)
                (leaves → t.suc.state = .stopped) ∧ (¬leaves → t.suc.state = s.suc.state))
              ∧ t.arb.path = s.arb.path ∧ t.arb.waiting = s.arb.waiting ∧ t.chg = s.chg ∧ t.bin = s.bin))

/-- STALL_TIMER_EXPIRY in STARTING: FAULT with cause STALL (04 R72, R76): enable withdrawn, target, accumulator and duty 0, the lock
cleared, the state timers stopped, SUCTION_FAULT raised, the path released, to IDLE or to a charger that waits. Out of STARTING the
timer is only stopped; with no timer nothing happens. -/
def Obligations.StallFaults : Prop :=
  ∀ s : State, PathOk s →
    (s.suc.stallTimer = none → exec .stallTimerExpiry s = .next s)
      ∧ (∀ d, s.suc.stallTimer = some d → s.suc.state ≠ .starting →
        ∃ t, exec .stallTimerExpiry s = .next t
          ∧ SameButGens t { s with now := max s.now d, suc := { s.suc with stallTimer := none } })
      ∧ ∀ d, s.suc.stallTimer = some d → s.suc.state = .starting →
        ∃ t, exec .stallTimerExpiry s = .next t
          ∧ t.suc
            = { s.suc with
                state := .fault, faultCause := .stall, enableAsked := false, duty := 0, target := 0, acc := 0, lock := false
                stallTimer := none, stopTimer := none }
          ∧ t.men = false ∧ t.arb.path ≠ .discharge ∧ t.arb.gs = 0
          ∧ t.noted .suctionFault
          ∧ t.bin = s.bin ∧ t.dirt = s.dirt ∧ t.acct = s.acct ∧ t.settings = s.settings ∧ t.alw = s.alw
          ∧ t.arb.suction = s.arb.suction ∧ t.arb.brush = s.arb.brush ∧ t.arb.free = s.arb.free
          ∧ (s.arb.waiting = none → t.arb.path = .idle ∧ t.chg = s.chg)
          ∧ (s.arb.waiting = some .charger → t.arb.waiting = none ∧ t.chg.state ≠ .waitIdle)

/-- STOP_TIMER_EXPIRY (04 R74). In STOPPING it always completes as `StoppingEnds` gives, with the run request absent or present:
STOPPED with the path released and the bin gauge's automatic measurement (06 R116); or the arrival of the run request at that entry
(04 R70), which is BIN_OPEN for a DETACHED bin, a new start, or a wait for the charger's path (that a new start finds no measurement
started, or one aborted as STALE: both orders are allowed, log 18). Out of STOPPING the timer is only stopped; with no timer nothing
happens. -/
def Obligations.StopEnds : Prop :=
  ∀ s : State, PathOk s →
    (s.suc.stopTimer = none → exec .stopTimerExpiry s = .next s)
      ∧ (∀ d, s.suc.stopTimer = some d → s.suc.state ≠ .stopping →
        ∃ t, exec .stopTimerExpiry s = .next t
          ∧ SameButGens t { s with now := max s.now d, suc := { s.suc with stopTimer := none } })
      ∧ (∀ d, s.suc.stopTimer = some d → s.suc.state = .stopping →
        ∃ t, exec .stopTimerExpiry s = .next t ∧ StoppingEnds (max s.now d) s.suc s t)

/-- TACH_PULSE and TACH_TIMEOUT (04 R81, R72; 06 R101): a first pulse is a reference; one inside 250 µs changes nothing; another gives
the speed 60,000,000 / period, and at 20000 rpm or more in STARTING enters RUNNING with the dirt window open; the timeout sets the
speed to 0 and ends the reference. A speed below 5000 rpm in STOPPING, by a pulse or by the timeout, ends STOPPING (04 R74) as
`StoppingEnds` gives, with the run request absent or present (the gauge at a new start: log 18). -/
def Obligations.TachSpeeds : Prop :=
  ∀ (dt : Nat) (s : State), s.pwr.awake = true →
    (s.suc.lastPulse = none →
        (∃ t, exec (.tachPulse dt) s = .next t
            ∧ SameButGens t { s with now := s.now + dt, suc := { s.suc with lastPulse := some (s.now + dt) } })
          ∧ exec .tachTimeout s = .next s)
      ∧ ∀ p, s.suc.lastPulse = some p →
        (s.now + dt < p + 250 →
            ∃ t, exec (.tachPulse dt) s = .next t ∧ SameButGens t { s with now := s.now + dt })
          ∧ (p + 250 ≤ s.now + dt → s.suc.state ≠ .starting →
            (s.suc.state = .stopping → 5000 ≤ 60000000 / (s.now + dt - p)) →
            ∃ t, exec (.tachPulse dt) s = .next t
              ∧ SameButGens t
                { s with
                  now := s.now + dt
                  suc := { s.suc with lastPulse := some (s.now + dt), speed := 60000000 / (s.now + dt - p) } })
          ∧ (p + 250 ≤ s.now + dt → s.suc.state = .starting → 60000000 / (s.now + dt - p) < 20000 →
            ∃ t, exec (.tachPulse dt) s = .next t
              ∧ SameButGens t
                { s with
                  now := s.now + dt
                  suc := { s.suc with lastPulse := some (s.now + dt), speed := 60000000 / (s.now + dt - p) } })
          ∧ (p + 250 ≤ s.now + dt → s.suc.state = .starting → 20000 ≤ 60000000 / (s.now + dt - p) →
            ∃ t, exec (.tachPulse dt) s = .next t
              ∧ SameButGens t
                (recompute
                  { s with
                    now := s.now + dt
                    suc :=
                      { s.suc with
                        lastPulse := some (s.now + dt), speed := 60000000 / (s.now + dt - p), state := .running
                        stallTimer := none }
                    dirt :=
                      { s.dirt with
                        window := some ⟨s.settings.win, s.now + dt + s.settings.win * 1000⟩, count := 0, completed := 0
                        ring := [], floorN := none, raw := 0, heavy := false, lockCount := 0, unlockCount := 0, eff := 0 } }))
          ∧ (p + 250 ≤ s.now + dt → s.suc.state = .stopping → 60000000 / (s.now + dt - p) < 5000 → s.runRequest = false →
            ∃ t, exec (.tachPulse dt) s = .next t ∧ t.suc.state = .stopped ∧ t.men = false ∧ t.suc.duty = 0)
          ∧ (PathOk s → p + 250 ≤ s.now + dt → s.suc.state = .stopping → 60000000 / (s.now + dt - p) < 5000 →
            ∃ t, exec (.tachPulse dt) s = .next t
              ∧ StoppingEnds (s.now + dt)
                { s.suc with lastPulse := some (s.now + dt), speed := 60000000 / (s.now + dt - p) } s t)
          ∧ (s.suc.state ≠ .stopping →
            ∃ t, exec .tachTimeout s = .next t
              ∧ SameButGens t
                { s with now := max s.now (p + 50000), suc := { s.suc with speed := 0, lastPulse := none } })
          ∧ (s.suc.state = .stopping → s.runRequest = false →
            ∃ t, exec .tachTimeout s = .next t ∧ t.suc.state = .stopped ∧ t.men = false ∧ t.suc.speed = 0)
          ∧ (PathOk s → s.suc.state = .stopping →
            ∃ t, exec .tachTimeout s = .next t
              ∧ StoppingEnds (max s.now (p + 50000)) { s.suc with speed := 0, lastPulse := none } s t)

/-- LOCK_ON sets the latch in RUNNING and is refused elsewhere; LOCK_OFF clears it in any state and is answered OK, and where the latch
alone held the run request the run ends. Both replies carry the latch and the suction state after the request (04 R67): their bytes, in
that order, are log 10, and that a refused LOCK_ON carries them too is log 11. -/
def Obligations.LockRequests : Prop :=
  ∀ (dt : Nat) (tag : Byte) (s : State), HandleOpen s → PathOk s →
    (s.suc.state = .running →
        ∃ t, exec (.lockOn dt .handle tag []) s = .next t
          ∧ SameButGens t ({ s.atHandle dt with suc := { s.suc with lock := true } }.handleAnswers tag .ok [1, 3]))
      ∧ (s.suc.state ≠ .running →
        ∃ t, exec (.lockOn dt .handle tag []) s = .next t
          ∧ SameButGens t ((s.atHandle dt).handleAnswers tag .state [0, BitVec.ofNat 8 s.suc.state.pos]))
      ∧ (s.suc.lock = false ∨ s.suc.pressed = true →
        ∃ t, exec (.lockOff dt .handle tag []) s = .next t
          ∧ SameButGens t
            ({ s.atHandle dt with suc := { s.suc with lock := false } }.handleAnswers tag .ok
              [0, BitVec.ofNat 8 s.suc.state.pos]))
      ∧ (s.suc.lock = true → s.suc.pressed = false →
        ∃ t, exec (.lockOff dt .handle tag []) s = .next t
          ∧ t.suc.lock = false ∧ t.runRequest = false
          ∧ t.suc.state = (if s.suc.speed < 5000 then .stopped else .stopping)
          ∧ t.ports.handle
            = { s.ports.handle with
                slot := .serving
                buf := frame (statusByte .ok (t.notePending .handle)) tag [0, BitVec.ofNat 8 t.suc.state.pos] })

/-! ## Scans and the allowance (01, 02) -/

/-- SCAN_START and SCAN_COMPLETION (01 R1 to R19; 02 R21 to R24): the scan starts at its moment; its record holds the conversions of the
sixteen codes, the judgement of R13 and the counts; the next start follows the FAST demand; at a scan that qualifies (R15) the offset
moves by R16 or R17, at any other it stands and the PER_64 run is emptied; a valid
scan starts a computation, the third invalid one in a row publishes 0; the lines, the settings and the ports stand. The FAST demand is
that of 01 R2. What the other receivers do with the record: `ScanFaultsMotor`, `ScanSteersMotor`, `ScanFindsDock`, `ScanMovesCharge`,
`ChargeIsConserved`, `HeadTimers`, `ShelfEntered`. A completion or a start out of its occasion (log 5), a valid scan that comes with a
computation still in flight, whose capture the new one replaces (log 22), and the moment of the last switch change (log 29) are the
model's choices. -/
def Obligations.ScanPublishes : Prop :=
  ∀ s : State,
    (∀ due first, s.smp.phase = .resting due first →
        exec .scanStart s
          = .next { s with now := max s.now due, smp := { s.smp with phase := .running (max s.now due) first } })
      ∧ ((∀ due first, s.smp.phase ≠ .resting due first) → exec .scanStart s = .next s)
      ∧ (∀ k, (∀ start first, s.smp.phase ≠ .running start first) → exec (.scanCompletion k) s = .next s)
      ∧ ∀ start first (k : ScanCodes), s.smp.phase = .running start first →
        let mv := fun c : Code => c.toNat * 5000 / 4096
        let sat := fun c : Code => c.toNat = 0 ∨ c.toNat = 4095
        let raw := fun c : Code => ((c.toNat : Int) - 2048) * 25
        let sample := fun c : Code =>
          if c.toNat = 0 then -51200 else if c.toNat = 4095 then 51175 else max (-51200) (min 51175 (raw c - s.smp.offset))
        let average := Int.tdiv (raw k.pack1 + raw k.pack2) 2
        ∃ t r, exec (.scanCompletion k) s = .next t ∧ t.smp.table = some r
          ∧ t.smp.number = r.number ∧ t.smp.invalidCount = r.invalidCount
          ∧ r.number = (if s.smp.number < 65535 then s.smp.number + 1 else 1)
          ∧ r.cadence = s.smp.cadence ∧ r.interval = (if s.smp.cadence = .fast then 2 else 100) ∧ r.first = first
          ∧ r.offset = s.smp.offset
          ∧ r.cells = ⟨mv k.cell1, mv k.cell2, mv k.cell3, mv k.cell4, mv k.cell5, mv k.cell6, mv k.cell7⟩
          ∧ (r.iSat = true ↔ sat k.pack1 ∨ sat k.pack2)
          ∧ r.i
            = (if sat k.pack2 then sample k.pack2 else if sat k.pack1 then sample k.pack1
                else Int.tdiv (sample k.pack1 + sample k.pack2) 2)
          ∧ r.motor = 12 * k.motor.toNat ∧ (r.motorSat = true ↔ k.motor.toNat = 4095)
          ∧ ThermReads k.thermA.toNat r.thermA ∧ ThermReads k.thermB.toNat r.thermB ∧ ThermReads k.thermM.toNat r.motorTemp
          ∧ (∀ a b, r.thermA = .ok a → r.thermB = .ok b → r.tmax = some (max a b) ∧ r.tmin = some (min a b))
          ∧ (∀ a, r.thermA = .ok a → r.thermB = .opened ∨ r.thermB = .shorted → r.tmax = some a ∧ r.tmin = some a)
          ∧ (∀ b, r.thermB = .ok b → r.thermA = .opened ∨ r.thermA = .shorted → r.tmax = some b ∧ r.tmin = some b)
          ∧ (r.thermA = .opened ∨ r.thermA = .shorted → r.thermB = .opened ∨ r.thermB = .shorted →
            r.tmax = none ∧ r.tmin = none ∧ r.thermFault = true)
          ∧ (r.thermFault = true ↔ r.tmax = none) ∧ (r.tmax = none ↔ r.tmin = none)
          ∧ r.dock = k.dock.toNat * 50000 / 4096 ∧ r.reference = mv k.reference ∧ r.vpack = k.divider.toNat * 10
          ∧ (r.validity = .refFault ↔ r.reference < 1225 ∨ 1275 < r.reference)
          ∧ (r.validity = .valid
            ↔ 1225 ≤ r.reference ∧ r.reference ≤ 1275 ∧ r.vpack ≤ r.cells.sum + 500 ∧ r.cells.sum ≤ r.vpack + 500)
          ∧ r.invalidCount = (if r.validity = .valid then 0 else min 255 (s.smp.invalidCount + 1))
          ∧ t.now = max s.now (start + 2000)
          ∧ (t.fastDemand = true
            ↔ (t.suc.pressed = true ∨ t.suc.lock = true) ∨ t.arb.path ≠ .idle ∨ t.head.wand = true
              ∨ t.chg.state ≠ .absent ∨ t.bin.meas.isSome = true)
          ∧ t.smp.cadence = (if t.fastDemand = true then .fast else .slow)
          ∧ t.smp.phase = (if t.fastDemand = true then .resting t.now false else .resting (start + 100000) false)
          ∧ (let qualifies :=
              r.validity = .valid ∧ r.iSat = false ∧ s.anySwitch = false ∧ t.anySwitch = false
                ∧ ∀ m, s.smp.lastSwitch = some m → m < start
            (¬qualifies → t.smp.offset = s.smp.offset ∧ t.smp.run = ⟨0, 0⟩)
              ∧ (qualifies → s.settings.autozero = .off → t.smp.offset = s.smp.offset ∧ t.smp.run = s.smp.run)
              ∧ (qualifies → s.settings.autozero = .perScan →
                t.smp.run = s.smp.run
                  ∧ t.smp.offset = max (-500) (min 500 (s.smp.offset + Int.tdiv (average - s.smp.offset) 16)))
              ∧ (qualifies → s.settings.autozero = .per64 → s.smp.run.count < 63 →
                t.smp.offset = s.smp.offset ∧ t.smp.run = ⟨s.smp.run.count + 1, s.smp.run.sum + average⟩)
              ∧ (qualifies → s.settings.autozero = .per64 → s.smp.run.count = 63 →
                t.smp.run = ⟨0, 0⟩
                  ∧ t.smp.offset
                    = max (-500)
                      (min 500 (s.smp.offset + Int.tdiv (Int.tdiv (s.smp.run.sum + average) 64 - s.smp.offset) 4))))
          ∧ (r.validity = .valid →
            t.alw
              = { s.alw with
                  inflight :=
                    some
                      ⟨⟨r.number, r.cells.vmin, r.cells.sum / 7, r.i, r.iSat, r.tmax, r.tmin, r.thermFault, s.alw.rcell,
                          s.alw.snapshot, s.settings.vcut, s.settings.vstop, s.settings.prated, s.settings.riseStep,
                          s.settings.stepMin, s.settings.tdisLo, s.settings.tdisHi, s.settings.derate⟩, t.now + 400⟩ })
          ∧ (r.validity ≠ .valid → r.invalidCount ≠ 3 → t.alw = { s.alw with snapshot := none })
          ∧ (r.validity ≠ .valid → r.invalidCount = 3 →
            t.alw = { s.alw with snapshot := none, pallow := 0, cause := .scanFault } ∧ t.arb.gs = 0 ∧ t.arb.gh = 0
              ∧ t.noted .scanFault)
          ∧ t = { s with
              now := t.now, smp := t.smp, alw := t.alw, arb := t.arb, suc := t.suc, head := t.head, dirt := t.dirt, bin := t.bin
              acct := t.acct, chg := t.chg
              ports := { s.ports with
                handleNotes := t.ports.handleNotes, wandNotes := t.ports.wandNotes, dockNotes := t.ports.dockNotes }
              pwr := { s.pwr with entry := t.pwr.entry, deepTimer := t.pwr.deepTimer }, gens := t.gens, choices := t.choices }
          ∧ t.arb.suction = s.arb.suction

/-- At a SCAN_COMPLETION the checks of the motor (04 R75, R76, R77 steps 1 and 2), in STARTING, RUNNING and STOPPING at a valid scan:
HOT at 120 °C or with the channel OPEN or SHORT, else OVERCURRENT at the third scan in a row over the limit, each with its entry to
FAULT; else the count alone. FAULT is left for STOPPED where R76 allows, with no bin measurement; STOPPING and STOPPED stand;
WAIT_PATH stands while the charger keeps the path, and starts with its release (04 R71, R72; 03 R61). What STARTING and RUNNING do
besides: `ScanSteersMotor`. -/
def Obligations.ScanFaultsMotor : Prop :=
  ∀ s : State, PathOk s → GrantsOk s → ∀ start first (k : ScanCodes), s.smp.phase = .running start first →
    ∃ t r, exec (.scanCompletion k) s = .next t ∧ t.smp.table = some r
      ∧ (let valid := r.validity = .valid
        let hot := ∀ x, r.motorTemp = .ok x → 120 ≤ x
        let tooMuch := r.motorSat = true ∨ 45000 < r.motor
        let count := if tooMuch then min 3 (s.suc.overCount + 1) else 0
        let temp := if valid then some r.motorTemp else s.suc.lastTemp
        let faulted := fun cause : SuctionCause =>
          t.suc
              = { s.suc with
                  state := .fault, faultCause := cause, enableAsked := false, duty := 0, target := 0, acc := 0, lock := false
                  stallTimer := none, stopTimer := none, overCount := t.suc.overCount, lastTemp := some r.motorTemp }
            ∧ t.men = false ∧ t.arb.path ≠ .discharge ∧ t.arb.gs = 0 ∧ t.noted .suctionFault
            ∧ (s.suc.state = .running → t.dirt.window = none ∧ t.dirt.eff = 0 ∧ t.dirt.heavy = false)
        (s.suc.state.driving = true → valid → hot →
            faulted .hot ∧ t.suc.overCount = if tooMuch then s.suc.overCount else 0)
          ∧ (s.suc.state.driving = true → valid → ¬hot → count = 3 → faulted .overcurrent ∧ t.suc.overCount = 3)
          ∧ (s.suc.state.driving = true → valid → ¬hot → count ≠ 3 → t.suc.overCount = count)
          ∧ (s.suc.state.driving = true → ¬valid → t.suc.overCount = s.suc.overCount)
          ∧ (s.suc.state = .stopping → ¬valid ∨ (¬hot ∧ count ≠ 3) →
            t.suc = { s.suc with overCount := t.suc.overCount, lastTemp := temp })
          ∧ (s.suc.state = .fault →
            let leaves :=
              valid ∧ s.runRequest = false ∧ (s.suc.faultCause = .hot → ∃ x, r.motorTemp = .ok x ∧ x ≤ 100)
            (leaves → t.suc = { s.suc with state := .stopped, lastTemp := temp })
              ∧ (¬leaves → t.suc = { s.suc with lastTemp := temp })
              ∧ t.bin = s.bin)
          ∧ (s.suc.state = .stopped → t.suc = { s.suc with lastTemp := temp } ∧ t.bin = s.bin)
          ∧ (s.suc.state = .waitPath →
            (t.arb.path = .charge → t.suc = { s.suc with lastTemp := temp } ∧ t.arb.waiting = some .suction)
              ∧ (t.arb.path ≠ .charge →
                t.suc
                  = { s.suc with
                      lastTemp := temp, state := .starting, enableAsked := true, target := 0, acc := 0, duty := 0
                      overCount := 0, trim := none, clogged := false, lockCount := 0, unlockCount := 0, episodes := 0
                      stallTimer := some (t.now + 500000) }
                  ∧ t.men = true ∧ t.arb.waiting = none ∧ t.bin.meas = none)))

/-- At a SCAN_COMPLETION the steering of the motor in STARTING and RUNNING (04 R77 steps 3 and 4, R78, R79, R80, R82, R83), where no
check of `ScanFaultsMotor` enters FAULT and no dock attach clears a lock that alone holds the run (`ScanFindsDock`): the target
rises by RAMP_UP toward the grant the regulator finds, and falls with the grant of the same completion; at a valid scan power, error
and accumulator with its anti-windup; the duty from the two; in RUNNING the clog counts, CLOGGED with its cap and episode, back to
NORMAL, and at the third episode FAULT with cause CLOG. Nothing else of the regulator changes. -/
def Obligations.ScanSteersMotor : Prop :=
  ∀ s : State, PathOk s → GrantsOk s → s.suc.state.steered = true → ∀ start first (k : ScanCodes),
    s.smp.phase = .running start first →
      ∃ t r, exec (.scanCompletion k) s = .next t ∧ t.smp.table = some r
        ∧ (let valid := r.validity = .valid
          let checked :=
            valid → (∃ x, r.motorTemp = .ok x ∧ x < 120)
              ∧ ((r.motorSat = true ∨ 45000 < r.motor) → s.suc.overCount < 2)
          let attached := s.chg.state = .absent ∧ t.chg.state = .qualify
          let ramped := if s.suc.target < s.arb.gs then min (s.suc.target + s.settings.rampUp) s.arb.gs else s.suc.target
          let power := r.vpack * r.motor / 1000000
          let error := (ramped : Int) - power
          let holds := (s.suc.duty = 1000 ∧ 0 < error) ∨ (s.suc.duty = 0 ∧ error < 0)
          let acc :=
            if valid ∧ ¬holds then max (-20000) (min 20000 (s.suc.acc + error * s.settings.ki)) else s.suc.acc
          let locks :=
            if s.settings.clogMinP ≤ ramped ∧ s.settings.clogRpm ≤ s.suc.speed then min 255 (s.suc.lockCount + 1) else 0
          let unlocks := if s.suc.speed + 5000 < s.settings.clogRpm then min 1023 (s.suc.unlockCount + 1) else 0
          let clogs := s.suc.state = .running ∧ s.suc.clogged = false ∧ s.settings.clogLock ≤ locks
          let clears := s.suc.state = .running ∧ s.suc.clogged = true ∧ s.settings.clogUnlock ≤ unlocks
          let steered : Suction :=
            { s.suc with
              overCount := t.suc.overCount, lastTemp := if valid then some r.motorTemp else s.suc.lastTemp
              lock := t.suc.lock, target := t.suc.target, duty := t.suc.duty, acc := acc
              trim := if valid then some ⟨power, error⟩ else s.suc.trim }
          checked → s.suc.pressed = true ∨ ¬attached →
            (clogs → 2 ≤ s.suc.episodes →
                t.suc
                  = { steered with
                      state := .fault, faultCause := .clog, enableAsked := false, target := 0, duty := 0, acc := 0
                      lock := false, stallTimer := none, stopTimer := none, clogged := true, lockCount := 0
                      unlockCount := 0, episodes := 3 }
                  ∧ t.men = false ∧ t.arb.path ≠ .discharge ∧ t.arb.gs = 0 ∧ t.noted .clog ∧ t.noted .suctionFault
                  ∧ t.dirt.window = none ∧ t.dirt.eff = 0)
              ∧ (¬(clogs ∧ 2 ≤ s.suc.episodes) →
                t.suc
                    = (if clogs then
                        { steered with
                          clogged := true, lockCount := 0, unlockCount := 0, episodes := s.suc.episodes + 1 }
                      else if clears then { steered with clogged := false, lockCount := 0, unlockCount := 0 }
                      else if s.suc.state = .starting then steered
                      else if s.suc.clogged = true then { steered with unlockCount := unlocks }
                      else { steered with lockCount := locks })
                  ∧ t.suc.target ≤ ramped ∧ t.suc.target ≤ t.arb.gs
                  ∧ (t.head.wand = s.head.wand → t.suc.target = min ramped t.arb.gs)
                  ∧ t.suc.duty
                    = (max 0
                      (min 1000
                        (((t.suc.target * 1000 / s.settings.pfull : Nat) : Int) + Int.tdiv acc 64))).toNat
                  ∧ (clogs → t.noted .clog)
                  ∧ (clogs ∨ clears →
                    t.arb.ds = t.demandS ∧ t.arb.gs = min t.demandS (t.alw.pallow - t.arb.gh))
                  ∧ t.arb.path = .discharge ∧ t.men = true ∧ t.bin = s.bin ∧ t.dirt = s.dirt))

/-- At a SCAN_COMPLETION, valid or not, the dock contact (08 R138, R139, R140; 04 R68; 03 R61, R62): five scans in a row of 18000 mV or
more in ABSENT are an attach, two of less than 14000 mV elsewhere a detach; what each does to the controller, the order, the path,
the lock latch and a pending shelf entry. A run that the lock alone held ends at the attach. The account's part:
`ChargeIsConserved`. That unread since ends absent at a detach, beside ORDER_CHANGED, is log 20; the order number where a motor
fault of the same scan meets the detach is log 19. -/
def Obligations.ScanFindsDock : Prop :=
  ∀ s : State, PathOk s → ∀ start first (k : ScanCodes), s.smp.phase = .running start first →
    ∃ t r, exec (.scanCompletion k) s = .next t ∧ t.smp.table = some r
      ∧ (let attach := if 18000 ≤ r.dock then min 5 (s.chg.attach + 1) else 0
        let detach := if r.dock < 14000 then min 2 (s.chg.detach + 1) else 0
        (s.chg.state = .absent → attach < 5 →
            t.chg.state = .absent ∧ t.chg.attach = attach ∧ t.chg.detach = s.chg.detach)
          ∧ (s.chg.state = .absent → attach = 5 →
            t.chg
                = { s.chg with state := .qualify, attach := 5, detach := 0, helloTimer := some (t.now + 1000000) }
              ∧ t.noted .dockChange ∧ t.noted .chargeState ∧ t.chgg = false
              ∧ t.pwr.entry = .none ∧ (s.pwr.entry ≠ .none → t.noted .shelfRefused)
              ∧ t.suc.lock = false ∧ t.suc.pressed = s.suc.pressed
              ∧ (s.suc.pressed = true ∨ s.suc.lock = false → t.runRequest = s.runRequest)
              ∧ (s.suc.pressed = false → s.suc.lock = true →
                t.runRequest = false ∧ t.suc.target = 0 ∧ t.suc.acc = 0 ∧ t.suc.duty = 0 ∧ t.arb.gs = 0
                  ∧ (t.head.wand = true → t.head.wandOff = some (t.now + 2000000)) ∧ t.dirt.window = none
                  ∧ (t.suc.state ≠ .fault → 5000 ≤ s.suc.speed →
                    t.suc.state = .stopping ∧ t.suc.stopTimer = some (t.now + 300000) ∧ t.men = true)
                  ∧ (t.suc.state ≠ .fault → s.suc.speed < 5000 →
                    t.suc.state = .stopped ∧ t.men = false ∧ t.arb.path = .idle)))
          ∧ (s.chg.state ≠ .absent → detach < 2 →
            t.chg.state ≠ .absent ∧ t.chg.detach = detach ∧ t.chg.attach = s.chg.attach)
          ∧ (s.chg.state ≠ .absent → detach = 2 →
            let stood := s.chg.orderCur = 0 ∧ s.chg.orderCeil = s.settings.chgVcell
            t.chg
                = ⟨.absent, 0, 2, none, none, none, none, if stood then s.chg.orderNum else (s.chg.orderNum + 1) % 256, 0,
                    s.settings.chgVcell, none, none, 0, false, s.chg.latest, Bleeds.off, .none, .none⟩
              ∧ t.noted .dockChange ∧ t.noted .chargeState ∧ (¬stood → t.dockNoted .orderChanged)
              ∧ t.chgg = false ∧ t.arb.waiting = none
              ∧ (s.arb.path = .charge → s.arb.waiting = none → t.arb.path = .idle)
              ∧ (s.arb.path = .charge → s.arb.waiting = some .suction →
                t.arb.path = .discharge ∧ t.suc.state = .starting ∧ t.men = true)
              ∧ (s.arb.path ≠ .charge →
                t.arb.path ≠ .charge ∧ (t.men = s.men → t.arb.path = s.arb.path))))

/-- At a SCAN_COMPLETION that is neither attach nor detach, the work of the charge controller (08 R141, R144, R145, R147 to R155, R157;
03 R61). An invalid scan turns the bleeds off and, the third in a row, pauses a state whose temperatures are checked. A valid scan
stores its values and COLD; then, the first that applies: CELL_OVER, the temperature window, the excess count with its two faults,
the transition of the state in force; last the bleed selection in the state the scan leaves. A request for the path gives WAIT_IDLE
behind a motor that keeps it, else entry selection, which also follows when the motor's own fault of the same scan hands the path on
(01 R19; log 19). The order's number advances at each change of its current; leaving a charging state releases the path, to a
suction run that waits. The bulk current with no capability is log 30, the moment unread since keeps when the number has come round
to the read number log 38. -/
def Obligations.ScanMovesCharge : Prop :=
  ∀ s : State, PathOk s → ChargeOk s → ∀ start first (k : ScanCodes), s.smp.phase = .running start first →
    ∃ t r, exec (.scanCompletion k) s = .next t ∧ t.smp.table = some r
      ∧ ((s.chg.state = .absent ↔ t.chg.state = .absent) →
        let valid := r.validity = .valid
        let spread := r.cells.vmax - r.cells.vmin
        let below := fun (x : Option Int) (y : Int) => x.any fun z => decide (z < y)
        let cold :=
          if valid ∧ below r.tmin 11 = true then true else if valid ∧ r.tmin.any (fun z => decide (13 ≤ z)) = true then false
          else s.chg.cold
        let most := min ((s.chg.cap.map (·.current)).getD s.settings.chgI) s.settings.chgI
        let bulk := if cold = true then most / 2 else most
        let charging := s.chg.state = .precharge ∨ s.chg.state = .bulk ∨ s.chg.state = .topoff
        let windowed := charging ∨ s.chg.state = .balance
        let outside := fun tmin tmax : Option Int =>
          below tmin s.settings.chgTlo || tmax.any fun z => decide (s.settings.chgThi < z)
        let formed := if s.chg.state = .bulk then bulk else s.chg.orderCur
        let number := if formed = s.chg.orderCur then s.chg.orderNum else (s.chg.orderNum + 1) % 256
        let unread := if formed = s.chg.orderCur then s.chg.unreadSince else some (s.chg.unreadSince.getD t.now)
        let isRead := s.chg.read.any fun o => o.number == number
        let grace := s.chg.read.any fun o => o.number == number && decide (o.moment + 500000 ≤ t.now)
        let aged := unread.any fun m => decide (m + 2000000 ≤ t.now)
        let excess :=
          if valid ∧ charging then (if (formed : Int) + 300 < -r.i then min 50 (s.chg.excess + 1) else 0) else s.chg.excess
        let overcurrent := charging ∧ excess = 50 ∧ grace = true
        let unheard := charging ∧ excess = 50 ∧ grace = false ∧ isRead = false ∧ aged = true
        let cellOver := charging ∧ s.settings.chgVcell + 50 < r.cells.vmax
        let cut := cellOver ∨ (windowed ∧ (r.thermFault = true ∨ outside r.tmin r.tmax = true)) ∨ overcurrent ∨ unheard
        let lowered :=
          if valid ∧ s.chg.state = .topoff ∧ ¬cut ∧ s.settings.chgVcell ≤ r.cells.vmax then formed - 20 else formed
        let advances :=
          (if formed = s.chg.orderCur then 0 else 1) + (if lowered = formed then 0 else 1)
            + (if t.chg.orderCur = lowered then 0 else 1)
        let kept : Charger :=
          { s.chg with
            attach := t.chg.attach, detach := t.chg.detach, cold := cold
            latest :=
              if valid then some ⟨r.cells.vmin, r.cells.vmax, spread, r.tmin, r.tmax, r.thermFault⟩ else s.chg.latest
            excess := excess, orderCur := t.chg.orderCur, orderNum := (s.chg.orderNum + advances) % 256
            unreadSince := if advances = 0 then s.chg.unreadSince else some (s.chg.unreadSince.getD t.now)
            bleeds :=
              if valid ∧ (t.chg.state = .topoff ∨ t.chg.state = .balance) then selectBleeds s.settings.balDelta r.cells
              else Bleeds.off }
        let becomes := fun (c : Charger) (current : Nat) => t.chg = { c with orderCur := current }
        let paused := fun reason : PauseReason =>
          becomes { kept with state := .paused, pauseReason := reason, preTimer := none, balTimer := none, excess := 0 } 0
        let faulted := fun cause : ChargeCause =>
          becomes
              { kept with
                state := .fault, faultCause := cause, helloTimer := none, preTimer := none, balTimer := none, excess := 0 }
              0
            ∧ t.noted .chargeFault ∧ t.dockNoted .chargeFault
        let selected := fun reason : PauseReason =>
          let c := { kept with pauseReason := reason }
          (kept.latest = none → paused .scan)
            ∧ ∀ v, kept.latest = some v →
              if 3 ≤ r.invalidCount then paused .scan
              else if v.thermFault = true then paused .therm
              else if outside v.tmin v.tmax = true then paused .temp
              else if v.vmin < 3000 then
                becomes { c with state := .precharge, preTimer := some (t.now + 1800000000), excess := 0 } 150
              else becomes { c with state := .bulk, preTimer := none, excess := 0 } bulk
        let requested := fun reason : PauseReason =>
          if t.men = true then becomes { kept with state := .waitIdle, pauseReason := reason } 0 ∧ t.arb.waiting = some .charger
          else selected reason
        (¬valid → windowed → r.invalidCount = 3 → paused .scan)
          ∧ (¬valid → ¬(windowed ∧ r.invalidCount = 3) → s.chg.state ≠ .waitIdle → becomes kept s.chg.orderCur)
          ∧ (s.chg.state = .waitIdle → requested s.chg.pauseReason)
          ∧ (valid → cellOver → faulted .cellOver)
          ∧ (valid → ¬cellOver → windowed → r.thermFault = true → paused .therm)
          ∧ (valid → ¬cellOver → windowed → r.thermFault = false → outside r.tmin r.tmax = true → paused .temp)
          ∧ (valid → ¬cellOver → r.thermFault = false → outside r.tmin r.tmax = false → overcurrent → faulted .overcurrent)
          ∧ (valid → ¬cellOver → r.thermFault = false → outside r.tmin r.tmax = false → unheard → faulted .noOrderRead)
          ∧ (valid → ¬cut →
            (s.chg.state = .precharge →
                if 3000 ≤ r.cells.vmin then becomes { kept with state := .bulk, preTimer := none, excess := 0 } bulk
                else becomes kept 150)
              ∧ (s.chg.state = .bulk →
                if s.settings.chgVcell ≤ r.cells.vmax then becomes { kept with state := .topoff, excess := 0 } bulk
                else becomes kept bulk)
              ∧ (s.chg.state = .topoff →
                if s.settings.termI < lowered then becomes kept lowered
                else if s.settings.balDelta < spread then
                  becomes { kept with state := .balance, balTimer := some (t.now + 7200000000), excess := 0 } 0
                else becomes { kept with state := .done, balTimer := none, excess := 0 } 0)
              ∧ (s.chg.state = .balance →
                if spread ≤ s.settings.balDelta / 2 then becomes { kept with state := .done, balTimer := none, excess := 0 } 0
                else becomes kept 0)
              ∧ (s.chg.state = .done →
                if r.cells.vmax + s.settings.rechargeDrop < s.settings.chgVcell then requested s.chg.pauseReason
                else becomes kept 0)
              ∧ (s.chg.state = .paused →
                if r.thermFault = false ∧ (r.tmin.all fun z => decide (s.settings.chgTlo + 3 ≤ z)) = true
                    ∧ (r.tmax.all fun z => decide (z ≤ s.settings.chgThi - 3)) = true
                  then requested .none
                else becomes kept 0)
              ∧ (s.chg.state = .qualify ∨ s.chg.state = .fault ∨ s.chg.state = .absent → becomes kept 0))
          ∧ (t.chg.state ≠ s.chg.state → t.noted .chargeState) ∧ (advances ≠ 0 → t.dockNoted .orderChanged)
          ∧ (charging → t.chg.state.charging = true →
            t.arb.path = .charge ∧ t.arb.waiting = s.arb.waiting ∧ t.chgg = true)
          ∧ (charging → t.chg.state.charging = false →
            t.chgg = false ∧ t.arb.waiting = none ∧ (s.arb.waiting = none → t.arb.path = .idle)
              ∧ (s.arb.waiting = some .suction → t.arb.path = .discharge ∧ t.suc.state = .starting ∧ t.men = true)))

/-- The account at a scan's charge of `x` mA·ms (07 R124, R126, R127): no charge is lost. While Q can follow, Q and the accumulator
together move by exactly `x`; a whole mAh that Q cannot follow sets its sticky flag; the discharged count and the cycles take every
mAh removed, the session's count every mAh added. At a SCAN_COMPLETION (07 R125, R132, R134): the estimate from the open-circuit table,
which scans are integrated and at which current, the average current; and, by what the charge controller makes of the same scan, the
session of an attach (R128), the closing of a detach (R130), the full mark of an entry to DONE (R131) with its learned FCC, cycles and
discharged count, the disarming of a charge fault. That the account takes the scan before the controller's mark, opening and closing of
the same scan is the model's choice (01 R19, 07 R131; log 19). -/
def Obligations.ChargeIsConserved : Prop :=
  (∀ (x : Int) (a : Account), 0 < a.fcc → a.discharged < a.fcc → a.q ≤ a.fcc →
      let b := a.integrate x
      let moved := Int.tdiv (a.acc + x) 3600000
      b.acc = a.acc + x - moved * 3600000 ∧ b.acc.natAbs < 3600000
        ∧ (b.q : Int) = max 0 (min (a.fcc : Int) ((a.q : Int) - moved))
        ∧ b.qUnder = (a.qUnder || decide ((a.q : Int) < moved)) ∧ b.qOver = (a.qOver || decide ((a.fcc : Int) < a.q - moved))
        ∧ (a.cycles ≤ 65535 → 0 ≤ moved →
          b.discharged < b.fcc ∧ b.discharged = (a.discharged + moved.toNat) % a.fcc
            ∧ b.cycles = min 65535 (a.cycles + (a.discharged + moved.toNat) / a.fcc) ∧ b.charged = a.charged)
        ∧ (moved < 0 →
          b.discharged = a.discharged ∧ b.cycles = a.cycles
            ∧ (a.charged ≤ 65535 → b.charged = if a.session = true then min 65535 (a.charged + moved.natAbs) else a.charged))
        ∧ b.fcc = a.fcc ∧ b.session = a.session ∧ b.learning = a.learning ∧ b.iavg = a.iavg ∧ b.held = a.held
        ∧ b.lastI = a.lastI ∧ b.estPending = a.estPending ∧ b.qEstimated = a.qEstimated)
    ∧ (∀ v : Nat, (v ≤ 3300 → ocvPercent v = 0) ∧ (4150 ≤ v → ocvPercent v = 100)
      ∧ ∀ p ∈ ([(3300, 3600, 0, 20), (3600, 3750, 20, 50), (3750, 3950, 50, 80), (3950, 4150, 80, 100)]
          : List (Nat × Nat × Nat × Nat)),
        p.1 ≤ v → v ≤ p.2.1 → ocvPercent v = p.2.2.1 + (p.2.2.2 - p.2.2.1) * (v - p.1) / (p.2.1 - p.1))
    ∧ ∀ s : State, ∀ start first (k : ScanCodes), s.smp.phase = .running start first →
      ∃ t r, exec (.scanCompletion k) s = .next t ∧ t.smp.table = some r
        ∧ (let valid := r.validity = .valid
          let estimated :=
            if s.acct.estPending = true ∧ valid
              then { s.acct with q := s.acct.fcc * ocvPercent (r.cells.sum / 7) / 100, estPending := false }
            else s.acct
          let counted :=
            if first = true then (if valid then { estimated with lastI := some r.i } else estimated)
            else if valid then { estimated.integrate (r.i * r.interval) with lastI := some r.i }
            else
              match s.acct.lastI with
              | some i => { estimated.integrate (i * r.interval) with held := min 65535 (s.acct.held + 1) }
              | none => estimated
          let account :=
            if r.cadence = .slow then { counted with iavg := 0 }
            else if valid
              then { counted with iavg := ((s.acct.iavg : Int) + Int.tdiv (max 0 r.i - s.acct.iavg) 64).toNat }
            else counted
          (s.chg.state = .absent → t.chg.state ≠ .absent → t.acct = { account with session := true, charged := 0 })
            ∧ (s.chg.state ≠ .absent → t.chg.state = .absent →
              t.acct = { account with session := false, learning := account.learning && !account.session })
            ∧ (s.chg.state ≠ .fault → t.chg.state = .fault → t.acct = { account with learning := false })
            ∧ (s.chg.state ≠ .done → t.chg.state = .done →
              t.acct
                  = { account with
                      q := t.acct.fcc, acc := 0, qEstimated := false, learning := false, fcc := t.acct.fcc
                      discharged := t.acct.discharged, cycles := t.acct.cycles }
                ∧ (account.learning = false →
                  t.acct.fcc = account.fcc ∧ t.acct.discharged = account.discharged ∧ t.acct.cycles = account.cycles)
                ∧ (account.learning = true →
                  (t.acct.fcc : Int)
                    = max ((s.settings.designCap / 2 : Nat) : Int)
                      (min ((s.settings.designCap * 11 / 10 : Nat) : Int)
                        ((account.fcc : Int) + Int.tdiv ((account.charged : Int) - account.fcc) 4))
                    ∧ (0 < t.acct.fcc →
                      t.acct.discharged = account.discharged % t.acct.fcc
                        ∧ t.acct.cycles = min 65535 (account.cycles + account.discharged / t.acct.fcc))))
            ∧ ((s.chg.state = .absent ↔ t.chg.state = .absent) → (t.chg.state = .fault → s.chg.state = .fault) →
              (t.chg.state = .done → s.chg.state = .done) → t.acct = account))

/-- ALLOWANCE_COMPLETION (02 R26 to R38, R30): the stages' figures, the published value by the comparison of R36 and its cause, the
sticky flags, Rcell and the snapshot, the empty mark when the episode opens, and the recomputation; a hard stop that finds Gs above
0 raises GRANT_CUT. From 0, with the default RISE_STEP, 520 W takes 65 completions. The factor D is read from the derate curve by
R35. With nothing in flight nothing changes (log 5), and a completion that comes late does so now (log 4). -/
def Obligations.AllowancePublishes : Prop :=
  Settings.defaults.riseStep = 8
    ∧ (fun p => publishedValue p 520 8)^[65] 0 = 520 ∧ (fun p => publishedValue p 520 8)^[64] 0 < 520
    ∧ (∀ (points : List DeratePoint) (x : Int), derateOk points = true →
      (∀ p, points.head? = some p → x ≤ p.t → derateAt points x = p.d)
        ∧ (∀ p, points.getLast? = some p → p.t ≤ x → derateAt points x = p.d)
        ∧ ∀ b ∈ points.zip points.tail, b.1.t ≤ x → x < b.2.t →
          derateAt points x = b.1.d + Int.tdiv ((b.2.d - b.1.d) * (x - b.1.t)) (b.2.t - b.1.t))
    ∧ ∀ s : State,
      (s.alw.inflight = none → exec .allowanceCompletion s = .next s)
        ∧ ∀ c, s.alw.inflight = some c →
          let i := c.inputs
          ∃ t f, exec .allowanceCompletion s = .next t
            ∧ t.alw
              = { rcell := s.alw.pendingRInit.getD f.rcellAfter
                  snapshot := some ⟨i.vmean, i.i, i.iSat⟩
                  inflight := none, pendingRInit := none
                  pallow := if f.computed ≤ s.alw.pallow then f.computed else min f.computed (s.alw.pallow + i.riseStep)
                  cause := f.cause
                  ovfV := s.alw.ovfV || f.ovfV, ovfI := s.alw.ovfI || f.ovfI
                  episode := decide (f.cause = .stopVolt)
                  discards := if f.discarded = true then min 65535 (s.alw.discards + 1) else s.alw.discards
                  last := some f }
            ∧ f.inputs = i
            ∧ (i.snapshot = none → f.rnew = none ∧ f.rcellAfter = i.rcell ∧ f.discarded = false ∧ f.rclamp = false)
            ∧ (∀ p, i.snapshot = some p → p.sat = true ∨ i.iSat = true ∨ (i.i - p.i).natAbs < i.stepMin →
              f.rnew = none ∧ f.rcellAfter = i.rcell ∧ f.discarded = false ∧ f.rclamp = false)
            ∧ (∀ p, i.snapshot = some p → p.sat = false → i.iSat = false → i.stepMin ≤ (i.i - p.i).natAbs →
              let rnew := Int.tdiv (((p.vmean : Int) - i.vmean) * 10000) (i.i - p.i)
              f.rnew = some rnew
                ∧ (rnew ≤ 0 → f.rcellAfter = i.rcell ∧ f.discarded = true ∧ f.rclamp = false)
                ∧ (0 < rnew →
                  f.rcellAfter = ((i.rcell : Int) + Int.tdiv (max 50 (min 2000 rnew) - i.rcell) 8).toNat
                    ∧ f.discarded = false ∧ (f.rclamp = true ↔ rnew < 50 ∨ 2000 < rnew)))
            ∧ (let volt := i.vmin < i.vstop
              let temp := (∃ x, i.tmax = some x ∧ i.tdisHi < x) ∨ ∃ x, i.tmin = some x ∧ x < i.tdisLo
              (volt ∨ i.thermFault = true ∨ temp → f.computed = 0 ∧ f.ovfV = false ∧ f.ovfI = false ∧ f.limited = false)
                ∧ (f.cause = .stopVolt ↔ volt) ∧ (f.cause = .stopTherm ↔ ¬volt ∧ i.thermFault = true)
                ∧ (f.cause = .stopTemp ↔ ¬volt ∧ i.thermFault = false ∧ temp)
                ∧ (¬volt → i.thermFault = false → ¬temp →
                  let sag := (max 0 i.i).toNat * f.rcellAfter / 10000
                  let voc := min 4500 (i.vmin + sag)
                  let d := derateAt i.derate (i.tmax.getD 0)
                  f.sag = some sag ∧ f.voc = some voc ∧ f.headroom = some ((voc : Int) - i.vcut) ∧ f.d = some d
                    ∧ (f.ovfV = true ↔ 4500 < i.vmin + sag)
                    ∧ (voc ≤ i.vcut →
                      f.cause = .noHeadroom ∧ f.computed = 0 ∧ f.imax = none ∧ f.pmax = some 0 ∧ f.ovfI = false)
                    ∧ (i.vcut < voc →
                      let most := (voc - i.vcut) * 10000 / f.rcellAfter
                      let imax := min 40000 most
                      let pmax := imax * i.vcut * 7 / 1000000
                      f.cause = .ok ∧ f.imax = some imax ∧ (f.ovfI = true ↔ 40000 < most) ∧ f.pmax = some pmax
                        ∧ f.plim = some (min pmax i.prated) ∧ (f.limited = true ↔ i.prated < pmax)
                        ∧ f.computed = (Int.tdiv ((min pmax i.prated : Nat) * d) 256).toNat)))
            ∧ t.acct
              = (if f.cause = .stopVolt ∧ s.alw.episode = false
                  then { s.acct with q := 0, acc := 0, qEstimated := false, charged := 0, learning := true } else s.acct)
            ∧ t.arb.used = t.alw.pallow ∧ t.arb.ds = t.demandS ∧ t.arb.dh = t.demandH
            ∧ t.arb.gh = min t.demandH (t.alw.pallow * s.settings.headShare / 256)
            ∧ t.arb.gs = min t.demandS (t.alw.pallow - t.arb.gh)
            ∧ t.suc.target = min s.suc.target t.arb.gs
            ∧ (f.computed = 0 → t.arb.gs = 0 ∧ t.suc.target = 0)
            ∧ (f.cause ≠ .ok → f.cause ≠ .noHeadroom → 0 < s.arb.gs → t.noted .grantCut)
            ∧ t = { s with
                now := max s.now c.due, alw := t.alw, acct := t.acct
                arb := { s.arb with
                  ds := t.arb.ds, dh := t.arb.dh, gs := t.arb.gs, gh := t.arb.gh, shortS := t.arb.shortS
                  shortH := t.arb.shortH, used := t.arb.used }
                suc := { s.suc with target := t.suc.target, duty := t.suc.duty }
                ports := { s.ports with handleNotes := t.ports.handleNotes, wandNotes := t.ports.wandNotes }
                gens := t.gens }

/-! ## Dirt and bin (06) -/

/-- PIEZO_EDGE and WINDOW_EXPIRY (06 R100, R102 to R108): an edge 50 µs or more after the previous counted one counts, while the window
is OPEN; at an expiry the count joins the ring, and noise floor, raw index, heavy detector and effective index follow in that order,
the next window starts, and a changed effective index is handed to the arbiter. An expiry with the window CLOSED changes nothing
(log 5), and one that comes late does so now (log 4). -/
def Obligations.DirtWindow : Prop :=
  Settings.defaults.noiseMode = .auto ∧ Settings.defaults.noiseManual = 8 ∧ settingRange 27 = some (0, 1023)
    ∧ Settings.defaults.offset = 4 ∧ settingRange 28 = some (0, 255)
    ∧ Settings.defaults.gain = 16 ∧ settingRange 29 = some (1, 63)
    ∧ rawIndex 68 0 4 16 = 255
    ∧ ∀ s : State,
      (∀ dt, s.dirt.window = none ∨ (∃ p, s.dirt.lastEdge = some p ∧ s.now + dt < p + 50) →
          ∃ t, exec (.piezoEdge dt) s = .next t ∧ SameButGens t (s.elapse dt))
        ∧ (∀ dt w, s.dirt.window = some w → (∀ p, s.dirt.lastEdge = some p → p + 50 ≤ s.now + dt) →
          ∃ t, exec (.piezoEdge dt) s = .next t
            ∧ SameButGens t
              { s with
                now := s.now + dt
                dirt := { s.dirt with count := min 1023 (s.dirt.count + 1), lastEdge := some (s.now + dt) } })
        ∧ (s.dirt.window = none → exec .windowExpiry s = .next s)
        ∧ ∀ w, s.dirt.window = some w → s.dirt.ring.length ≤ 16 →
          ∃ t n, exec .windowExpiry s = .next t
            ∧ t.now = max s.now w.expiry
            ∧ t.dirt.ring = (if s.dirt.ring.length = 16 then s.dirt.ring.tail else s.dirt.ring) ++ [s.dirt.count]
            ∧ t.dirt.floorN = some n
            ∧ (s.settings.noiseMode = .manual ∨ t.dirt.ring.length < 4 → n = s.settings.noiseManual)
            ∧ (s.settings.noiseMode = .auto → 4 ≤ t.dirt.ring.length →
              n ∈ t.dirt.ring ∧ ∀ x ∈ t.dirt.ring, n ≤ x)
            ∧ t.dirt.raw
              = min 255 ((max 0 ((s.dirt.count : Int) - n - s.settings.offset)).toNat * s.settings.gain / 4)
            ∧ (s.dirt.heavy = false →
              let locks := if s.settings.heavyThr ≤ t.dirt.raw then min 15 (s.dirt.lockCount + 1) else 0
              (s.settings.heavyLock ≤ locks →
                  t.dirt.heavy = true ∧ t.dirt.lockCount = 0 ∧ t.dirt.unlockCount = 0 ∧ t.noted .heavyDirt)
                ∧ (locks < s.settings.heavyLock → t.dirt.heavy = false ∧ t.dirt.lockCount = locks
                  ∧ t.dirt.unlockCount = s.dirt.unlockCount))
            ∧ (s.dirt.heavy = true →
              let unlocks := if t.dirt.raw < s.settings.heavyThr then min 15 (s.dirt.unlockCount + 1) else 0
              (s.settings.heavyUnlock ≤ unlocks →
                  t.dirt.heavy = false ∧ t.dirt.lockCount = 0 ∧ t.dirt.unlockCount = 0)
                ∧ (unlocks < s.settings.heavyUnlock → t.dirt.heavy = true ∧ t.dirt.unlockCount = unlocks
                  ∧ t.dirt.lockCount = s.dirt.lockCount))
            ∧ t.dirt.eff = (if t.dirt.heavy = true then max t.dirt.raw s.settings.heavyFloor else t.dirt.raw)
            ∧ t.dirt.completed = min 65535 (s.dirt.completed + 1) ∧ t.dirt.count = 0
            ∧ t.dirt.window = some ⟨s.settings.win, t.now + 1000 * s.settings.win⟩ ∧ t.dirt.lastEdge = s.dirt.lastEdge
            ∧ (t.dirt.eff = s.dirt.eff → t.arb = s.arb ∧ t.suc = s.suc)
            ∧ (t.dirt.eff ≠ s.dirt.eff →
              t.arb.ds = t.demandS ∧ t.arb.gs = min t.demandS (s.alw.pallow - t.arb.gh)
                ∧ t.suc.target = min s.suc.target t.arb.gs)
            ∧ t = { s with
                now := t.now, dirt := t.dirt
                arb := { s.arb with
                  ds := t.arb.ds, dh := t.arb.dh, gs := t.arb.gs, gh := t.arb.gh, shortS := t.arb.shortS
                  shortH := t.arb.shortH, used := t.arb.used }
                suc := { s.suc with target := t.suc.target, duty := t.suc.duty }
                ports := { s.ports with handleNotes := t.ports.handleNotes, wandNotes := t.ports.wandNotes }
                gens := t.gens }

/-- LATCH_DEBOUNCE_COMPLETION (06 R111, R116, R117; 04 R71, R72): at the debounced level nothing changes; a close makes the bin UNCAL and
starts a measurement unless MEN is on; an open makes it DETACHED, without calibration, ends a measurement STALE, takes the suction
demand to 0 and turns away a run that waits or starts. -/
def Obligations.LatchDebounced : Prop :=
  ∀ s : State,
    (s.bin.latchTimer = none → exec .latchDebounceCompletion s = .next s)
      ∧ ∀ d, s.bin.latchTimer = some d →
        (s.latchLine = s.bin.closed →
            ∃ t, exec .latchDebounceCompletion s = .next t
              ∧ SameButGens t { s with now := max s.now d, bin := { s.bin with latchTimer := none } })
          ∧ (s.latchLine = true → s.bin.closed = false → s.bin.meas = none →
            ∃ t, exec .latchDebounceCompletion s = .next t
              ∧ t.bin
                = { s.bin with
                    latchTimer := none, closed := true, state := .uncal
                    meas :=
                      if s.men = true then none
                      else
                        some
                          ⟨1, s.bin.workStep, s.settings.refwin, s.settings.double, s.settings.hop, s.settings.hopTol, s.bin.lastTry⟩ }
              ∧ t.arb.ds = t.demandS ∧ t.arb.gs = min t.demandS (s.alw.pallow - t.arb.gh)
              ∧ t.arb.path = s.arb.path ∧ t.arb.waiting = s.arb.waiting ∧ t.suc.state = s.suc.state
              ∧ t = { s with
                  now := max s.now d, arb := t.arb, suc := t.suc, bin := t.bin
                  ports := { s.ports with handleNotes := t.ports.handleNotes, wandNotes := t.ports.wandNotes }
                  gens := t.gens })
          ∧ (s.latchLine = false → s.bin.closed = true → s.bin.state ≠ .detached → PathOk s →
            ∃ t, exec .latchDebounceCompletion s = .next t
              ∧ t.bin
                = { s.bin with
                    latchTimer := none, closed := false, state := .detached, cal := none, calPending := false, meas := none
                    lastResult := if s.bin.meas.isSome = true then .stale else s.bin.lastResult
                    seq := if s.bin.meas.isSome = true then (s.bin.seq + 1) % 256 else s.bin.seq }
              ∧ (s.bin.meas.isSome = true → t.noted .binDone ∧ t.dockNoted .binDone)
              ∧ t.arb.ds = 0 ∧ t.arb.gs = 0 ∧ t.suc.target = 0
              ∧ (s.suc.state = .waitPath →
                t.suc.state = .stopped ∧ t.arb.path = .charge ∧ t.arb.waiting = none ∧ t.noted .binOpen)
              ∧ (s.suc.state = .starting →
                t.suc.state = (if s.suc.speed < 5000 then .stopped else .stopping) ∧ t.noted .binOpen ∧ t.suc.duty = 0)
              ∧ (s.suc.state ≠ .waitPath → s.suc.state ≠ .starting →
                t.suc.state = s.suc.state ∧ t.arb.path = s.arb.path ∧ t.arb.waiting = s.arb.waiting)
              ∧ t.arb.suction = s.arb.suction ∧ t.arb.brush = s.arb.brush ∧ t.arb.free = s.arb.free
              ∧ t.head = s.head ∧ t.dirt = s.dirt ∧ t.acct = s.acct ∧ t.alw = s.alw ∧ t.settings = s.settings)

/-- TRY_COMPLETION (06 R112 to R114, R119 to R121): a half of 0 is DEAD; halves that differ by more than HOP_TOL hop to the next frequency
step, up to the fourth try, or end NOISY; otherwise the count is the sum of the halves, doubled under DOUBLE, held at 4095, and applied:
a baseline where the bin is UNCAL or a calibration is pending, else a fill against the baseline and the state it calls for. -/
def Obligations.TryJudged : Prop :=
  ∀ (dt h1 h2 : Nat) (s : State),
    let a := min 4095 h1
    let b := min 4095 h2
    (s.bin.meas = none → exec (.tryCompletion dt h1 h2) s = .next (s.elapse dt))
      ∧ ∀ m, s.bin.meas = some m →
        let far := m.hopTol < max a b - min a b
        let hops := far ∧ m.hop = true ∧ m.tryNo < 4
        let count := min 4095 (if m.double = true then 2 * (a + b) else a + b)
        let ended := fun (u : Bin) (result : BinResult) =>
          { u with meas := none, lastTry := some ⟨a, b⟩, lastResult := result, seq := (s.bin.seq + 1) % 256 }
        ∃ t, exec (.tryCompletion dt h1 h2) s = .next t
          ∧ (a = 0 ∨ b = 0 → t.bin = ended s.bin .dead)
          ∧ (a ≠ 0 → b ≠ 0 → hops →
            t.bin
              = { s.bin with
                  lastTry := some ⟨a, b⟩, meas := some { m with tryNo := m.tryNo + 1, step := (m.step + 1) % 4 } })
          ∧ (a ≠ 0 → b ≠ 0 → far → ¬hops → t.bin = ended s.bin .noisy)
          ∧ (a ≠ 0 → b ≠ 0 → ¬far → s.bin.state = .uncal ∨ s.bin.calPending = true →
            t.bin
              = { ended s.bin .good with
                  workStep := m.step, lastCount := some count, calPending := false, state := .ready
                  cal := some ⟨count, count * s.settings.fullRatio / 256, 0⟩ })
          ∧ (a ≠ 0 → b ≠ 0 → ¬far → s.bin.state ≠ .uncal → s.bin.calPending = false → ∀ c, s.bin.cal = some c →
            let fill := if c.baseline ≤ count then 0 else min 100 ((c.baseline - count) * 100 / (c.baseline - c.full))
            t.bin
              = { ended s.bin .good with
                  workStep := m.step, lastCount := some count, cal := some ⟨c.baseline, c.full, fill⟩
                  state :=
                    if s.bin.state = .ready ∧ s.settings.fullPct ≤ fill then .full
                    else if s.bin.state = .full ∧ fill + 10 < s.settings.fullPct then .ready
                    else s.bin.state })
          ∧ (¬hops ∨ a = 0 ∨ b = 0 → t.noted .binDone ∧ t.dockNoted .binDone)
          ∧ (s.bin.state = .ready → t.bin.state = .full → t.noted .binFull)
          ∧ (t.bin.state = s.bin.state → t.arb = s.arb ∧ t.suc = s.suc)
          ∧ (t.bin.state ≠ s.bin.state → t.arb.ds = t.demandS ∧ t.arb.gs = min t.demandS (s.alw.pallow - t.arb.gh))
          ∧ t = { s with
              now := s.now + dt, bin := t.bin
              arb := { s.arb with
                ds := t.arb.ds, dh := t.arb.dh, gs := t.arb.gs, gh := t.arb.gh, shortS := t.arb.shortS, shortH := t.arb.shortH
                used := t.arb.used }
              suc := { s.suc with target := t.suc.target, duty := t.suc.duty }
              ports := { s.ports with
                handleNotes := t.ports.handleNotes, wandNotes := t.ports.wandNotes, dockNotes := t.ports.dockNotes }
              gens := t.gens }

/-- BIN_MEASURE, from the handle and the dock link, and BIN_CAL_EMPTY (06 R115, R119): BUSY during a measurement, STATE while the suction
is not STOPPED or the bin is DETACHED, otherwise ACCEPTED with a measurement started at the working step, and a calibration pending.
BUSY and ACCEPTED carry the sequence number to come (for a BIN_CAL_EMPTY turned away, the model's choice: log 25). -/
def Obligations.BinRequests : Prop :=
  ∀ (link : Link) (dt : Nat) (tag : Byte) (s : State), PortOpen link s → link ≠ .wand →
    let number : List Byte := [BitVec.ofNat 8 ((s.bin.seq + 1) % 256)]
    let start : Measurement :=
      ⟨1, s.bin.workStep, s.settings.refwin, s.settings.double, s.settings.hop, s.settings.hopTol, s.bin.lastTry⟩
    (s.bin.meas.isSome = true →
        ∃ t, exec (.binMeasure dt link tag []) s = .next t ∧ SameButGens t ((s.arrived link dt).answers link tag .busy number))
      ∧ (s.bin.meas = none → s.suc.state ≠ .stopped ∨ s.bin.state = .detached →
        ∃ t, exec (.binMeasure dt link tag []) s = .next t ∧ SameButGens t ((s.arrived link dt).answers link tag .state []))
      ∧ (s.bin.meas = none → s.suc.state = .stopped → s.bin.state ≠ .detached →
        ∃ t, exec (.binMeasure dt link tag []) s = .next t
          ∧ SameButGens t
            ({ s.arrived link dt with bin := { s.bin with meas := some start } }.answers link tag .accepted number))
      ∧ (link = .handle →
        (s.bin.meas.isSome = true →
            ∃ t, exec (.binCalEmpty dt link tag []) s = .next t
              ∧ SameButGens t ((s.arrived link dt).answers link tag .busy number))
          ∧ (s.bin.meas = none → s.suc.state ≠ .stopped ∨ s.bin.state = .detached →
            ∃ t, exec (.binCalEmpty dt link tag []) s = .next t
              ∧ SameButGens t ((s.arrived link dt).answers link tag .state []))
          ∧ (s.bin.meas = none → s.suc.state = .stopped → s.bin.state ≠ .detached →
            ∃ t, exec (.binCalEmpty dt link tag []) s = .next t
              ∧ SameButGens t
                ({ s.arrived link dt with bin := { s.bin with meas := some start, calPending := true } }.answers link tag
                  .accepted number)))

/-! ## The floor head (05) -/

/-- HEAD_HELLO and FLOOR_REPORT (05 R91, R92, R93, R96): with the wand unpowered HEAD_HELLO is refused; an ABSENT head becomes PRESENT
with its rating held at 120 W; a PRESENT one is described afresh, and a lost floor sensor makes its floor UNKNOWN. FLOOR_REPORT needs
the sensor and sets the floor. A changed rating or floor is handed to the arbiter; that one recomputation follows where a
re-announcement changes both is the model's choice (03 R55, log 37). -/
def Obligations.HeadRequests : Prop :=
  ∀ (lo hi capability : Byte) (dt : Nat) (tag : Byte) (s : State), WireOpen .wand s →
    let info : HeadInfo := ⟨min 120 (word lo hi), capability.getLsbD 0⟩
    let code : Status := if 120 < word lo hi then .clamped else .ok
    let said := fun t : State =>
      [BitVec.ofNat 8 (if t.head.info.isSome = true then 1 else 0),
        BitVec.ofNat 8 ((t.head.info.map (·.rating)).getD 255),
        BitVec.ofNat 8 (if (t.head.info.map (·.floorSense)).getD false = true then 1 else 0),
        BitVec.ofNat 8 t.head.floor.pos, BitVec.ofNat 8 t.arb.brush.length] ++ u16 t.arb.gh
    let heard := s.atWire .wand dt
    (s.head.wand = false →
        ∃ t, exec (.headHello dt .wand tag [lo, hi, capability]) s = .next t
          ∧ SameButGens t (heard.wireAnswers .wand tag .state (said heard)))
      ∧ (s.head.wand = true → s.head.info = none →
        let present :=
          recompute
            (raiseHandle .headChange
              { heard with
                head := { s.head with info := some info, silence := some (s.now + dt + 200000), overload := 0 } })
        ∃ t, exec (.headHello dt .wand tag [lo, hi, capability]) s = .next t
          ∧ SameButGens t (present.wireAnswers .wand tag code (said present)))
      ∧ (∀ old, s.head.wand = true → s.head.info = some old →
        let floor := if old.floorSense = true ∧ info.floorSense = false then .unknown else s.head.floor
        let told : State :=
          { heard with
            head := { s.head with info := some info, floor := floor, silence := some (s.now + dt + 200000) } }
        let after := if old.rating = info.rating ∧ floor = s.head.floor then told else recompute told
        ∃ t, exec (.headHello dt .wand tag [lo, hi, capability]) s = .next t
          ∧ SameButGens t (after.wireAnswers .wand tag code (said after)))
      ∧ ∀ head, s.head.info = some head → ∀ b : Byte,
        (2 < b.toNat →
            ∃ t, exec (.floorReport dt .wand tag [b]) s = .next t
              ∧ SameButGens t (heard.wireAnswers .wand tag .badArg [BitVec.ofNat 8 s.head.floor.pos]))
          ∧ (b.toNat ≤ 2 → head.floorSense = false →
            ∃ t, exec (.floorReport dt .wand tag [b]) s = .next t
              ∧ SameButGens t (heard.wireAnswers .wand tag .state [BitVec.ofNat 8 s.head.floor.pos]))
          ∧ ∀ floor : FloorType, floor.pos = b.toNat → head.floorSense = true →
            let told : State := { heard with head := { heard.head with floor := floor } }
            let after := if floor = s.head.floor then told else recompute told
            ∃ t, exec (.floorReport dt .wand tag [b]) s = .next t
              ∧ SameButGens t (after.wireAnswers .wand tag .ok [b])

/-- SILENCE_EXPIRY and WAND_OFF_TIMER_EXPIRY (05 R90, R93, R94; 03 R51): a PRESENT head becomes ABSENT, its stack is dropped top
first, its floor is UNKNOWN and its grant 0, with HEAD_CHANGE (one recomputation follows, log 37); the wand-off timer turns the
wand power off as well. At a SCAN_COMPLETION (05 R97, R98): which scans are counted for the overload check, the limit from the
brush grant, and the overload at the tenth, which turns the wand power off and makes the head ABSENT. -/
def Obligations.HeadTimers : Prop :=
  ∀ s : State,
    (s.head.silence = none → exec .silenceExpiry s = .next s)
      ∧ (s.head.wandOff = none → exec .wandOffTimerExpiry s = .next s)
      ∧ (∀ d,
        (s.head.silence = some d → s.head.info = none →
            ∃ t, exec .silenceExpiry s = .next t
              ∧ SameButGens t { s with now := max s.now d, head := { s.head with silence := none } })
          ∧ (s.head.silence = some d → s.head.info.isSome = true →
            ∃ t, exec .silenceExpiry s = .next t
              ∧ SameButGens t
                (recompute
                  (raiseHandle .headChange
                    { s with
                      now := max s.now d
                      head := { s.head with info := none, silence := none, floor := .unknown, overload := 0 }
                      arb :=
                        { s.arb with free := (s.arb.brush.map (·.index)).reverse ++ s.arb.free, brush := [] } }))
              ∧ t.arb.dh = 0 ∧ t.arb.gh = 0)
          ∧ (s.head.wandOff = some d →
            ∃ t, exec .wandOffTimerExpiry s = .next t
              ∧ t.head
                = (if s.head.info.isSome = true
                    then
                      { s.head with
                        wand := false, wandOff := none, info := none, silence := none, floor := .unknown, overload := 0 }
                    else { s.head with wand := false, wandOff := none })
              ∧ (s.head.info.isSome = true →
                t.noted .headChange ∧ t.arb.brush = []
                  ∧ t.arb.free = (s.arb.brush.map (·.index)).reverse ++ s.arb.free)
              ∧ (s.head.info = none → t.arb.brush = s.arb.brush ∧ t.arb.free = s.arb.free)
              ∧ t.arb.dh = 0 ∧ t.arb.gh = 0 ∧ t.arb.gs = min t.demandS s.alw.pallow
              ∧ t.arb.suction = s.arb.suction ∧ t.arb.path = s.arb.path ∧ t.arb.waiting = s.arb.waiting
              ∧ t = { s with
                  now := max s.now d, smp := { s.smp with lastSwitch := t.smp.lastSwitch }, arb := t.arb
                  suc := { s.suc with target := t.suc.target, duty := t.suc.duty }, head := t.head
                  ports := { s.ports with handleNotes := t.ports.handleNotes, wandNotes := t.ports.wandNotes }
                  gens := t.gens }))
      ∧ ∀ start first (k : ScanCodes), s.smp.phase = .running start first →
        ∃ t r, exec (.scanCompletion k) s = .next t ∧ t.smp.table = some r
          ∧ (let counts :=
              r.validity = .valid ∧ r.cadence = .fast ∧ r.iSat = false ∧ r.motorSat = false ∧ 0 < r.vpack
                ∧ s.head.wand = true ∧ s.head.info.isSome = true
            let limit : Int := s.arb.gh * 1000000 / r.vpack * 5 / 4 + 300
            let count :=
              if counts then (if limit < r.i - r.motor then min 10 (s.head.overload + 1) else 0) else s.head.overload
            let cut := s.head.overload < 10 ∧ count = 10
            (cut →
                t.head = ⟨false, none, none, none, .unknown, 0⟩ ∧ t.noted .headOverload ∧ t.noted .headChange
                  ∧ t.arb.brush = [] ∧ t.arb.free = (s.arb.brush.map (·.index)).reverse ++ s.arb.free ∧ t.arb.dh = 0
                  ∧ t.arb.gh = 0)
              ∧ (¬cut →
                t.head = { s.head with overload := count, wandOff := t.head.wandOff } ∧ t.arb.brush = s.arb.brush
                  ∧ t.arb.free = s.arb.free))

/-! ## The dock (08) -/

/-- DOCK_HELLO and ORDER_READ (08 R142, R144, R145, R146): DOCK_HELLO is refused in ABSENT and FAULT, and for a voltage below 7 ×
CHG_VCELL + 1000; its current is held within 500..4000 mA. In QUALIFY it ends the HELLO timer and requests the path: WAIT_IDLE
behind the motor, else the first case of entry selection that holds; elsewhere the capability is replaced. ORDER_READ gives the
order and notes the read. The model's choices: an absent voltage capability in DOCK_HELLO's reply, in ABSENT or before a first
accepted one, reads 80000000 hex (log 12, DEDUCED), and the moment that unread since keeps when the number has come round to the
read number is log 38. The order number and unread since after an accepted DOCK_HELLO in QUALIFY are not stated. -/
def Obligations.DockRequests : Prop :=
  ∀ (ilo ihi vlo vhi : Byte) (dt : Nat) (tag : Byte) (s : State), WireOpen .dock s → PathOk s → ChargeOk s →
    let s' := s.elapse dt
    let asked := word ilo ihi
    let cap : Capability := ⟨max 500 (min 4000 asked), word vlo vhi⟩
    let code : Status := if 500 ≤ asked ∧ asked ≤ 4000 then .ok else .clamped
    let said := fun t : State =>
      [BitVec.ofNat 8 t.chg.state.pos] ++ u16 ((t.chg.cap.map (·.current)).getD 65535)
        ++ i32? (t.chg.cap.map fun c => (c.voltage : Int))
    let hello : Instr := .dockHello dt .dock tag [ilo, ihi, vlo, vhi]
    let low := 7 * s.settings.chgVcell + 1000
    let answered := fun t : State =>
      t.ports.dock.slot = .serving ∧ t.ports.dock.buf = frame (statusByte code (t.notePending .dock)) tag (said t)
    let kept := fun t : State =>
      t = { s with
        now := s.now + dt, smp := { s.smp with lastSwitch := t.smp.lastSwitch }
        arb := { s.arb with path := t.arb.path, waiting := t.arb.waiting }, chg := t.chg
        ports := { s.ports with
          dock := t.ports.dock, handleNotes := t.ports.handleNotes, dockNotes := t.ports.dockNotes }
        pwr := { s.pwr with entry := t.pwr.entry, deepTimer := t.pwr.deepTimer }, gens := t.gens }
    (s.chg.state = .absent ∨ s.chg.state = .fault →
        ∃ t, exec hello s = .next t ∧ SameButGens t (s'.wireAnswers .dock tag .state (said s)))
      ∧ (s.chg.state ≠ .absent → s.chg.state ≠ .fault → word vlo vhi < low →
        ∃ t, exec hello s = .next t ∧ SameButGens t (s'.wireAnswers .dock tag .badArg (said s)))
      ∧ (s.chg.state = .qualify → low ≤ word vlo vhi →
        ∃ t, exec hello s = .next t ∧ answered t ∧ kept t ∧ t.chg.cap = some cap ∧ t.chg.helloTimer = none
          ∧ t.noted .chargeState
          ∧ (s.arb.path = .discharge →
            t.chg.state = .waitIdle ∧ t.arb.path = .discharge ∧ t.arb.waiting = some .charger ∧ t.chg.orderCur = 0)
          ∧ (s.arb.path = .idle →
            t.pwr.entry = .none ∧ t.pwr.deepTimer = none ∧ t.arb.waiting = none
              ∧ (s.chg.latest = none ∨ 3 ≤ s.smp.invalidCount →
                t.chg.state = .paused ∧ t.chg.pauseReason = .scan ∧ t.arb.path = .idle ∧ t.chg.orderCur = 0)
              ∧ ∀ v, s.chg.latest = some v → s.smp.invalidCount < 3 →
                let outside :=
                  (∃ x, v.tmin = some x ∧ x < s.settings.chgTlo) ∨ ∃ x, v.tmax = some x ∧ s.settings.chgThi < x
                (v.thermFault = true →
                    t.chg.state = .paused ∧ t.chg.pauseReason = .therm ∧ t.arb.path = .idle ∧ t.chg.orderCur = 0)
                  ∧ (v.thermFault = false → outside →
                    t.chg.state = .paused ∧ t.chg.pauseReason = .temp ∧ t.arb.path = .idle ∧ t.chg.orderCur = 0)
                  ∧ (v.thermFault = false → ¬outside → v.vmin < 3000 →
                    t.chg.state = .precharge ∧ t.arb.path = .charge ∧ t.chgg = true ∧ t.chg.orderCur = 150
                      ∧ t.chg.preTimer = some (s.now + dt + 1800000000) ∧ t.dockNoted .orderChanged)
                  ∧ (v.thermFault = false → ¬outside → 3000 ≤ v.vmin →
                    t.chg.state = .bulk ∧ t.arb.path = .charge ∧ t.chgg = true ∧ t.chg.preTimer = none
                      ∧ t.chg.orderCur
                        = (if s.chg.cold = true then min cap.current s.settings.chgI / 2
                            else min cap.current s.settings.chgI))))
      ∧ (s.chg.state ≠ .absent → s.chg.state ≠ .fault → s.chg.state ≠ .qualify → low ≤ word vlo vhi →
        ∃ t, exec hello s = .next t ∧ answered t ∧ kept t
          ∧ t.chg
            = { s.chg with
                cap := some cap, orderCur := t.chg.orderCur, orderNum := t.chg.orderNum, unreadSince := t.chg.unreadSince }
          ∧ t.arb.path = s.arb.path ∧ t.arb.waiting = s.arb.waiting
          ∧ (s.chg.state ≠ .bulk → t.chg.orderCur = s.chg.orderCur)
          ∧ (s.chg.state = .bulk →
            t.chg.orderCur
              = (if s.chg.cold = true then min cap.current s.settings.chgI / 2 else min cap.current s.settings.chgI))
          ∧ (t.chg.orderCur = s.chg.orderCur →
            t.chg.orderNum = s.chg.orderNum ∧ t.chg.unreadSince = s.chg.unreadSince)
          ∧ (t.chg.orderCur ≠ s.chg.orderCur →
            t.chg.orderNum = (s.chg.orderNum + 1) % 256 ∧ t.dockNoted .orderChanged
              ∧ t.chg.unreadSince = some (s.chg.unreadSince.getD (s.now + dt))))
      ∧ (s.chg.state = .absent →
        ∃ t, exec (.orderRead dt .dock tag []) s = .next t ∧ SameButGens t (s'.wireAnswers .dock tag .state []))
      ∧ (s.chg.state ≠ .absent →
        ∃ t, exec (.orderRead dt .dock tag []) s = .next t
          ∧ SameButGens t
            ({ s' with
                chg := { s.chg with read := some ⟨s.chg.orderNum, s.now + dt⟩, unreadSince := none } }.wireAnswers .dock tag
              .ok
              ([BitVec.ofNat 8 s.chg.orderNum] ++ u16 s.chg.orderCur ++ u16 s.chg.orderCeil
                ++ [BitVec.ofNat 8 s.chg.state.pos, BitVec.ofNat 8 (if s.chg.cap.isSome = true then 1 else 0)])))

/-- HELLO_TIMER_EXPIRY, PRECHARGE_TIMER_EXPIRY and BALANCE_TIMER_EXPIRY (08 R143, R148, R151, R152, R156; 07 R131): the first two enter
FAULT with their cause, the timers stopped, the bleeds off, the order current 0, learning disarmed, and CHARGE_FAULT raised on both
links; the third enters DONE with the full mark, its learned FCC, cycles and discharged count. The moment unread since keeps where the
number has come round to the read number is log 38. A charging state's path is released. Out of their state the timer is only stopped. -/
def Obligations.ChargeTimers : Prop :=
  ∀ s : State, PathOk s → ChargeOk s →
    (s.chg.helloTimer = none → exec .helloTimerExpiry s = .next s)
      ∧ (s.chg.preTimer = none → exec .prechargeTimerExpiry s = .next s)
      ∧ (s.chg.balTimer = none → exec .balanceTimerExpiry s = .next s)
      ∧ ∀ d,
        let at' := max s.now d
        let ordered := fun t : State =>
          t.chg.orderCur = 0 ∧ t.chg.orderCeil = s.chg.orderCeil
            ∧ t.chg.orderNum = (if s.chg.orderCur = 0 then s.chg.orderNum else (s.chg.orderNum + 1) % 256)
            ∧ t.chg.unreadSince
              = (if s.chg.orderCur = 0 then s.chg.unreadSince else some (s.chg.unreadSince.getD at'))
            ∧ (s.chg.orderCur ≠ 0 → t.dockNoted .orderChanged)
        let faulted := fun (t : State) (cause : ChargeCause) =>
          t.chg
              = { s.chg with
                  state := .fault, faultCause := cause, helloTimer := none, preTimer := none, balTimer := none
                  bleeds := Bleeds.off, excess := 0, orderCur := t.chg.orderCur, orderCeil := t.chg.orderCeil
                  orderNum := t.chg.orderNum, unreadSince := t.chg.unreadSince }
            ∧ ordered t ∧ t.acct = { s.acct with learning := false }
            ∧ t.noted .chargeState ∧ t.noted .chargeFault ∧ t.dockNoted .chargeFault
        (s.chg.helloTimer = some d → s.chg.state ≠ .qualify →
            ∃ t, exec .helloTimerExpiry s = .next t
              ∧ SameButGens t { s with now := at', chg := { s.chg with helloTimer := none } })
          ∧ (s.chg.helloTimer = some d → s.chg.state = .qualify →
            ∃ t, exec .helloTimerExpiry s = .next t ∧ faulted t .noHello
              ∧ t = { s with
                  now := at', acct := t.acct, chg := t.chg
                  ports := { s.ports with handleNotes := t.ports.handleNotes, dockNotes := t.ports.dockNotes }
                  gens := t.gens })
          ∧ (s.chg.preTimer = some d → s.chg.state ≠ .precharge →
            ∃ t, exec .prechargeTimerExpiry s = .next t
              ∧ SameButGens t { s with now := at', chg := { s.chg with preTimer := none } })
          ∧ (s.chg.preTimer = some d → s.chg.state = .precharge →
            ∃ t, exec .prechargeTimerExpiry s = .next t ∧ faulted t .prechargeTime ∧ t.chgg = false
              ∧ t.arb.path ≠ .charge ∧ t.arb.waiting = none
              ∧ (s.arb.waiting = none → t.arb = { s.arb with path := .idle } ∧ t.suc = s.suc)
              ∧ (s.arb.waiting = some .suction →
                t.arb.path = .discharge ∧ t.suc.state = .starting ∧ t.men = true ∧ t.bin.meas = none)
              ∧ t.settings = s.settings ∧ t.alw = s.alw ∧ t.head = s.head ∧ t.dirt = s.dirt)
          ∧ (s.chg.balTimer = some d → s.chg.state ≠ .balance →
            ∃ t, exec .balanceTimerExpiry s = .next t
              ∧ SameButGens t { s with now := at', chg := { s.chg with balTimer := none } })
          ∧ (s.chg.balTimer = some d → s.chg.state = .balance →
            ∃ t, exec .balanceTimerExpiry s = .next t ∧ ordered t
              ∧ t.chg
                = { s.chg with
                    state := .done, balTimer := none, bleeds := Bleeds.off, excess := 0, orderCur := t.chg.orderCur
                    orderCeil := t.chg.orderCeil, orderNum := t.chg.orderNum, unreadSince := t.chg.unreadSince }
              ∧ t.noted .chargeState
              ∧ t.acct
                = { s.acct with
                    q := t.acct.fcc, acc := 0, qEstimated := false, learning := false, fcc := t.acct.fcc
                    discharged := t.acct.discharged, cycles := t.acct.cycles }
              ∧ (s.acct.learning = false →
                t.acct.fcc = s.acct.fcc ∧ t.acct.discharged = s.acct.discharged ∧ t.acct.cycles = s.acct.cycles)
              ∧ (s.acct.learning = true →
                (t.acct.fcc : Int)
                    = max ((s.settings.designCap / 2 : Nat) : Int)
                      (min ((s.settings.designCap * 11 / 10 : Nat) : Int)
                        ((s.acct.fcc : Int) + Int.tdiv ((s.acct.charged : Int) - s.acct.fcc) 4))
                  ∧ (0 < t.acct.fcc →
                    t.acct.discharged = s.acct.discharged % t.acct.fcc
                      ∧ t.acct.cycles = min 65535 (s.acct.cycles + s.acct.discharged / t.acct.fcc)))
              ∧ t = { s with
                  now := at', acct := t.acct, chg := t.chg
                  ports := { s.ports with handleNotes := t.ports.handleNotes, dockNotes := t.ports.dockNotes }
                  gens := t.gens })

/-- The bleed selection (08 R155): a cell bleeds exactly when it stands above Vmin + BAL_DELTA and neither neighbour that is visited
before it (a higher voltage, or the same at a lower index) bleeds. -/
def Obligations.BleedsSelected : Prop :=
  ∀ (delta : Nat) (c : Cells) (i : Nat), i < 7 →
    let v := fun n => c.toList.getD n 0
    let bleeds := fun n => (selectBleeds delta c).toList.getD n false = true
    (bleeds i
      ↔ c.vmin + delta < v i
        ∧ ∀ j, j < 7 → j = i + 1 ∨ i = j + 1 → v i < v j ∨ (v i = v j ∧ j < i) → ¬bleeds j)

/-! ## Power control (10) -/

/-- SHELF_ENTER, DEEP_DISCHARGE_TIMER_EXPIRY and SHELF_ENTRY (10 R177, R179, R180): a request is refused while the path is held or the
run request present, and else makes the entry PENDING; the deep timer makes it PENDING where it was not; a PENDING entry is carried
out with no computation and no measurement in flight and, for a REQUEST, its response delivered: every block takes its shelf values.
A handle transaction in progress is ended as though CSN had risen, a request it carries being discarded (09 R174). The deep-
discharge timer is judged at each valid scan (R179). That CHARGE_STATE is raised from ABSENT too, and that unread since ends absent,
are the model's choices (log 21, 20). -/
def Obligations.ShelfEntered : Prop :=
  ∀ (dt : Nat) (tag : Byte) (s : State),
    (HandleOpen s → s.pwr.entry = .none → s.arb.path ≠ .idle ∨ s.runRequest = true →
        ∃ t, exec (.shelfEnter dt .handle tag []) s = .next t
          ∧ SameButGens t ((s.atHandle dt).handleAnswers tag .state []))
      ∧ (HandleOpen s → s.pwr.entry ≠ .none ∨ s.arb.path = .idle ∧ s.runRequest = false →
        ∃ t, exec (.shelfEnter dt .handle tag []) s = .next t
          ∧ SameButGens t
            ({ s.atHandle dt with pwr := { s.pwr with entry := .request false } }.handleAnswers tag .accepted []))
      ∧ (s.pwr.deepTimer = none → exec .deepDischargeTimerExpiry s = .next s)
      ∧ (∀ d, s.pwr.deepTimer = some d →
        ∃ t, exec .deepDischargeTimerExpiry s = .next t
          ∧ SameButGens t
            { s with
              now := max s.now d
              pwr := { s.pwr with
                deepTimer := none, entry := if s.pwr.entry = .none then .deep else s.pwr.entry } })
      ∧ (s.pwr.awake = false ∨ s.alw.inflight.isSome = true ∨ s.bin.meas.isSome = true ∨ s.pwr.entry = .none
          ∨ s.pwr.entry = .request false →
        exec (.shelfEntry none) s = .next s)
      ∧ (∀ mosi : List Byte, s.pwr.awake = true →
        ∃ u v, exec (.handleTransaction 0 (List.replicate mosi.length 0)) s = .next u ∧ exec (.shelfEntry none) u = .next v
          ∧ exec (.shelfEntry (some mosi)) s = .next (if v.pwr.awake = true then s else v))
      ∧ (∀ start first (k : ScanCodes), s.smp.phase = .running start first →
        ∃ t r, exec (.scanCompletion k) s = .next t ∧ t.smp.table = some r
          ∧ (r.validity ≠ .valid → t.pwr.deepTimer = s.pwr.deepTimer)
          ∧ (r.validity = .valid → s.chg.state = .absent ∨ t.chg.state = s.chg.state →
            t.pwr.deepTimer
              = (if r.cells.vmin < 2500 ∧ s.arb.path = .idle ∧ s.runRequest = false
                  then some (s.pwr.deepTimer.getD (t.now + 10000000)) else none)))
      ∧ ∀ cause : ShelfCause, s.pwr.awake = true → s.alw.inflight = none → s.bin.meas = none →
        s.pwr.entry = (match cause with | .request => .request true | .deep => .deep) → s.settings.headShare ≤ 256 →
          ∃ t, exec (.shelfEntry none) s = .next t
            ∧ t.pwr = ⟨false, .none, some cause, s.pwr.wakeCause, none⟩
            ∧ t.smp.phase = .stopped ∧ t.smp.run = ⟨0, 0⟩ ∧ t.smp.offset = s.smp.offset ∧ t.smp.table = s.smp.table
            ∧ t.alw = s.alw
            ∧ t.arb = { s.arb with
                free := [0, 1, 2, 3, 4, 5, 6, 7, 8, 9], suction := [], brush := [], ds := 0, dh := 0, gs := 0, gh := 0
                shortS := false, shortH := false, used := s.alw.pallow }
            ∧ t.suc
              = { s.suc with
                  lock := false, trigTimer := none, enableAsked := false, duty := 0, target := 0, acc := 0
                  stallTimer := none, stopTimer := none }
            ∧ (s.head.info.isSome = true → t.head = ⟨false, none, none, none, .unknown, 0⟩ ∧ t.noted .headChange)
            ∧ (s.head.info = none → t.head = { s.head with wand := false, wandOff := none })
            ∧ t.dirt
              = { s.dirt with window := none, raw := 0, heavy := false, lockCount := 0, unlockCount := 0, eff := 0 }
            ∧ t.bin = { s.bin with latchTimer := none }
            ∧ t.acct
              = { s.acct with session := false, learning := s.acct.learning && !s.acct.session }
            ∧ t.chg
              = { s.chg with
                  state := .absent, attach := 0, detach := 0, helloTimer := none, preTimer := none, balTimer := none
                  cap := none, read := none, unreadSince := none, excess := 0, cold := false, bleeds := Bleeds.off
                  pauseReason := .none, orderCur := 0, orderCeil := s.settings.chgVcell, orderNum := t.chg.orderNum }
            ∧ (s.chg.orderCeil = s.settings.chgVcell →
              t.chg.orderNum = if s.chg.orderCur = 0 then s.chg.orderNum else (s.chg.orderNum + 1) % 256)
            ∧ t.noted .chargeState ∧ (s.chg.state ≠ .absent → t.noted .dockChange)
            ∧ t.ports.wand.slot = .idle ∧ t.ports.wand.buf = [] ∧ t.ports.dock.slot = .idle ∧ t.ports.dock.buf = []
            ∧ t.ports.handle = s.ports.handle ∧ t.settings = s.settings ∧ t.attn = false
            ∧ t.now = s.now ∧ t.trigLine = s.trigLine ∧ t.latchLine = s.latchLine ∧ t.choices = s.choices

/-- WAKE, and the other commands that wake the part (10 R181; 09 R174): in SHELF an edge on a wake input makes the part AWAKE with its
cause, the first scan SLOW and FIRST at once, the allowance 0 with cause INITIAL, the debounce timers running; nothing else is
reset. A request row on the handle link is a CSN fall, wakes the part and is not received (log 6); the wires receive nothing. While
AWAKE, the dock and link edges change nothing and the TRIG edge is TRIG_EDGE's. -/
def Obligations.WakeInputs : Prop :=
  ∀ (dt : Nat) (input : WakeInput) (s : State),
    let woken := fun (t : State) (cause : WakeInput) =>
      t.alw = { s.alw with pallow := 0, cause := .initial, snapshot := none, episode := false }
        ∧ t.arb.gs = 0 ∧ t.arb.gh = 0 ∧ t.arb.used = 0 ∧ t.suc.target = 0
        ∧ t.suc
          = { s.suc with
              trigTimer := some (t.now + 20000), speed := 0, lastPulse := none, target := t.suc.target, duty := t.suc.duty }
        ∧ t = { s with
            now := s.now + dt, trigLine := t.trigLine
            smp := { s.smp with cadence := .slow, phase := .resting t.now true }
            alw := t.alw, suc := t.suc
            arb := { s.arb with
              ds := t.arb.ds, dh := t.arb.dh, gs := t.arb.gs, gh := t.arb.gh, shortS := t.arb.shortS, shortH := t.arb.shortH
              used := t.arb.used }
            bin := { s.bin with latchTimer := some (t.now + 20000) }
            acct := { s.acct with lastI := none, iavg := 0 }
            chg := { s.chg with latest := none, attach := 0, detach := 0 }
            ports := { s.ports with
              handle := t.ports.handle, handleNotes := t.ports.handleNotes, wandNotes := t.ports.wandNotes }
            pwr := { s.pwr with awake := true, wakeCause := some cause }, gens := t.gens }
    (s.pwr.awake = false →
        (input = .trig → s.trigLine = false →
            (∃ t, exec (.wake dt input) s = .next t ∧ woken t .trig ∧ t.trigLine = true ∧ t.ports.handle = s.ports.handle)
              ∧ exec (.trigEdge dt) s = exec (.wake dt input) s)
          ∧ (input ≠ .trig →
            ∃ t, exec (.wake dt input) s = .next t ∧ woken t input ∧ t.trigLine = s.trigLine
              ∧ t.ports.handle = s.ports.handle)
          ∧ (input = .trig → s.trigLine = true → exec (.wake dt input) s = .next (s.elapse dt))
          ∧ (∀ mosi, ∃ t, exec (.handleTransaction dt mosi) s = .next t ∧ woken t .link ∧ t.trigLine = s.trigLine
            ∧ t.ports.handle = { s.ports.handle with sdo := List.replicate mosi.length 0#8 })
          ∧ (∀ k tag p, ∃ t, exec (ReqKind.row k dt .handle tag p) s = .next t ∧ woken t .link
            ∧ t.ports.handle = s.ports.handle)
          ∧ (∀ k link tag p, link ≠ .handle → exec (ReqKind.row k dt link tag p) s = .next (s.elapse dt))
          ∧ ∀ w bytes, exec (.frameArrival dt w bytes) s = .next (s.elapse dt))
      ∧ (s.pwr.awake = true →
        (input ≠ .trig → exec (.wake dt input) s = .next (s.elapse dt))
          ∧ (input = .trig → s.trigLine = true → exec (.wake dt input) s = .next (s.elapse dt))
          ∧ (input = .trig → s.trigLine = false → exec (.wake dt input) s = exec (.trigEdge dt) s))

/-- SOFT_RESET (10 R183 with the tables of 01 R20, 02 R39, 03 R65, 04 R88, 05 R99, 06 R110 and R123, 07 R137, 08 R159, 09 R174): what
each block takes, what is kept, and the OK response standing READY in the handle buffer. The dropped queue (log 8), the dropped
R_INIT (log 23), the order number at a changed ceiling (log 26), the motor temperature (log 24), the kept piezo edge (log 34) and
the last try of a cancelled measurement (log 35) are the model's choices. -/
def Obligations.SoftResetRestores : Prop :=
  ∀ (dt : Nat) (tag : Byte) (s : State), HandleOpen s →
    ∃ t, exec (.softReset dt .handle tag []) s = .next t
      ∧ t.now = s.now + dt
      ∧ t.smp = ⟨.slow, .resting t.now true, 0, ⟨0, 0⟩, 0, 0, none, t.smp.lastSwitch⟩
      ∧ t.alw = ⟨s.alw.rcell, none, none, none, 0, .initial, false, false, false, 0, none⟩
      ∧ t.arb = ⟨[0, 1, 2, 3, 4, 5, 6, 7, 8, 9], [], [], 0, 0, 0, 0, false, false, 0, .idle, none⟩
      ∧ t.suc
        = ⟨false, some (t.now + 20000), false, .stopped, .none, none, none, false, 0, 0, 0, 0, none, 0, none, false, 0, 0, 0,
            none⟩
      ∧ t.head = ⟨false, none, none, none, .unknown, 0⟩
      ∧ t.dirt = ⟨none, 0, 0, [], none, 0, false, 0, 0, 0, s.dirt.lastEdge⟩
      ∧ t.settings = Settings.defaults
      ∧ t.bin.closed = s.bin.closed ∧ t.bin.latchTimer = some (t.now + 20000) ∧ t.bin.meas = none
      ∧ t.bin.calPending = false ∧ t.bin.workStep = s.bin.workStep ∧ t.bin.lastCount = s.bin.lastCount
      ∧ t.bin.lastResult = s.bin.lastResult ∧ t.bin.seq = s.bin.seq
      ∧ t.bin.lastTry = (match s.bin.meas with | some m => m.priorTry | none => s.bin.lastTry)
      ∧ (s.settings.refwin = 1024 ∧ s.settings.double = false →
        t.bin.cal.map (·.baseline) = s.bin.cal.map (·.baseline)
          ∧ (s.bin.cal = none → t.bin.state = s.bin.state)
          ∧ ∀ c, s.bin.cal = some c →
            let full := c.baseline * 160 / 256
            let fill :=
              match s.bin.lastCount with
              | none => c.fill
              | some n => if c.baseline ≤ n then 0 else min 100 ((c.baseline - n) * 100 / (c.baseline - full))
            t.bin.cal = some ⟨c.baseline, full, fill⟩
              ∧ t.bin.state
                = (if s.bin.state = .ready ∧ 90 ≤ fill then .full
                    else if s.bin.state = .full ∧ fill + 10 < 90 then .ready
                    else s.bin.state)
              ∧ (s.bin.state = .ready → 90 ≤ fill → t.noted .binFull))
      ∧ (¬(s.settings.refwin = 1024 ∧ s.settings.double = false) →
        t.bin.cal = none ∧ t.bin.state = if s.bin.state = .detached then .detached else .uncal)
      ∧ t.acct.session = false ∧ t.acct.lastI = none ∧ t.acct.iavg = 0 ∧ t.acct.qUnder = false ∧ t.acct.qOver = false
      ∧ t.acct.acc = s.acct.acc ∧ t.acct.fcc = max 1250 (min 2750 s.acct.fcc) ∧ t.acct.q = min s.acct.q t.acct.fcc
      ∧ t.acct.charged = s.acct.charged ∧ t.acct.held = s.acct.held ∧ t.acct.qEstimated = s.acct.qEstimated
      ∧ t.acct.learning = (s.acct.learning && !s.acct.session) ∧ t.acct.estPending = s.acct.estPending
      ∧ t.acct.cycles = min 65535 (s.acct.cycles + s.acct.discharged / t.acct.fcc)
      ∧ t.acct.discharged = s.acct.discharged % t.acct.fcc
      ∧ t.chg
        = ⟨.absent, 0, 0, none, none, none, none, t.chg.orderNum, 0, 4200, none, none, 0, false, none, Bleeds.off, .none,
            .none⟩
      ∧ t.chg.orderNum
        = (if s.chg.orderCur = 0 then s.chg.orderNum else (s.chg.orderNum + 1) % 256)
      ∧ t.ports.handle
        = { s.ports.handle with
            slot := .answerReady, buf := frame (statusByte .ok (t.notePending .handle)) tag [], queue := [] }
      ∧ t.ports.wand = ⟨.idle, [], none, false, s.ports.wand.sent⟩
      ∧ t.ports.dock = ⟨.idle, [], none, false, s.ports.dock.sent⟩
      ∧ t.ports.wandNotes = 0 ∧ t.ports.dockNotes = 0
      ∧ (t.ports.handleNotes = 0 ∨ (t.ports.handleNotes = HandleNotice.binFull.bit ∧ t.bin.state = .full))
      ∧ t.pwr = ⟨true, .none, s.pwr.shelfCause, s.pwr.wakeCause, none⟩
      ∧ t.men = false ∧ t.chgg = false
      ∧ t.trigLine = s.trigLine ∧ t.latchLine = s.latchLine ∧ t.choices = s.choices ∧ t.pending = s.pending
end

