-- ==== Sys2Proof/Laws/State.lean ====
section
/-! SUPPORT. One lemma per field per named update of the state, so that no proof unfolds a record update. -/

namespace Sys2Proof.Machine

/-! ## The clock -/

@[simp] theorem State.elapse_now (s : State) (dt : Nat) : (s.elapse dt).now = s.now + dt := rfl
@[simp] theorem State.elapse_trigLine (s : State) (dt : Nat) : (s.elapse dt).trigLine = s.trigLine := rfl
@[simp] theorem State.elapse_latchLine (s : State) (dt : Nat) : (s.elapse dt).latchLine = s.latchLine := rfl
@[simp] theorem State.elapse_smp (s : State) (dt : Nat) : (s.elapse dt).smp = s.smp := rfl
@[simp] theorem State.elapse_alw (s : State) (dt : Nat) : (s.elapse dt).alw = s.alw := rfl
@[simp] theorem State.elapse_arb (s : State) (dt : Nat) : (s.elapse dt).arb = s.arb := rfl
@[simp] theorem State.elapse_suc (s : State) (dt : Nat) : (s.elapse dt).suc = s.suc := rfl
@[simp] theorem State.elapse_head (s : State) (dt : Nat) : (s.elapse dt).head = s.head := rfl
@[simp] theorem State.elapse_dirt (s : State) (dt : Nat) : (s.elapse dt).dirt = s.dirt := rfl
@[simp] theorem State.elapse_bin (s : State) (dt : Nat) : (s.elapse dt).bin = s.bin := rfl
@[simp] theorem State.elapse_acct (s : State) (dt : Nat) : (s.elapse dt).acct = s.acct := rfl
@[simp] theorem State.elapse_chg (s : State) (dt : Nat) : (s.elapse dt).chg = s.chg := rfl
@[simp] theorem State.elapse_ports (s : State) (dt : Nat) : (s.elapse dt).ports = s.ports := rfl
@[simp] theorem State.elapse_settings (s : State) (dt : Nat) : (s.elapse dt).settings = s.settings := rfl
@[simp] theorem State.elapse_pwr (s : State) (dt : Nat) : (s.elapse dt).pwr = s.pwr := rfl
@[simp] theorem State.elapse_gens (s : State) (dt : Nat) : (s.elapse dt).gens = s.gens := rfl
@[simp] theorem State.elapse_choices (s : State) (dt : Nat) : (s.elapse dt).choices = s.choices := rfl
@[simp] theorem State.elapse_pending (s : State) (dt : Nat) : (s.elapse dt).pending = s.pending := rfl

@[simp] theorem State.reach_now (s : State) (d : Nat) : (s.reach d).now = max s.now d := rfl
@[simp] theorem State.reach_trigLine (s : State) (d : Nat) : (s.reach d).trigLine = s.trigLine := rfl
@[simp] theorem State.reach_latchLine (s : State) (d : Nat) : (s.reach d).latchLine = s.latchLine := rfl
@[simp] theorem State.reach_smp (s : State) (d : Nat) : (s.reach d).smp = s.smp := rfl
@[simp] theorem State.reach_alw (s : State) (d : Nat) : (s.reach d).alw = s.alw := rfl
@[simp] theorem State.reach_arb (s : State) (d : Nat) : (s.reach d).arb = s.arb := rfl
@[simp] theorem State.reach_suc (s : State) (d : Nat) : (s.reach d).suc = s.suc := rfl
@[simp] theorem State.reach_head (s : State) (d : Nat) : (s.reach d).head = s.head := rfl
@[simp] theorem State.reach_dirt (s : State) (d : Nat) : (s.reach d).dirt = s.dirt := rfl
@[simp] theorem State.reach_bin (s : State) (d : Nat) : (s.reach d).bin = s.bin := rfl
@[simp] theorem State.reach_acct (s : State) (d : Nat) : (s.reach d).acct = s.acct := rfl
@[simp] theorem State.reach_chg (s : State) (d : Nat) : (s.reach d).chg = s.chg := rfl
@[simp] theorem State.reach_ports (s : State) (d : Nat) : (s.reach d).ports = s.ports := rfl
@[simp] theorem State.reach_settings (s : State) (d : Nat) : (s.reach d).settings = s.settings := rfl
@[simp] theorem State.reach_pwr (s : State) (d : Nat) : (s.reach d).pwr = s.pwr := rfl
@[simp] theorem State.reach_gens (s : State) (d : Nat) : (s.reach d).gens = s.gens := rfl
@[simp] theorem State.reach_choices (s : State) (d : Nat) : (s.reach d).choices = s.choices := rfl
@[simp] theorem State.reach_pending (s : State) (d : Nat) : (s.reach d).pending = s.pending := rfl

/-! ## Notices and power control -/

@[simp] theorem raiseHandle_now (n : HandleNotice) (s : State) : (raiseHandle n s).now = s.now := rfl
@[simp] theorem raiseHandle_trigLine (n : HandleNotice) (s : State) : (raiseHandle n s).trigLine = s.trigLine := rfl
@[simp] theorem raiseHandle_latchLine (n : HandleNotice) (s : State) : (raiseHandle n s).latchLine = s.latchLine := rfl
@[simp] theorem raiseHandle_smp (n : HandleNotice) (s : State) : (raiseHandle n s).smp = s.smp := rfl
@[simp] theorem raiseHandle_alw (n : HandleNotice) (s : State) : (raiseHandle n s).alw = s.alw := rfl
@[simp] theorem raiseHandle_arb (n : HandleNotice) (s : State) : (raiseHandle n s).arb = s.arb := rfl
@[simp] theorem raiseHandle_suc (n : HandleNotice) (s : State) : (raiseHandle n s).suc = s.suc := rfl
@[simp] theorem raiseHandle_head (n : HandleNotice) (s : State) : (raiseHandle n s).head = s.head := rfl
@[simp] theorem raiseHandle_dirt (n : HandleNotice) (s : State) : (raiseHandle n s).dirt = s.dirt := rfl
@[simp] theorem raiseHandle_bin (n : HandleNotice) (s : State) : (raiseHandle n s).bin = s.bin := rfl
@[simp] theorem raiseHandle_acct (n : HandleNotice) (s : State) : (raiseHandle n s).acct = s.acct := rfl
@[simp] theorem raiseHandle_chg (n : HandleNotice) (s : State) : (raiseHandle n s).chg = s.chg := rfl
@[simp] theorem raiseHandle_ports (n : HandleNotice) (s : State) :
    (raiseHandle n s).ports = { s.ports with handleNotes := s.ports.handleNotes ||| n.bit } := rfl
@[simp] theorem raiseHandle_settings (n : HandleNotice) (s : State) : (raiseHandle n s).settings = s.settings := rfl
@[simp] theorem raiseHandle_pwr (n : HandleNotice) (s : State) : (raiseHandle n s).pwr = s.pwr := rfl
@[simp] theorem raiseHandle_gens (n : HandleNotice) (s : State) : (raiseHandle n s).gens = s.gens := rfl
@[simp] theorem raiseHandle_choices (n : HandleNotice) (s : State) : (raiseHandle n s).choices = s.choices := rfl
@[simp] theorem raiseHandle_pending (n : HandleNotice) (s : State) : (raiseHandle n s).pending = s.pending := rfl

@[simp] theorem raiseWand_now (s : State) : (raiseWand s).now = s.now := rfl
@[simp] theorem raiseWand_trigLine (s : State) : (raiseWand s).trigLine = s.trigLine := rfl
@[simp] theorem raiseWand_latchLine (s : State) : (raiseWand s).latchLine = s.latchLine := rfl
@[simp] theorem raiseWand_smp (s : State) : (raiseWand s).smp = s.smp := rfl
@[simp] theorem raiseWand_alw (s : State) : (raiseWand s).alw = s.alw := rfl
@[simp] theorem raiseWand_arb (s : State) : (raiseWand s).arb = s.arb := rfl
@[simp] theorem raiseWand_suc (s : State) : (raiseWand s).suc = s.suc := rfl
@[simp] theorem raiseWand_head (s : State) : (raiseWand s).head = s.head := rfl
@[simp] theorem raiseWand_dirt (s : State) : (raiseWand s).dirt = s.dirt := rfl
@[simp] theorem raiseWand_bin (s : State) : (raiseWand s).bin = s.bin := rfl
@[simp] theorem raiseWand_acct (s : State) : (raiseWand s).acct = s.acct := rfl
@[simp] theorem raiseWand_chg (s : State) : (raiseWand s).chg = s.chg := rfl
@[simp] theorem raiseWand_ports (s : State) : (raiseWand s).ports = { s.ports with wandNotes := 1#1 } := rfl
@[simp] theorem raiseWand_settings (s : State) : (raiseWand s).settings = s.settings := rfl
@[simp] theorem raiseWand_pwr (s : State) : (raiseWand s).pwr = s.pwr := rfl
@[simp] theorem raiseWand_gens (s : State) : (raiseWand s).gens = s.gens := rfl
@[simp] theorem raiseWand_choices (s : State) : (raiseWand s).choices = s.choices := rfl
@[simp] theorem raiseWand_pending (s : State) : (raiseWand s).pending = s.pending := rfl

@[simp] theorem raiseDock_now (n : DockNotice) (s : State) : (raiseDock n s).now = s.now := rfl
@[simp] theorem raiseDock_trigLine (n : DockNotice) (s : State) : (raiseDock n s).trigLine = s.trigLine := rfl
@[simp] theorem raiseDock_latchLine (n : DockNotice) (s : State) : (raiseDock n s).latchLine = s.latchLine := rfl
@[simp] theorem raiseDock_smp (n : DockNotice) (s : State) : (raiseDock n s).smp = s.smp := rfl
@[simp] theorem raiseDock_alw (n : DockNotice) (s : State) : (raiseDock n s).alw = s.alw := rfl
@[simp] theorem raiseDock_arb (n : DockNotice) (s : State) : (raiseDock n s).arb = s.arb := rfl
@[simp] theorem raiseDock_suc (n : DockNotice) (s : State) : (raiseDock n s).suc = s.suc := rfl
@[simp] theorem raiseDock_head (n : DockNotice) (s : State) : (raiseDock n s).head = s.head := rfl
@[simp] theorem raiseDock_dirt (n : DockNotice) (s : State) : (raiseDock n s).dirt = s.dirt := rfl
@[simp] theorem raiseDock_bin (n : DockNotice) (s : State) : (raiseDock n s).bin = s.bin := rfl
@[simp] theorem raiseDock_acct (n : DockNotice) (s : State) : (raiseDock n s).acct = s.acct := rfl
@[simp] theorem raiseDock_chg (n : DockNotice) (s : State) : (raiseDock n s).chg = s.chg := rfl
@[simp] theorem raiseDock_ports (n : DockNotice) (s : State) :
    (raiseDock n s).ports = { s.ports with dockNotes := s.ports.dockNotes ||| n.bit } := rfl
@[simp] theorem raiseDock_settings (n : DockNotice) (s : State) : (raiseDock n s).settings = s.settings := rfl
@[simp] theorem raiseDock_pwr (n : DockNotice) (s : State) : (raiseDock n s).pwr = s.pwr := rfl
@[simp] theorem raiseDock_gens (n : DockNotice) (s : State) : (raiseDock n s).gens = s.gens := rfl
@[simp] theorem raiseDock_choices (n : DockNotice) (s : State) : (raiseDock n s).choices = s.choices := rfl
@[simp] theorem raiseDock_pending (n : DockNotice) (s : State) : (raiseDock n s).pending = s.pending := rfl

@[simp] theorem stopDeepTimer_now (s : State) : (stopDeepTimer s).now = s.now := rfl
@[simp] theorem stopDeepTimer_trigLine (s : State) : (stopDeepTimer s).trigLine = s.trigLine := rfl
@[simp] theorem stopDeepTimer_latchLine (s : State) : (stopDeepTimer s).latchLine = s.latchLine := rfl
@[simp] theorem stopDeepTimer_smp (s : State) : (stopDeepTimer s).smp = s.smp := rfl
@[simp] theorem stopDeepTimer_alw (s : State) : (stopDeepTimer s).alw = s.alw := rfl
@[simp] theorem stopDeepTimer_arb (s : State) : (stopDeepTimer s).arb = s.arb := rfl
@[simp] theorem stopDeepTimer_suc (s : State) : (stopDeepTimer s).suc = s.suc := rfl
@[simp] theorem stopDeepTimer_head (s : State) : (stopDeepTimer s).head = s.head := rfl
@[simp] theorem stopDeepTimer_dirt (s : State) : (stopDeepTimer s).dirt = s.dirt := rfl
@[simp] theorem stopDeepTimer_bin (s : State) : (stopDeepTimer s).bin = s.bin := rfl
@[simp] theorem stopDeepTimer_acct (s : State) : (stopDeepTimer s).acct = s.acct := rfl
@[simp] theorem stopDeepTimer_chg (s : State) : (stopDeepTimer s).chg = s.chg := rfl
@[simp] theorem stopDeepTimer_ports (s : State) : (stopDeepTimer s).ports = s.ports := rfl
@[simp] theorem stopDeepTimer_settings (s : State) : (stopDeepTimer s).settings = s.settings := rfl
@[simp] theorem stopDeepTimer_pwr (s : State) : (stopDeepTimer s).pwr = { s.pwr with deepTimer := none } := rfl
@[simp] theorem stopDeepTimer_gens (s : State) : (stopDeepTimer s).gens = s.gens := rfl
@[simp] theorem stopDeepTimer_choices (s : State) : (stopDeepTimer s).choices = s.choices := rfl
@[simp] theorem stopDeepTimer_pending (s : State) : (stopDeepTimer s).pending = s.pending := rfl

@[simp] theorem cancelShelf_now (s : State) : (cancelShelf s).now = s.now := by unfold cancelShelf; split <;> rfl
@[simp] theorem cancelShelf_trigLine (s : State) : (cancelShelf s).trigLine = s.trigLine := by unfold cancelShelf; split <;> rfl
@[simp] theorem cancelShelf_latchLine (s : State) :
    (cancelShelf s).latchLine = s.latchLine := by unfold cancelShelf; split <;> rfl
@[simp] theorem cancelShelf_smp (s : State) : (cancelShelf s).smp = s.smp := by unfold cancelShelf; split <;> rfl
@[simp] theorem cancelShelf_alw (s : State) : (cancelShelf s).alw = s.alw := by unfold cancelShelf; split <;> rfl
@[simp] theorem cancelShelf_arb (s : State) : (cancelShelf s).arb = s.arb := by unfold cancelShelf; split <;> rfl
@[simp] theorem cancelShelf_suc (s : State) : (cancelShelf s).suc = s.suc := by unfold cancelShelf; split <;> rfl
@[simp] theorem cancelShelf_head (s : State) : (cancelShelf s).head = s.head := by unfold cancelShelf; split <;> rfl
@[simp] theorem cancelShelf_dirt (s : State) : (cancelShelf s).dirt = s.dirt := by unfold cancelShelf; split <;> rfl
@[simp] theorem cancelShelf_bin (s : State) : (cancelShelf s).bin = s.bin := by unfold cancelShelf; split <;> rfl
@[simp] theorem cancelShelf_acct (s : State) : (cancelShelf s).acct = s.acct := by unfold cancelShelf; split <;> rfl
@[simp] theorem cancelShelf_chg (s : State) : (cancelShelf s).chg = s.chg := by unfold cancelShelf; split <;> rfl
@[simp] theorem cancelShelf_settings (s : State) : (cancelShelf s).settings = s.settings := by unfold cancelShelf; split <;> rfl
@[simp] theorem cancelShelf_gens (s : State) : (cancelShelf s).gens = s.gens := by unfold cancelShelf; split <;> rfl
@[simp] theorem cancelShelf_choices (s : State) : (cancelShelf s).choices = s.choices := by unfold cancelShelf; split <;> rfl
@[simp] theorem cancelShelf_pending (s : State) : (cancelShelf s).pending = s.pending := by unfold cancelShelf; split <;> rfl

@[simp] theorem cancelShelf_pwr (s : State) :
    (cancelShelf s).pwr = { s.pwr with entry := .none } := by
  unfold cancelShelf; split
  · rename_i h; simp [← h]
  · rfl

/-! ## Ports -/

@[simp] theorem State.setWire_now (s : State) (w : Wire) (p : WirePort) : (s.setWire w p).now = s.now := by cases w <;> rfl
@[simp] theorem State.setWire_trigLine (s : State) (w : Wire) (p : WirePort) :
    (s.setWire w p).trigLine = s.trigLine := by cases w <;> rfl
@[simp] theorem State.setWire_latchLine (s : State) (w : Wire) (p : WirePort) :
    (s.setWire w p).latchLine = s.latchLine := by cases w <;> rfl
@[simp] theorem State.setWire_smp (s : State) (w : Wire) (p : WirePort) : (s.setWire w p).smp = s.smp := by cases w <;> rfl
@[simp] theorem State.setWire_alw (s : State) (w : Wire) (p : WirePort) : (s.setWire w p).alw = s.alw := by cases w <;> rfl
@[simp] theorem State.setWire_arb (s : State) (w : Wire) (p : WirePort) : (s.setWire w p).arb = s.arb := by cases w <;> rfl
@[simp] theorem State.setWire_suc (s : State) (w : Wire) (p : WirePort) : (s.setWire w p).suc = s.suc := by cases w <;> rfl
@[simp] theorem State.setWire_head (s : State) (w : Wire) (p : WirePort) : (s.setWire w p).head = s.head := by cases w <;> rfl
@[simp] theorem State.setWire_dirt (s : State) (w : Wire) (p : WirePort) : (s.setWire w p).dirt = s.dirt := by cases w <;> rfl
@[simp] theorem State.setWire_bin (s : State) (w : Wire) (p : WirePort) : (s.setWire w p).bin = s.bin := by cases w <;> rfl
@[simp] theorem State.setWire_acct (s : State) (w : Wire) (p : WirePort) : (s.setWire w p).acct = s.acct := by cases w <;> rfl
@[simp] theorem State.setWire_chg (s : State) (w : Wire) (p : WirePort) : (s.setWire w p).chg = s.chg := by cases w <;> rfl
@[simp] theorem State.setWire_settings (s : State) (w : Wire) (p : WirePort) :
    (s.setWire w p).settings = s.settings := by cases w <;> rfl
@[simp] theorem State.setWire_pwr (s : State) (w : Wire) (p : WirePort) : (s.setWire w p).pwr = s.pwr := by cases w <;> rfl
@[simp] theorem State.setWire_gens (s : State) (w : Wire) (p : WirePort) : (s.setWire w p).gens = s.gens := by cases w <;> rfl
@[simp] theorem State.setWire_choices (s : State) (w : Wire) (p : WirePort) :
    (s.setWire w p).choices = s.choices := by cases w <;> rfl
@[simp] theorem State.setWire_pending (s : State) (w : Wire) (p : WirePort) :
    (s.setWire w p).pending = s.pending := by cases w <;> rfl

@[simp] theorem State.setWire_wirePort (s : State) (w : Wire) (p : WirePort) :
    (s.setWire w p).wirePort w = p := by cases w <;> rfl

@[simp] theorem shelfDelivered_now (s : State) : (shelfDelivered s).now = s.now := by unfold shelfDelivered; split <;> rfl
@[simp] theorem shelfDelivered_trigLine (s : State) :
    (shelfDelivered s).trigLine = s.trigLine := by unfold shelfDelivered; split <;> rfl
@[simp] theorem shelfDelivered_latchLine (s : State) :
    (shelfDelivered s).latchLine = s.latchLine := by unfold shelfDelivered; split <;> rfl
@[simp] theorem shelfDelivered_smp (s : State) : (shelfDelivered s).smp = s.smp := by unfold shelfDelivered; split <;> rfl
@[simp] theorem shelfDelivered_alw (s : State) : (shelfDelivered s).alw = s.alw := by unfold shelfDelivered; split <;> rfl
@[simp] theorem shelfDelivered_arb (s : State) : (shelfDelivered s).arb = s.arb := by unfold shelfDelivered; split <;> rfl
@[simp] theorem shelfDelivered_suc (s : State) : (shelfDelivered s).suc = s.suc := by unfold shelfDelivered; split <;> rfl
@[simp] theorem shelfDelivered_head (s : State) : (shelfDelivered s).head = s.head := by unfold shelfDelivered; split <;> rfl
@[simp] theorem shelfDelivered_dirt (s : State) : (shelfDelivered s).dirt = s.dirt := by unfold shelfDelivered; split <;> rfl
@[simp] theorem shelfDelivered_bin (s : State) : (shelfDelivered s).bin = s.bin := by unfold shelfDelivered; split <;> rfl
@[simp] theorem shelfDelivered_acct (s : State) : (shelfDelivered s).acct = s.acct := by unfold shelfDelivered; split <;> rfl
@[simp] theorem shelfDelivered_chg (s : State) : (shelfDelivered s).chg = s.chg := by unfold shelfDelivered; split <;> rfl
@[simp] theorem shelfDelivered_ports (s : State) : (shelfDelivered s).ports = s.ports := by unfold shelfDelivered; split <;> rfl
@[simp] theorem shelfDelivered_settings (s : State) :
    (shelfDelivered s).settings = s.settings := by unfold shelfDelivered; split <;> rfl
@[simp] theorem shelfDelivered_gens (s : State) : (shelfDelivered s).gens = s.gens := by unfold shelfDelivered; split <;> rfl
@[simp] theorem shelfDelivered_choices (s : State) :
    (shelfDelivered s).choices = s.choices := by unfold shelfDelivered; split <;> rfl
@[simp] theorem shelfDelivered_pending (s : State) :
    (shelfDelivered s).pending = s.pending := by unfold shelfDelivered; split <;> rfl

@[simp] theorem replaceAnswer_now (s : State) : (replaceAnswer s).now = s.now := by unfold replaceAnswer; split <;> simp
@[simp] theorem replaceAnswer_trigLine (s : State) :
    (replaceAnswer s).trigLine = s.trigLine := by unfold replaceAnswer; split <;> simp
@[simp] theorem replaceAnswer_latchLine (s : State) :
    (replaceAnswer s).latchLine = s.latchLine := by unfold replaceAnswer; split <;> simp
@[simp] theorem replaceAnswer_smp (s : State) : (replaceAnswer s).smp = s.smp := by unfold replaceAnswer; split <;> simp
@[simp] theorem replaceAnswer_alw (s : State) : (replaceAnswer s).alw = s.alw := by unfold replaceAnswer; split <;> simp
@[simp] theorem replaceAnswer_arb (s : State) : (replaceAnswer s).arb = s.arb := by unfold replaceAnswer; split <;> simp
@[simp] theorem replaceAnswer_suc (s : State) : (replaceAnswer s).suc = s.suc := by unfold replaceAnswer; split <;> simp
@[simp] theorem replaceAnswer_head (s : State) : (replaceAnswer s).head = s.head := by unfold replaceAnswer; split <;> simp
@[simp] theorem replaceAnswer_dirt (s : State) : (replaceAnswer s).dirt = s.dirt := by unfold replaceAnswer; split <;> simp
@[simp] theorem replaceAnswer_bin (s : State) : (replaceAnswer s).bin = s.bin := by unfold replaceAnswer; split <;> simp
@[simp] theorem replaceAnswer_acct (s : State) : (replaceAnswer s).acct = s.acct := by unfold replaceAnswer; split <;> simp
@[simp] theorem replaceAnswer_chg (s : State) : (replaceAnswer s).chg = s.chg := by unfold replaceAnswer; split <;> simp
@[simp] theorem replaceAnswer_ports (s : State) : (replaceAnswer s).ports = s.ports := by unfold replaceAnswer; split <;> simp
@[simp] theorem replaceAnswer_settings (s : State) :
    (replaceAnswer s).settings = s.settings := by unfold replaceAnswer; split <;> simp
@[simp] theorem replaceAnswer_gens (s : State) : (replaceAnswer s).gens = s.gens := by unfold replaceAnswer; split <;> simp
@[simp] theorem replaceAnswer_choices (s : State) :
    (replaceAnswer s).choices = s.choices := by unfold replaceAnswer; split <;> simp
@[simp] theorem replaceAnswer_pending (s : State) :
    (replaceAnswer s).pending = s.pending := by unfold replaceAnswer; split <;> simp

@[simp] theorem hear_now (w : Wire) (s : State) : (hear w s).now = s.now := by unfold hear; split <;> rfl
@[simp] theorem hear_trigLine (w : Wire) (s : State) : (hear w s).trigLine = s.trigLine := by unfold hear; split <;> rfl
@[simp] theorem hear_latchLine (w : Wire) (s : State) : (hear w s).latchLine = s.latchLine := by unfold hear; split <;> rfl
@[simp] theorem hear_smp (w : Wire) (s : State) : (hear w s).smp = s.smp := by unfold hear; split <;> rfl
@[simp] theorem hear_alw (w : Wire) (s : State) : (hear w s).alw = s.alw := by unfold hear; split <;> rfl
@[simp] theorem hear_arb (w : Wire) (s : State) : (hear w s).arb = s.arb := by unfold hear; split <;> rfl
@[simp] theorem hear_suc (w : Wire) (s : State) : (hear w s).suc = s.suc := by unfold hear; split <;> rfl
@[simp] theorem hear_dirt (w : Wire) (s : State) : (hear w s).dirt = s.dirt := by unfold hear; split <;> rfl
@[simp] theorem hear_bin (w : Wire) (s : State) : (hear w s).bin = s.bin := by unfold hear; split <;> rfl
@[simp] theorem hear_acct (w : Wire) (s : State) : (hear w s).acct = s.acct := by unfold hear; split <;> rfl
@[simp] theorem hear_chg (w : Wire) (s : State) : (hear w s).chg = s.chg := by unfold hear; split <;> rfl
@[simp] theorem hear_ports (w : Wire) (s : State) : (hear w s).ports = s.ports := by unfold hear; split <;> rfl
@[simp] theorem hear_settings (w : Wire) (s : State) : (hear w s).settings = s.settings := by unfold hear; split <;> rfl
@[simp] theorem hear_pwr (w : Wire) (s : State) : (hear w s).pwr = s.pwr := by unfold hear; split <;> rfl
@[simp] theorem hear_gens (w : Wire) (s : State) : (hear w s).gens = s.gens := by unfold hear; split <;> rfl
@[simp] theorem hear_choices (w : Wire) (s : State) : (hear w s).choices = s.choices := by unfold hear; split <;> rfl
@[simp] theorem hear_pending (w : Wire) (s : State) : (hear w s).pending = s.pending := by unfold hear; split <;> rfl

/-! ## Events -/

@[simp] theorem event_now (f : State → State) (s : State) : (event f s).now = (f s).now := rfl
@[simp] theorem event_trigLine (f : State → State) (s : State) : (event f s).trigLine = (f s).trigLine := rfl
@[simp] theorem event_latchLine (f : State → State) (s : State) : (event f s).latchLine = (f s).latchLine := rfl
@[simp] theorem event_smp (f : State → State) (s : State) :
    (event f s).smp = { (f s).smp with lastSwitch := if (f s).switches = s.switches then (f s).smp.lastSwitch else some (f s).now } := rfl
@[simp] theorem event_alw (f : State → State) (s : State) : (event f s).alw = (f s).alw := rfl
@[simp] theorem event_arb (f : State → State) (s : State) : (event f s).arb = (f s).arb := rfl
@[simp] theorem event_suc (f : State → State) (s : State) : (event f s).suc = (f s).suc := rfl
@[simp] theorem event_head (f : State → State) (s : State) : (event f s).head = (f s).head := rfl
@[simp] theorem event_dirt (f : State → State) (s : State) : (event f s).dirt = (f s).dirt := rfl
@[simp] theorem event_bin (f : State → State) (s : State) : (event f s).bin = (f s).bin := rfl
@[simp] theorem event_acct (f : State → State) (s : State) : (event f s).acct = (f s).acct := rfl
@[simp] theorem event_chg (f : State → State) (s : State) : (event f s).chg = (f s).chg := rfl
@[simp] theorem event_ports (f : State → State) (s : State) : (event f s).ports = (f s).ports := rfl
@[simp] theorem event_settings (f : State → State) (s : State) : (event f s).settings = (f s).settings := rfl
@[simp] theorem event_pwr (f : State → State) (s : State) : (event f s).pwr = (f s).pwr := rfl
@[simp] theorem event_gens (f : State → State) (s : State) :
    (event f s).gens = nextGenerations { s with now := (f s).now } (f s) := rfl
@[simp] theorem event_choices (f : State → State) (s : State) : (event f s).choices = (f s).choices := rfl
@[simp] theorem event_pending (f : State → State) (s : State) : (event f s).pending = (f s).pending := rfl

/-! ## The CELLS record's own event -/

@[simp] theorem bleedEvent_now (b : Bleeds) (s : State) : (bleedEvent b s).now = s.now := by
  unfold bleedEvent; split <;> rfl
@[simp] theorem bleedEvent_trigLine (b : Bleeds) (s : State) : (bleedEvent b s).trigLine = s.trigLine := by
  unfold bleedEvent; split <;> rfl
@[simp] theorem bleedEvent_latchLine (b : Bleeds) (s : State) : (bleedEvent b s).latchLine = s.latchLine := by
  unfold bleedEvent; split <;> rfl
@[simp] theorem bleedEvent_smp (b : Bleeds) (s : State) : (bleedEvent b s).smp = s.smp := by
  unfold bleedEvent; split <;> rfl
@[simp] theorem bleedEvent_alw (b : Bleeds) (s : State) : (bleedEvent b s).alw = s.alw := by
  unfold bleedEvent; split <;> rfl
@[simp] theorem bleedEvent_arb (b : Bleeds) (s : State) : (bleedEvent b s).arb = s.arb := by
  unfold bleedEvent; split <;> rfl
@[simp] theorem bleedEvent_suc (b : Bleeds) (s : State) : (bleedEvent b s).suc = s.suc := by
  unfold bleedEvent; split <;> rfl
@[simp] theorem bleedEvent_head (b : Bleeds) (s : State) : (bleedEvent b s).head = s.head := by
  unfold bleedEvent; split <;> rfl
@[simp] theorem bleedEvent_dirt (b : Bleeds) (s : State) : (bleedEvent b s).dirt = s.dirt := by
  unfold bleedEvent; split <;> rfl
@[simp] theorem bleedEvent_bin (b : Bleeds) (s : State) : (bleedEvent b s).bin = s.bin := by
  unfold bleedEvent; split <;> rfl
@[simp] theorem bleedEvent_acct (b : Bleeds) (s : State) : (bleedEvent b s).acct = s.acct := by
  unfold bleedEvent; split <;> rfl
@[simp] theorem bleedEvent_chg (b : Bleeds) (s : State) : (bleedEvent b s).chg = s.chg := by
  unfold bleedEvent; split <;> rfl
@[simp] theorem bleedEvent_ports (b : Bleeds) (s : State) : (bleedEvent b s).ports = s.ports := by
  unfold bleedEvent; split <;> rfl
@[simp] theorem bleedEvent_settings (b : Bleeds) (s : State) : (bleedEvent b s).settings = s.settings := by
  unfold bleedEvent; split <;> rfl
@[simp] theorem bleedEvent_pwr (b : Bleeds) (s : State) : (bleedEvent b s).pwr = s.pwr := by
  unfold bleedEvent; split <;> rfl
@[simp] theorem bleedEvent_choices (b : Bleeds) (s : State) : (bleedEvent b s).choices = s.choices := by
  unfold bleedEvent; split <;> rfl
@[simp] theorem bleedEvent_pending (b : Bleeds) (s : State) : (bleedEvent b s).pending = s.pending := by
  unfold bleedEvent; split <;> rfl
@[simp] theorem bleedEvent_gens (b : Bleeds) (s : State) :
    (bleedEvent b s).gens = if s.chg.bleeds = b then s.gens else { s.gens with cells := s.gens.cells + 1#8 } := by
  unfold bleedEvent; split <;> rfl

/-! ## Recomputations -/

@[simp] theorem recompute_now (s : State) :
    (recompute s).now = s.now := by
  simp only [recompute, raiseCuts]; split <;> split <;> rfl
@[simp] theorem recompute_trigLine (s : State) :
    (recompute s).trigLine = s.trigLine := by
  simp only [recompute, raiseCuts]; split <;> split <;> rfl
@[simp] theorem recompute_latchLine (s : State) :
    (recompute s).latchLine = s.latchLine := by
  simp only [recompute, raiseCuts]; split <;> split <;> rfl
@[simp] theorem recompute_smp (s : State) :
    (recompute s).smp = s.smp := by
  simp only [recompute, raiseCuts]; split <;> split <;> rfl
@[simp] theorem recompute_alw (s : State) :
    (recompute s).alw = s.alw := by
  simp only [recompute, raiseCuts]; split <;> split <;> rfl
@[simp] theorem recompute_arb (s : State) :
    (recompute s).arb = s.formGrants := by
  simp only [recompute, raiseCuts]; split <;> split <;> rfl
@[simp] theorem recompute_suc (s : State) :
    (recompute s).suc = takeGrant s.settings.pfull s.grantS s.suc := by
  simp only [recompute, raiseCuts]; split <;> split <;> rfl
@[simp] theorem recompute_head (s : State) :
    (recompute s).head = s.head := by
  simp only [recompute, raiseCuts]; split <;> split <;> rfl
@[simp] theorem recompute_dirt (s : State) :
    (recompute s).dirt = s.dirt := by
  simp only [recompute, raiseCuts]; split <;> split <;> rfl
@[simp] theorem recompute_bin (s : State) :
    (recompute s).bin = s.bin := by
  simp only [recompute, raiseCuts]; split <;> split <;> rfl
@[simp] theorem recompute_acct (s : State) :
    (recompute s).acct = s.acct := by
  simp only [recompute, raiseCuts]; split <;> split <;> rfl
@[simp] theorem recompute_chg (s : State) :
    (recompute s).chg = s.chg := by
  simp only [recompute, raiseCuts]; split <;> split <;> rfl
@[simp] theorem recompute_settings (s : State) :
    (recompute s).settings = s.settings := by
  simp only [recompute, raiseCuts]; split <;> split <;> rfl
@[simp] theorem recompute_pwr (s : State) :
    (recompute s).pwr = s.pwr := by
  simp only [recompute, raiseCuts]; split <;> split <;> rfl
@[simp] theorem recompute_gens (s : State) :
    (recompute s).gens = s.gens := by
  simp only [recompute, raiseCuts]; split <;> split <;> rfl
@[simp] theorem recompute_choices (s : State) :
    (recompute s).choices = s.choices := by
  simp only [recompute, raiseCuts]; split <;> split <;> rfl
@[simp] theorem recompute_pending (s : State) :
    (recompute s).pending = s.pending := by
  simp only [recompute, raiseCuts]; split <;> split <;> rfl

@[simp] theorem dropBrushStack_now (s : State) : (dropBrushStack s).now = s.now := by
  simp [dropBrushStack]
@[simp] theorem dropBrushStack_trigLine (s : State) : (dropBrushStack s).trigLine = s.trigLine := by
  simp [dropBrushStack]
@[simp] theorem dropBrushStack_latchLine (s : State) : (dropBrushStack s).latchLine = s.latchLine := by
  simp [dropBrushStack]
@[simp] theorem dropBrushStack_smp (s : State) : (dropBrushStack s).smp = s.smp := by
  simp [dropBrushStack]
@[simp] theorem dropBrushStack_alw (s : State) : (dropBrushStack s).alw = s.alw := by
  simp [dropBrushStack]
@[simp] theorem dropBrushStack_head (s : State) : (dropBrushStack s).head = s.head := by
  simp [dropBrushStack]
@[simp] theorem dropBrushStack_dirt (s : State) : (dropBrushStack s).dirt = s.dirt := by
  simp [dropBrushStack]
@[simp] theorem dropBrushStack_bin (s : State) : (dropBrushStack s).bin = s.bin := by
  simp [dropBrushStack]
@[simp] theorem dropBrushStack_acct (s : State) : (dropBrushStack s).acct = s.acct := by
  simp [dropBrushStack]
@[simp] theorem dropBrushStack_chg (s : State) : (dropBrushStack s).chg = s.chg := by
  simp [dropBrushStack]
@[simp] theorem dropBrushStack_settings (s : State) : (dropBrushStack s).settings = s.settings := by
  simp [dropBrushStack]
@[simp] theorem dropBrushStack_pwr (s : State) : (dropBrushStack s).pwr = s.pwr := by
  simp [dropBrushStack]
@[simp] theorem dropBrushStack_gens (s : State) : (dropBrushStack s).gens = s.gens := by
  simp [dropBrushStack]
@[simp] theorem dropBrushStack_choices (s : State) : (dropBrushStack s).choices = s.choices := by
  simp [dropBrushStack]
@[simp] theorem dropBrushStack_pending (s : State) : (dropBrushStack s).pending = s.pending := by
  simp [dropBrushStack]

/-! ## The power path -/

@[simp] theorem arbRequest_now (side : Side) (s : State) :
    ((arbRequest side s).1).now = s.now := by
  unfold arbRequest; split
  · simp
  · split <;> rfl
@[simp] theorem arbRequest_trigLine (side : Side) (s : State) :
    ((arbRequest side s).1).trigLine = s.trigLine := by
  unfold arbRequest; split
  · simp
  · split <;> rfl
@[simp] theorem arbRequest_latchLine (side : Side) (s : State) :
    ((arbRequest side s).1).latchLine = s.latchLine := by
  unfold arbRequest; split
  · simp
  · split <;> rfl
@[simp] theorem arbRequest_smp (side : Side) (s : State) :
    ((arbRequest side s).1).smp = s.smp := by
  unfold arbRequest; split
  · simp
  · split <;> rfl
@[simp] theorem arbRequest_alw (side : Side) (s : State) :
    ((arbRequest side s).1).alw = s.alw := by
  unfold arbRequest; split
  · simp
  · split <;> rfl
@[simp] theorem arbRequest_suc (side : Side) (s : State) :
    ((arbRequest side s).1).suc = s.suc := by
  unfold arbRequest; split
  · simp
  · split <;> rfl
@[simp] theorem arbRequest_head (side : Side) (s : State) :
    ((arbRequest side s).1).head = s.head := by
  unfold arbRequest; split
  · simp
  · split <;> rfl
@[simp] theorem arbRequest_dirt (side : Side) (s : State) :
    ((arbRequest side s).1).dirt = s.dirt := by
  unfold arbRequest; split
  · simp
  · split <;> rfl
@[simp] theorem arbRequest_bin (side : Side) (s : State) :
    ((arbRequest side s).1).bin = s.bin := by
  unfold arbRequest; split
  · simp
  · split <;> rfl
@[simp] theorem arbRequest_acct (side : Side) (s : State) :
    ((arbRequest side s).1).acct = s.acct := by
  unfold arbRequest; split
  · simp
  · split <;> rfl
@[simp] theorem arbRequest_chg (side : Side) (s : State) :
    ((arbRequest side s).1).chg = s.chg := by
  unfold arbRequest; split
  · simp
  · split <;> rfl
@[simp] theorem arbRequest_settings (side : Side) (s : State) :
    ((arbRequest side s).1).settings = s.settings := by
  unfold arbRequest; split
  · simp
  · split <;> rfl
@[simp] theorem arbRequest_gens (side : Side) (s : State) :
    ((arbRequest side s).1).gens = s.gens := by
  unfold arbRequest; split
  · simp
  · split <;> rfl
@[simp] theorem arbRequest_choices (side : Side) (s : State) :
    ((arbRequest side s).1).choices = s.choices := by
  unfold arbRequest; split
  · simp
  · split <;> rfl
@[simp] theorem arbRequest_pending (side : Side) (s : State) :
    ((arbRequest side s).1).pending = s.pending := by
  unfold arbRequest; split
  · simp
  · split <;> rfl

@[simp] theorem arbRelease_now (side : Side) (s : State) :
    ((arbRelease side s).1).now = s.now := by
  unfold arbRelease; split
  · split <;> rfl
  · rfl
@[simp] theorem arbRelease_trigLine (side : Side) (s : State) :
    ((arbRelease side s).1).trigLine = s.trigLine := by
  unfold arbRelease; split
  · split <;> rfl
  · rfl
@[simp] theorem arbRelease_latchLine (side : Side) (s : State) :
    ((arbRelease side s).1).latchLine = s.latchLine := by
  unfold arbRelease; split
  · split <;> rfl
  · rfl
@[simp] theorem arbRelease_smp (side : Side) (s : State) :
    ((arbRelease side s).1).smp = s.smp := by
  unfold arbRelease; split
  · split <;> rfl
  · rfl
@[simp] theorem arbRelease_alw (side : Side) (s : State) :
    ((arbRelease side s).1).alw = s.alw := by
  unfold arbRelease; split
  · split <;> rfl
  · rfl
@[simp] theorem arbRelease_suc (side : Side) (s : State) :
    ((arbRelease side s).1).suc = s.suc := by
  unfold arbRelease; split
  · split <;> rfl
  · rfl
@[simp] theorem arbRelease_head (side : Side) (s : State) :
    ((arbRelease side s).1).head = s.head := by
  unfold arbRelease; split
  · split <;> rfl
  · rfl
@[simp] theorem arbRelease_dirt (side : Side) (s : State) :
    ((arbRelease side s).1).dirt = s.dirt := by
  unfold arbRelease; split
  · split <;> rfl
  · rfl
@[simp] theorem arbRelease_bin (side : Side) (s : State) :
    ((arbRelease side s).1).bin = s.bin := by
  unfold arbRelease; split
  · split <;> rfl
  · rfl
@[simp] theorem arbRelease_acct (side : Side) (s : State) :
    ((arbRelease side s).1).acct = s.acct := by
  unfold arbRelease; split
  · split <;> rfl
  · rfl
@[simp] theorem arbRelease_chg (side : Side) (s : State) :
    ((arbRelease side s).1).chg = s.chg := by
  unfold arbRelease; split
  · split <;> rfl
  · rfl
@[simp] theorem arbRelease_ports (side : Side) (s : State) :
    ((arbRelease side s).1).ports = s.ports := by
  unfold arbRelease; split
  · split <;> rfl
  · rfl
@[simp] theorem arbRelease_settings (side : Side) (s : State) :
    ((arbRelease side s).1).settings = s.settings := by
  unfold arbRelease; split
  · split <;> rfl
  · rfl
@[simp] theorem arbRelease_pwr (side : Side) (s : State) :
    ((arbRelease side s).1).pwr = s.pwr := by
  unfold arbRelease; split
  · split <;> rfl
  · rfl
@[simp] theorem arbRelease_gens (side : Side) (s : State) :
    ((arbRelease side s).1).gens = s.gens := by
  unfold arbRelease; split
  · split <;> rfl
  · rfl
@[simp] theorem arbRelease_choices (side : Side) (s : State) :
    ((arbRelease side s).1).choices = s.choices := by
  unfold arbRelease; split
  · split <;> rfl
  · rfl
@[simp] theorem arbRelease_pending (side : Side) (s : State) :
    ((arbRelease side s).1).pending = s.pending := by
  unfold arbRelease; split
  · split <;> rfl
  · rfl

@[simp] theorem arbWithdraw_now (side : Side) (s : State) :
    (arbWithdraw side s).now = s.now := by
  unfold arbWithdraw; split <;> rfl
@[simp] theorem arbWithdraw_trigLine (side : Side) (s : State) :
    (arbWithdraw side s).trigLine = s.trigLine := by
  unfold arbWithdraw; split <;> rfl
@[simp] theorem arbWithdraw_latchLine (side : Side) (s : State) :
    (arbWithdraw side s).latchLine = s.latchLine := by
  unfold arbWithdraw; split <;> rfl
@[simp] theorem arbWithdraw_smp (side : Side) (s : State) :
    (arbWithdraw side s).smp = s.smp := by
  unfold arbWithdraw; split <;> rfl
@[simp] theorem arbWithdraw_alw (side : Side) (s : State) :
    (arbWithdraw side s).alw = s.alw := by
  unfold arbWithdraw; split <;> rfl
@[simp] theorem arbWithdraw_suc (side : Side) (s : State) :
    (arbWithdraw side s).suc = s.suc := by
  unfold arbWithdraw; split <;> rfl
@[simp] theorem arbWithdraw_head (side : Side) (s : State) :
    (arbWithdraw side s).head = s.head := by
  unfold arbWithdraw; split <;> rfl
@[simp] theorem arbWithdraw_dirt (side : Side) (s : State) :
    (arbWithdraw side s).dirt = s.dirt := by
  unfold arbWithdraw; split <;> rfl
@[simp] theorem arbWithdraw_bin (side : Side) (s : State) :
    (arbWithdraw side s).bin = s.bin := by
  unfold arbWithdraw; split <;> rfl
@[simp] theorem arbWithdraw_acct (side : Side) (s : State) :
    (arbWithdraw side s).acct = s.acct := by
  unfold arbWithdraw; split <;> rfl
@[simp] theorem arbWithdraw_chg (side : Side) (s : State) :
    (arbWithdraw side s).chg = s.chg := by
  unfold arbWithdraw; split <;> rfl
@[simp] theorem arbWithdraw_ports (side : Side) (s : State) :
    (arbWithdraw side s).ports = s.ports := by
  unfold arbWithdraw; split <;> rfl
@[simp] theorem arbWithdraw_settings (side : Side) (s : State) :
    (arbWithdraw side s).settings = s.settings := by
  unfold arbWithdraw; split <;> rfl
@[simp] theorem arbWithdraw_pwr (side : Side) (s : State) :
    (arbWithdraw side s).pwr = s.pwr := by
  unfold arbWithdraw; split <;> rfl
@[simp] theorem arbWithdraw_gens (side : Side) (s : State) :
    (arbWithdraw side s).gens = s.gens := by
  unfold arbWithdraw; split <;> rfl
@[simp] theorem arbWithdraw_choices (side : Side) (s : State) :
    (arbWithdraw side s).choices = s.choices := by
  unfold arbWithdraw; split <;> rfl
@[simp] theorem arbWithdraw_pending (side : Side) (s : State) :
    (arbWithdraw side s).pending = s.pending := by
  unfold arbWithdraw; split <;> rfl

/-! ## The charge order and the charge state -/

@[simp] theorem setCharge_now (st : ChargeState) (s : State) :
    (setCharge st s).now = s.now := by
  unfold setCharge; split <;> simp
@[simp] theorem setCharge_trigLine (st : ChargeState) (s : State) :
    (setCharge st s).trigLine = s.trigLine := by
  unfold setCharge; split <;> simp
@[simp] theorem setCharge_latchLine (st : ChargeState) (s : State) :
    (setCharge st s).latchLine = s.latchLine := by
  unfold setCharge; split <;> simp
@[simp] theorem setCharge_smp (st : ChargeState) (s : State) :
    (setCharge st s).smp = s.smp := by
  unfold setCharge; split <;> simp
@[simp] theorem setCharge_alw (st : ChargeState) (s : State) :
    (setCharge st s).alw = s.alw := by
  unfold setCharge; split <;> simp
@[simp] theorem setCharge_arb (st : ChargeState) (s : State) :
    (setCharge st s).arb = s.arb := by
  unfold setCharge; split <;> simp
@[simp] theorem setCharge_suc (st : ChargeState) (s : State) :
    (setCharge st s).suc = s.suc := by
  unfold setCharge; split <;> simp
@[simp] theorem setCharge_head (st : ChargeState) (s : State) :
    (setCharge st s).head = s.head := by
  unfold setCharge; split <;> simp
@[simp] theorem setCharge_dirt (st : ChargeState) (s : State) :
    (setCharge st s).dirt = s.dirt := by
  unfold setCharge; split <;> simp
@[simp] theorem setCharge_bin (st : ChargeState) (s : State) :
    (setCharge st s).bin = s.bin := by
  unfold setCharge; split <;> simp
@[simp] theorem setCharge_acct (st : ChargeState) (s : State) :
    (setCharge st s).acct = s.acct := by
  unfold setCharge; split <;> simp
@[simp] theorem setCharge_settings (st : ChargeState) (s : State) :
    (setCharge st s).settings = s.settings := by
  unfold setCharge; split <;> simp
@[simp] theorem setCharge_pwr (st : ChargeState) (s : State) :
    (setCharge st s).pwr = s.pwr := by
  unfold setCharge; split <;> simp
@[simp] theorem setCharge_gens (st : ChargeState) (s : State) :
    (setCharge st s).gens = s.gens := by
  unfold setCharge; split <;> simp
@[simp] theorem setCharge_choices (st : ChargeState) (s : State) :
    (setCharge st s).choices = s.choices := by
  unfold setCharge; split <;> simp
@[simp] theorem setCharge_pending (st : ChargeState) (s : State) :
    (setCharge st s).pending = s.pending := by
  unfold setCharge; split <;> simp

@[simp] theorem setCharge_chg (st : ChargeState) (s : State) :
    (setCharge st s).chg = { s.chg with state := st } := by
  unfold setCharge; split
  · rename_i h; simp [← h]
  · rfl

@[simp] theorem putOrder_now (current ceil : Nat) (s : State) :
    (putOrder current ceil s).now = s.now := by
  unfold putOrder; split <;> rfl
@[simp] theorem putOrder_trigLine (current ceil : Nat) (s : State) :
    (putOrder current ceil s).trigLine = s.trigLine := by
  unfold putOrder; split <;> rfl
@[simp] theorem putOrder_latchLine (current ceil : Nat) (s : State) :
    (putOrder current ceil s).latchLine = s.latchLine := by
  unfold putOrder; split <;> rfl
@[simp] theorem putOrder_smp (current ceil : Nat) (s : State) :
    (putOrder current ceil s).smp = s.smp := by
  unfold putOrder; split <;> rfl
@[simp] theorem putOrder_alw (current ceil : Nat) (s : State) :
    (putOrder current ceil s).alw = s.alw := by
  unfold putOrder; split <;> rfl
@[simp] theorem putOrder_arb (current ceil : Nat) (s : State) :
    (putOrder current ceil s).arb = s.arb := by
  unfold putOrder; split <;> rfl
@[simp] theorem putOrder_suc (current ceil : Nat) (s : State) :
    (putOrder current ceil s).suc = s.suc := by
  unfold putOrder; split <;> rfl
@[simp] theorem putOrder_head (current ceil : Nat) (s : State) :
    (putOrder current ceil s).head = s.head := by
  unfold putOrder; split <;> rfl
@[simp] theorem putOrder_dirt (current ceil : Nat) (s : State) :
    (putOrder current ceil s).dirt = s.dirt := by
  unfold putOrder; split <;> rfl
@[simp] theorem putOrder_bin (current ceil : Nat) (s : State) :
    (putOrder current ceil s).bin = s.bin := by
  unfold putOrder; split <;> rfl
@[simp] theorem putOrder_acct (current ceil : Nat) (s : State) :
    (putOrder current ceil s).acct = s.acct := by
  unfold putOrder; split <;> rfl
@[simp] theorem putOrder_settings (current ceil : Nat) (s : State) :
    (putOrder current ceil s).settings = s.settings := by
  unfold putOrder; split <;> rfl
@[simp] theorem putOrder_pwr (current ceil : Nat) (s : State) :
    (putOrder current ceil s).pwr = s.pwr := by
  unfold putOrder; split <;> rfl
@[simp] theorem putOrder_gens (current ceil : Nat) (s : State) :
    (putOrder current ceil s).gens = s.gens := by
  unfold putOrder; split <;> rfl
@[simp] theorem putOrder_choices (current ceil : Nat) (s : State) :
    (putOrder current ceil s).choices = s.choices := by
  unfold putOrder; split <;> rfl
@[simp] theorem putOrder_pending (current ceil : Nat) (s : State) :
    (putOrder current ceil s).pending = s.pending := by
  unfold putOrder; split <;> rfl

@[simp] theorem reformOrder_now (s : State) : (reformOrder s).now = s.now := by
  simp [reformOrder]
@[simp] theorem reformOrder_trigLine (s : State) : (reformOrder s).trigLine = s.trigLine := by
  simp [reformOrder]
@[simp] theorem reformOrder_latchLine (s : State) : (reformOrder s).latchLine = s.latchLine := by
  simp [reformOrder]
@[simp] theorem reformOrder_smp (s : State) : (reformOrder s).smp = s.smp := by
  simp [reformOrder]
@[simp] theorem reformOrder_alw (s : State) : (reformOrder s).alw = s.alw := by
  simp [reformOrder]
@[simp] theorem reformOrder_arb (s : State) : (reformOrder s).arb = s.arb := by
  simp [reformOrder]
@[simp] theorem reformOrder_suc (s : State) : (reformOrder s).suc = s.suc := by
  simp [reformOrder]
@[simp] theorem reformOrder_head (s : State) : (reformOrder s).head = s.head := by
  simp [reformOrder]
@[simp] theorem reformOrder_dirt (s : State) : (reformOrder s).dirt = s.dirt := by
  simp [reformOrder]
@[simp] theorem reformOrder_bin (s : State) : (reformOrder s).bin = s.bin := by
  simp [reformOrder]
@[simp] theorem reformOrder_acct (s : State) : (reformOrder s).acct = s.acct := by
  simp [reformOrder]
@[simp] theorem reformOrder_settings (s : State) : (reformOrder s).settings = s.settings := by
  simp [reformOrder]
@[simp] theorem reformOrder_pwr (s : State) : (reformOrder s).pwr = s.pwr := by
  simp [reformOrder]
@[simp] theorem reformOrder_gens (s : State) : (reformOrder s).gens = s.gens := by
  simp [reformOrder]
@[simp] theorem reformOrder_choices (s : State) : (reformOrder s).choices = s.choices := by
  simp [reformOrder]
@[simp] theorem reformOrder_pending (s : State) : (reformOrder s).pending = s.pending := by
  simp [reformOrder]

/-! ## The bin gauge -/

@[simp] theorem completeMeasurement_now (r : BinResult) (s : State) : (completeMeasurement r s).now = s.now := rfl
@[simp] theorem completeMeasurement_trigLine (r : BinResult) (s : State) :
    (completeMeasurement r s).trigLine = s.trigLine := rfl
@[simp] theorem completeMeasurement_latchLine (r : BinResult) (s : State) :
    (completeMeasurement r s).latchLine = s.latchLine := rfl
@[simp] theorem completeMeasurement_smp (r : BinResult) (s : State) : (completeMeasurement r s).smp = s.smp := rfl
@[simp] theorem completeMeasurement_alw (r : BinResult) (s : State) : (completeMeasurement r s).alw = s.alw := rfl
@[simp] theorem completeMeasurement_arb (r : BinResult) (s : State) : (completeMeasurement r s).arb = s.arb := rfl
@[simp] theorem completeMeasurement_suc (r : BinResult) (s : State) : (completeMeasurement r s).suc = s.suc := rfl
@[simp] theorem completeMeasurement_head (r : BinResult) (s : State) : (completeMeasurement r s).head = s.head := rfl
@[simp] theorem completeMeasurement_dirt (r : BinResult) (s : State) : (completeMeasurement r s).dirt = s.dirt := rfl
@[simp] theorem completeMeasurement_bin (r : BinResult) (s : State) :
    (completeMeasurement r s).bin = { s.bin with meas := none, lastResult := r, seq := (s.bin.seq + 1) % 256 } := rfl
@[simp] theorem completeMeasurement_acct (r : BinResult) (s : State) : (completeMeasurement r s).acct = s.acct := rfl
@[simp] theorem completeMeasurement_chg (r : BinResult) (s : State) : (completeMeasurement r s).chg = s.chg := rfl
@[simp] theorem completeMeasurement_settings (r : BinResult) (s : State) :
    (completeMeasurement r s).settings = s.settings := rfl
@[simp] theorem completeMeasurement_pwr (r : BinResult) (s : State) : (completeMeasurement r s).pwr = s.pwr := rfl
@[simp] theorem completeMeasurement_gens (r : BinResult) (s : State) : (completeMeasurement r s).gens = s.gens := rfl
@[simp] theorem completeMeasurement_choices (r : BinResult) (s : State) : (completeMeasurement r s).choices = s.choices := rfl
@[simp] theorem completeMeasurement_pending (r : BinResult) (s : State) : (completeMeasurement r s).pending = s.pending := rfl

@[simp] theorem abortMeasurement_now (s : State) :
    (abortMeasurement s).now = s.now := by
  unfold abortMeasurement; split <;> rfl
@[simp] theorem abortMeasurement_trigLine (s : State) :
    (abortMeasurement s).trigLine = s.trigLine := by
  unfold abortMeasurement; split <;> rfl
@[simp] theorem abortMeasurement_latchLine (s : State) :
    (abortMeasurement s).latchLine = s.latchLine := by
  unfold abortMeasurement; split <;> rfl
@[simp] theorem abortMeasurement_smp (s : State) :
    (abortMeasurement s).smp = s.smp := by
  unfold abortMeasurement; split <;> rfl
@[simp] theorem abortMeasurement_alw (s : State) :
    (abortMeasurement s).alw = s.alw := by
  unfold abortMeasurement; split <;> rfl
@[simp] theorem abortMeasurement_arb (s : State) :
    (abortMeasurement s).arb = s.arb := by
  unfold abortMeasurement; split <;> rfl
@[simp] theorem abortMeasurement_suc (s : State) :
    (abortMeasurement s).suc = s.suc := by
  unfold abortMeasurement; split <;> rfl
@[simp] theorem abortMeasurement_head (s : State) :
    (abortMeasurement s).head = s.head := by
  unfold abortMeasurement; split <;> rfl
@[simp] theorem abortMeasurement_dirt (s : State) :
    (abortMeasurement s).dirt = s.dirt := by
  unfold abortMeasurement; split <;> rfl
@[simp] theorem abortMeasurement_acct (s : State) :
    (abortMeasurement s).acct = s.acct := by
  unfold abortMeasurement; split <;> rfl
@[simp] theorem abortMeasurement_chg (s : State) :
    (abortMeasurement s).chg = s.chg := by
  unfold abortMeasurement; split <;> rfl
@[simp] theorem abortMeasurement_settings (s : State) :
    (abortMeasurement s).settings = s.settings := by
  unfold abortMeasurement; split <;> rfl
@[simp] theorem abortMeasurement_pwr (s : State) :
    (abortMeasurement s).pwr = s.pwr := by
  unfold abortMeasurement; split <;> rfl
@[simp] theorem abortMeasurement_gens (s : State) :
    (abortMeasurement s).gens = s.gens := by
  unfold abortMeasurement; split <;> rfl
@[simp] theorem abortMeasurement_choices (s : State) :
    (abortMeasurement s).choices = s.choices := by
  unfold abortMeasurement; split <;> rfl
@[simp] theorem abortMeasurement_pending (s : State) :
    (abortMeasurement s).pending = s.pending := by
  unfold abortMeasurement; split <;> rfl

@[simp] theorem raiseIfFull_now (b : Bool) (s : State) : (raiseIfFull b s).now = s.now := by
  unfold raiseIfFull; split <;> rfl
@[simp] theorem raiseIfFull_trigLine (b : Bool) (s : State) :
    (raiseIfFull b s).trigLine = s.trigLine := by
  unfold raiseIfFull; split <;> rfl
@[simp] theorem raiseIfFull_latchLine (b : Bool) (s : State) :
    (raiseIfFull b s).latchLine = s.latchLine := by
  unfold raiseIfFull; split <;> rfl
@[simp] theorem raiseIfFull_smp (b : Bool) (s : State) : (raiseIfFull b s).smp = s.smp := by
  unfold raiseIfFull; split <;> rfl
@[simp] theorem raiseIfFull_alw (b : Bool) (s : State) : (raiseIfFull b s).alw = s.alw := by
  unfold raiseIfFull; split <;> rfl
@[simp] theorem raiseIfFull_arb (b : Bool) (s : State) : (raiseIfFull b s).arb = s.arb := by
  unfold raiseIfFull; split <;> rfl
@[simp] theorem raiseIfFull_suc (b : Bool) (s : State) : (raiseIfFull b s).suc = s.suc := by
  unfold raiseIfFull; split <;> rfl
@[simp] theorem raiseIfFull_head (b : Bool) (s : State) :
    (raiseIfFull b s).head = s.head := by
  unfold raiseIfFull; split <;> rfl
@[simp] theorem raiseIfFull_dirt (b : Bool) (s : State) :
    (raiseIfFull b s).dirt = s.dirt := by
  unfold raiseIfFull; split <;> rfl
@[simp] theorem raiseIfFull_bin (b : Bool) (s : State) : (raiseIfFull b s).bin = s.bin := by
  unfold raiseIfFull; split <;> rfl
@[simp] theorem raiseIfFull_acct (b : Bool) (s : State) :
    (raiseIfFull b s).acct = s.acct := by
  unfold raiseIfFull; split <;> rfl
@[simp] theorem raiseIfFull_chg (b : Bool) (s : State) : (raiseIfFull b s).chg = s.chg := by
  unfold raiseIfFull; split <;> rfl
@[simp] theorem raiseIfFull_settings (b : Bool) (s : State) :
    (raiseIfFull b s).settings = s.settings := by
  unfold raiseIfFull; split <;> rfl
@[simp] theorem raiseIfFull_pwr (b : Bool) (s : State) : (raiseIfFull b s).pwr = s.pwr := by
  unfold raiseIfFull; split <;> rfl
@[simp] theorem raiseIfFull_gens (b : Bool) (s : State) :
    (raiseIfFull b s).gens = s.gens := by
  unfold raiseIfFull; split <;> rfl
@[simp] theorem raiseIfFull_choices (b : Bool) (s : State) :
    (raiseIfFull b s).choices = s.choices := by
  unfold raiseIfFull; split <;> rfl
@[simp] theorem raiseIfFull_pending (b : Bool) (s : State) :
    (raiseIfFull b s).pending = s.pending := by
  unfold raiseIfFull; split <;> rfl

@[simp] theorem autoMeasure_now (s : State) : (autoMeasure s).now = s.now := by
  unfold autoMeasure; split <;> rfl
@[simp] theorem autoMeasure_trigLine (s : State) :
    (autoMeasure s).trigLine = s.trigLine := by
  unfold autoMeasure; split <;> rfl
@[simp] theorem autoMeasure_latchLine (s : State) :
    (autoMeasure s).latchLine = s.latchLine := by
  unfold autoMeasure; split <;> rfl
@[simp] theorem autoMeasure_smp (s : State) : (autoMeasure s).smp = s.smp := by
  unfold autoMeasure; split <;> rfl
@[simp] theorem autoMeasure_alw (s : State) : (autoMeasure s).alw = s.alw := by
  unfold autoMeasure; split <;> rfl
@[simp] theorem autoMeasure_arb (s : State) : (autoMeasure s).arb = s.arb := by
  unfold autoMeasure; split <;> rfl
@[simp] theorem autoMeasure_suc (s : State) : (autoMeasure s).suc = s.suc := by
  unfold autoMeasure; split <;> rfl
@[simp] theorem autoMeasure_head (s : State) : (autoMeasure s).head = s.head := by
  unfold autoMeasure; split <;> rfl
@[simp] theorem autoMeasure_dirt (s : State) : (autoMeasure s).dirt = s.dirt := by
  unfold autoMeasure; split <;> rfl
@[simp] theorem autoMeasure_acct (s : State) : (autoMeasure s).acct = s.acct := by
  unfold autoMeasure; split <;> rfl
@[simp] theorem autoMeasure_chg (s : State) : (autoMeasure s).chg = s.chg := by
  unfold autoMeasure; split <;> rfl
@[simp] theorem autoMeasure_ports (s : State) : (autoMeasure s).ports = s.ports := by
  unfold autoMeasure; split <;> rfl
@[simp] theorem autoMeasure_settings (s : State) :
    (autoMeasure s).settings = s.settings := by
  unfold autoMeasure; split <;> rfl
@[simp] theorem autoMeasure_pwr (s : State) : (autoMeasure s).pwr = s.pwr := by
  unfold autoMeasure; split <;> rfl
@[simp] theorem autoMeasure_gens (s : State) : (autoMeasure s).gens = s.gens := by
  unfold autoMeasure; split <;> rfl
@[simp] theorem autoMeasure_choices (s : State) : (autoMeasure s).choices = s.choices := by
  unfold autoMeasure; split <;> rfl
@[simp] theorem autoMeasure_pending (s : State) : (autoMeasure s).pending = s.pending := by
  unfold autoMeasure; split <;> rfl

@[simp] theorem leaveRunning_now (s : State) : (leaveRunning s).now = s.now := by
  unfold leaveRunning; split <;> rfl
@[simp] theorem leaveRunning_trigLine (s : State) :
    (leaveRunning s).trigLine = s.trigLine := by
  unfold leaveRunning; split <;> rfl
@[simp] theorem leaveRunning_latchLine (s : State) :
    (leaveRunning s).latchLine = s.latchLine := by
  unfold leaveRunning; split <;> rfl
@[simp] theorem leaveRunning_smp (s : State) : (leaveRunning s).smp = s.smp := by
  unfold leaveRunning; split <;> rfl
@[simp] theorem leaveRunning_alw (s : State) : (leaveRunning s).alw = s.alw := by
  unfold leaveRunning; split <;> rfl
@[simp] theorem leaveRunning_arb (s : State) : (leaveRunning s).arb = s.arb := by
  unfold leaveRunning; split <;> rfl
@[simp] theorem leaveRunning_suc (s : State) : (leaveRunning s).suc = s.suc := by
  unfold leaveRunning; split <;> rfl
@[simp] theorem leaveRunning_head (s : State) : (leaveRunning s).head = s.head := by
  unfold leaveRunning; split <;> rfl
@[simp] theorem leaveRunning_bin (s : State) : (leaveRunning s).bin = s.bin := by
  unfold leaveRunning; split <;> rfl
@[simp] theorem leaveRunning_acct (s : State) : (leaveRunning s).acct = s.acct := by
  unfold leaveRunning; split <;> rfl
@[simp] theorem leaveRunning_chg (s : State) : (leaveRunning s).chg = s.chg := by
  unfold leaveRunning; split <;> rfl
@[simp] theorem leaveRunning_ports (s : State) : (leaveRunning s).ports = s.ports := by
  unfold leaveRunning; split <;> rfl
@[simp] theorem leaveRunning_settings (s : State) :
    (leaveRunning s).settings = s.settings := by
  unfold leaveRunning; split <;> rfl
@[simp] theorem leaveRunning_pwr (s : State) : (leaveRunning s).pwr = s.pwr := by
  unfold leaveRunning; split <;> rfl
@[simp] theorem leaveRunning_gens (s : State) : (leaveRunning s).gens = s.gens := by
  unfold leaveRunning; split <;> rfl
@[simp] theorem leaveRunning_choices (s : State) :
    (leaveRunning s).choices = s.choices := by
  unfold leaveRunning; split <;> rfl
@[simp] theorem leaveRunning_pending (s : State) :
    (leaveRunning s).pending = s.pending := by
  unfold leaveRunning; split <;> rfl

end Sys2Proof.Machine
end

