-- ==== Sys2Proof/Laws/Arbiter.lean ====
section
/-! SUPPORT. What the operations of the arbiter and of the regulator's hand-offs can do, each said once. -/

namespace Sys2Proof.Machine

/-- A recomputation forms the grants, hands Gs to the regulator, and may raise GRANT_CUT on the handle and the wand link. -/
theorem recompute_spec (s : State) :
    recompute s
      = { s with
          arb := s.formGrants
          suc := takeGrant s.settings.pfull s.grantS s.suc
          ports := { s.ports with
            handleNotes :=
              if !s.arb.shortS && s.formGrants.shortS then s.ports.handleNotes ||| HandleNotice.grantCut.bit
              else s.ports.handleNotes
            wandNotes := if !s.arb.shortH && s.formGrants.shortH then 1#1 else s.ports.wandNotes } } := by
  simp only [recompute, raiseCuts]
  split <;> split <;> simp_all [raiseHandle, raiseWand]

/-- The stacks, the free list, the path and the waiting request stand at a recomputation. -/
theorem recompute_stacks (s : State) :
    (recompute s).arb.suction = s.arb.suction ∧ (recompute s).arb.brush = s.arb.brush
      ∧ (recompute s).arb.free = s.arb.free ∧ (recompute s).arb.path = s.arb.path
      ∧ (recompute s).arb.waiting = s.arb.waiting := by
  simp [State.formGrants]

/-- The target after a hand-off is the smaller of the target and Gs. -/
theorem takeGrant_target (pfull gs : Nat) (u : Suction) : (takeGrant pfull gs u).target = min u.target gs := by
  unfold takeGrant
  split
  · simp; omega
  · simp; omega

/-- A hand-off changes the target and the duty alone. -/
theorem takeGrant_frame (pfull gs : Nat) (u : Suction) :
    takeGrant pfull gs u
      = { u with target := (takeGrant pfull gs u).target, duty := (takeGrant pfull gs u).duty } := by
  unfold takeGrant
  split <;> rfl

/-- The suction state stands at a hand-off. -/
@[simp] theorem takeGrant_state (pfull gs : Nat) (u : Suction) : (takeGrant pfull gs u).state = u.state := by
  unfold takeGrant; split <;> rfl

/-- The debounced trigger stands at a hand-off. -/
@[simp] theorem takeGrant_pressed (pfull gs : Nat) (u : Suction) : (takeGrant pfull gs u).pressed = u.pressed := by
  unfold takeGrant; split <;> rfl

/-- The lock latch stands at a hand-off. -/
@[simp] theorem takeGrant_lock (pfull gs : Nat) (u : Suction) : (takeGrant pfull gs u).lock = u.lock := by
  unfold takeGrant; split <;> rfl

/-- The enable asked for stands at a hand-off. -/
@[simp] theorem takeGrant_enableAsked (pfull gs : Nat) (u : Suction) :
    (takeGrant pfull gs u).enableAsked = u.enableAsked := by
  unfold takeGrant; split <;> rfl

/-- The duty stays within 0..1000. -/
theorem dutyFor_le (st : SuctionState) (pfull target : Nat) (acc : Int) : dutyFor st pfull target acc ≤ 1000 := by
  unfold dutyFor
  split
  · simp only [clampInt]; omega
  · simp only [clampInt]; omega
  · exact Nat.zero_le _

/-- The duty is 0 outside STARTING and RUNNING. -/
theorem dutyFor_rest (st : SuctionState) (pfull target : Nat) (acc : Int) (h1 : st ≠ .starting) (h2 : st ≠ .running) :
    dutyFor st pfull target acc = 0 := by
  cases st <;> simp_all [dutyFor]

/-- The grants of a recomputation stay within the allowance. -/
theorem grants_within (s : State) (h : s.settings.headShare ≤ 256) : s.grantS + s.grantH ≤ s.alw.pallow := by
  have hs : s.brushShare ≤ s.alw.pallow := by
    unfold State.brushShare
    have : s.alw.pallow * s.settings.headShare ≤ s.alw.pallow * 256 := Nat.mul_le_mul_left _ h
    omega
  unfold State.grantS State.grantH
  omega

/-- Everything a path request can do. -/
theorem arbRequest_cases (side : Side) (s : State) :
    (s.arb.path = .idle
        ∧ arbRequest side s
          = (stopDeepTimer (cancelShelf { s with arb := { s.arb with path := side.path, waiting := none } }), .taken))
      ∨ (s.arb.path ≠ .idle ∧ s.arb.path = side.path ∧ arbRequest side s = (s, .held))
      ∨ (s.arb.path ≠ .idle ∧ s.arb.path ≠ side.path
        ∧ arbRequest side s = ({ s with arb := { s.arb with waiting := some side } }, .waiting)) := by
  unfold arbRequest
  split
  · simp_all
  · split <;> simp_all

/-- Everything a release can do. -/
theorem arbRelease_cases (side : Side) (s : State) :
    (s.arb.path ≠ side.path ∧ arbRelease side s = (s, none))
      ∨ (s.arb.path = side.path ∧ s.arb.waiting = none
        ∧ arbRelease side s = ({ s with arb := { s.arb with path := .idle } }, none))
      ∨ ∃ other, s.arb.path = side.path ∧ s.arb.waiting = some other
        ∧ arbRelease side s = ({ s with arb := { s.arb with path := other.path, waiting := none } }, some other) := by
  unfold arbRelease
  split
  · split <;> simp_all
  · simp_all

/-- Everything a withdrawal can do. -/
theorem arbWithdraw_cases (side : Side) (s : State) :
    (s.arb.waiting = some side ∧ arbWithdraw side s = { s with arb := { s.arb with waiting := none } })
      ∨ (s.arb.waiting ≠ some side ∧ arbWithdraw side s = s) := by
  unfold arbWithdraw
  split <;> simp_all

/-- Everything a change of the order can do. -/
theorem putOrder_cases (current ceil : Nat) (s : State) :
    (current = s.chg.orderCur ∧ ceil = s.chg.orderCeil ∧ putOrder current ceil s = s)
      ∨ (¬(current = s.chg.orderCur ∧ ceil = s.chg.orderCeil)
        ∧ putOrder current ceil s
          = raiseDock .orderChanged
            { s with
              chg :=
                { s.chg with
                  orderCur := current, orderCeil := ceil, orderNum := (s.chg.orderNum + 1) % 256
                  unreadSince := some (s.chg.unreadSince.getD s.now) } }) := by
  unfold putOrder
  split
  · rename_i h; exact Or.inl ⟨h.1, h.2, rfl⟩
  · rename_i h; exact Or.inr ⟨h, rfl⟩

/-- The order after a change is the one asked for. -/
theorem putOrder_order (current ceil : Nat) (s : State) :
    (putOrder current ceil s).chg.orderCur = current ∧ (putOrder current ceil s).chg.orderCeil = ceil
      ∧ (putOrder current ceil s).chg.state = s.chg.state := by
  rcases putOrder_cases current ceil s with ⟨h1, h2, h⟩ | ⟨_, h⟩
  · rw [h]; exact ⟨h1.symm, h2.symm, rfl⟩
  · simp [h]

/-- A change of charge state is that state and, where it differs, CHARGE_STATE. -/
theorem setCharge_cases (st : ChargeState) (s : State) :
    (s.chg.state = st ∧ setCharge st s = s)
      ∨ (s.chg.state ≠ st
        ∧ setCharge st s = raiseHandle .chargeState { s with chg := { s.chg with state := st } }) := by
  unfold setCharge
  split <;> simp_all

end Sys2Proof.Machine
end

