-- ==== Sys2Proof/Laws/Handover.lean ====
section
/-! SUPPORT. What the exchanges between the suction states and the charge states leave alone, one lemma an operation. -/

namespace Sys2Proof.Machine

/-- `t` keeps of `s` what no exchange over the path touches: clock, lines, sampler, allowance, settings, generations, queue, slots. -/
def SameCore (s t : State) : Prop :=
  t.now = s.now ∧ t.trigLine = s.trigLine ∧ t.latchLine = s.latchLine ∧ t.smp = s.smp ∧ t.alw = s.alw
    ∧ t.settings = s.settings ∧ t.gens = s.gens ∧ t.pending = s.pending
    ∧ t.ports.handle = s.ports.handle ∧ t.ports.wand = s.ports.wand ∧ t.ports.dock = s.ports.dock

theorem SameCore.rfl' (s : State) : SameCore s s := ⟨rfl, rfl, rfl, rfl, rfl, rfl, rfl, rfl, rfl, rfl, rfl⟩

theorem SameCore.trans {s t u : State} (h : SameCore s t) (k : SameCore t u) : SameCore s u := by
  obtain ⟨a1, a2, a3, a4, a5, a6, a7, a8, a9, a10, a11⟩ := h
  obtain ⟨b1, b2, b3, b4, b5, b6, b7, b8, b9, b10, b11⟩ := k
  exact ⟨b1.trans a1, b2.trans a2, b3.trans a3, b4.trans a4, b5.trans a5, b6.trans a6, b7.trans a7, b8.trans a8,
    b9.trans a9, b10.trans a10, b11.trans a11⟩

theorem raiseHandle_core (n : HandleNotice) (s : State) : SameCore s (raiseHandle n s) := by simp [SameCore]

theorem raiseDock_core (n : DockNotice) (s : State) : SameCore s (raiseDock n s) := by simp [SameCore]

theorem recompute_core (s : State) : SameCore s (recompute s) := by
  rw [recompute_spec]; exact SameCore.rfl' s

theorem cancelShelf_core (s : State) : SameCore s (cancelShelf s) := by
  unfold cancelShelf; split
  · exact SameCore.rfl' s
  · simp [SameCore]

theorem arbRequest_core (side : Side) (s : State) : SameCore s (arbRequest side s).1 := by
  rcases arbRequest_cases side s with ⟨_, h⟩ | ⟨_, _, h⟩ | ⟨_, _, h⟩ <;> rw [h]
  · exact cancelShelf_core { s with arb := { s.arb with path := side.path, waiting := none } }
  · exact SameCore.rfl' s
  · exact SameCore.rfl' s

theorem arbRelease_core (side : Side) (s : State) : SameCore s (arbRelease side s).1 := by
  rcases arbRelease_cases side s with ⟨_, h⟩ | ⟨_, _, h⟩ | ⟨o, _, _, h⟩ <;> rw [h] <;> exact SameCore.rfl' s

theorem arbWithdraw_core (side : Side) (s : State) : SameCore s (arbWithdraw side s) := by
  rcases arbWithdraw_cases side s with ⟨_, h⟩ | ⟨_, h⟩ <;> rw [h] <;> exact SameCore.rfl' s

theorem putOrder_core (c v : Nat) (s : State) : SameCore s (putOrder c v s) := by
  rcases putOrder_cases c v s with ⟨_, _, h⟩ | ⟨_, h⟩ <;> rw [h]
  · exact SameCore.rfl' s
  · simp [SameCore]

theorem reformOrder_core (s : State) : SameCore s (reformOrder s) := putOrder_core _ _ s

theorem setCharge_core (st : ChargeState) (s : State) : SameCore s (setCharge st s) := by
  rcases setCharge_cases st s with ⟨_, h⟩ | ⟨_, h⟩ <;> rw [h]
  · exact SameCore.rfl' s
  · simp [SameCore]

theorem completeMeasurement_core (r : BinResult) (s : State) : SameCore s (completeMeasurement r s) := by
  simp [SameCore, completeMeasurement]

theorem abortMeasurement_core (s : State) : SameCore s (abortMeasurement s) := by
  unfold abortMeasurement; split
  · exact completeMeasurement_core _ s
  · exact SameCore.rfl' s

theorem autoMeasure_core (s : State) : SameCore s (autoMeasure s) := by
  unfold autoMeasure; split <;> exact SameCore.rfl' s

theorem leaveRunning_core (s : State) : SameCore s (leaveRunning s) := by
  unfold leaveRunning; split <;> exact SameCore.rfl' s

theorem pauseCharge_core (reason : PauseReason) (s : State) : SameCore s (pauseCharge reason s) :=
  (setCharge_core .paused s).trans (reformOrder_core _)

theorem beginPrecharge_core (s : State) : SameCore s (beginPrecharge s) :=
  (setCharge_core .precharge s).trans (reformOrder_core _)

theorem beginBulk_core (s : State) : SameCore s (beginBulk s) :=
  (setCharge_core .bulk s).trans (reformOrder_core _)

theorem entrySelection_core (s : State) : SameCore s (entrySelection s) := by
  have p : ∀ r, SameCore s (arbRelease .charger (pauseCharge r s)).1 := fun r =>
    (pauseCharge_core r s).trans (arbRelease_core _ _)
  unfold entrySelection
  split
  · exact p _
  · split
    · exact p _
    · split
      · exact p _
      · split
        · exact p _
        · split
          · exact beginPrecharge_core s
          · exact beginBulk_core s

theorem chargeTaken_core (s : State) : SameCore s (chargeTaken s) := by
  unfold chargeTaken; split
  · exact arbRelease_core _ s
  · exact entrySelection_core s

theorem releaseSuction_core (s : State) : SameCore s (releaseSuction s) := by
  have h := arbRelease_core .suction s
  unfold releaseSuction
  split
  · rename_i t e; rw [e] at h; exact h.trans (chargeTaken_core t)
  · rename_i t _ _ e; rw [e] at h; exact h

theorem enterStarting_core (s : State) : SameCore s (enterStarting s) := by
  unfold enterStarting
  simp only []
  split
  · exact (abortMeasurement_core { s with suc := s.suc.toStarting s.now }).trans (recompute_core _)
  · exact recompute_core { s with suc := s.suc.toStarting s.now }

theorem arriveStopped_core (s : State) : SameCore s (arriveStopped s) := by
  have h := arbRequest_core .suction s
  unfold arriveStopped
  split
  · exact raiseHandle_core _ s
  · split
    · rename_i t e; rw [e] at h; exact h.trans (enterStarting_core t)
    · rename_i t e; rw [e] at h; exact h.trans (enterStarting_core t)
    · rename_i t e; rw [e] at h
      exact (h.trans (recompute_core { t with suc := { t.suc with state := .waitPath } })).trans (raiseHandle_core _ _)

theorem afterStopped_core (s : State) : SameCore s (afterStopped s) := by
  unfold afterStopped
  split
  · simp only []
    split
    · exact (autoMeasure_core { s with choices := s.choices + 1 }).trans (arriveStopped_core _)
    · exact (arriveStopped_core { s with choices := s.choices + 1 }).trans (autoMeasure_core _)
  · exact autoMeasure_core s

theorem endStopping_core (s : State) : SameCore s (endStopping s) :=
  ((releaseSuction_core { s with suc := s.suc.toStopped }).trans (recompute_core _)).trans (afterStopped_core _)

theorem enterStopping_core (s : State) : SameCore s (enterStopping s) := by
  have h := leaveRunning_core s
  unfold enterStopping
  simp only []
  split
  · exact h.trans (endStopping_core { leaveRunning s with suc := (leaveRunning s).suc.toStopping (leaveRunning s).now })
  · exact h.trans (recompute_core { leaveRunning s with suc := (leaveRunning s).suc.toStopping (leaveRunning s).now })

theorem passThrough_core (s : State) : SameCore s (passThrough s) := by
  have h : SameCore s (autoMeasure (recompute (arbRelease .suction
      { s with suc := (s.suc.toStarting s.now).toStopped }).1)) :=
    ((arbRelease_core .suction { s with suc := (s.suc.toStarting s.now).toStopped }).trans (recompute_core _)).trans
      (autoMeasure_core _)
  unfold passThrough
  simp only []
  split
  · exact h.trans (raiseHandle_core _ _)
  · exact h

theorem suctionTaken_core (s : State) : SameCore s (suctionTaken s) := by
  unfold suctionTaken
  split
  · exact enterStarting_core s
  · split
    · exact enterStarting_core s
    · exact passThrough_core s
  · exact SameCore.rfl' s

theorem releaseCharge_core (s : State) : SameCore s (releaseCharge s) := by
  have h := arbRelease_core .charger s
  unfold releaseCharge
  split
  · rename_i t e; rw [e] at h; exact h.trans (suctionTaken_core t)
  · rename_i t _ _ e; rw [e] at h; exact h

theorem giveUpWaiting_core (s : State) : SameCore s (giveUpWaiting s) :=
  (arbWithdraw_core .suction s).trans
    (recompute_core { arbWithdraw .suction s with suc := { (arbWithdraw .suction s).suc with state := .stopped } })

theorem faultSuction_core (c : SuctionCause) (s : State) : SameCore s (faultSuction c s) :=
  (leaveRunning_core s).trans (raiseHandle_core _ { leaveRunning s with suc := (leaveRunning s).suc.toFault c })

theorem runArrives_core (s : State) : SameCore s (runArrives s) := by
  have h : SameCore s (recompute { stopDeepTimer (cancelShelf s) with
      head := (stopDeepTimer (cancelShelf s)).head.arrive (stopDeepTimer (cancelShelf s)).bin.state }) :=
    (cancelShelf_core s).trans (recompute_core { stopDeepTimer (cancelShelf s) with
      head := (stopDeepTimer (cancelShelf s)).head.arrive (stopDeepTimer (cancelShelf s)).bin.state })
  unfold runArrives
  simp only []
  split
  · exact h.trans (arriveStopped_core _)
  · exact h

theorem runEnds_core (s : State) : SameCore s (runEnds s) := by
  have h : SameCore s (recompute { s with head := s.head.runEnd s.now }) :=
    recompute_core { s with head := s.head.runEnd s.now }
  unfold runEnds
  simp only []
  split
  · exact h.trans (giveUpWaiting_core _)
  · exact h.trans (enterStopping_core _)
  · exact h.trans (enterStopping_core _)
  · split
    · exact h.trans (recompute_core
        { recompute { s with head := s.head.runEnd s.now } with
          suc := { (recompute { s with head := s.head.runEnd s.now }).suc with state := .stopped } })
    · exact h
  · exact h

theorem runChanged_core (before : Bool) (s : State) : SameCore s (runChanged before s) := by
  unfold runChanged
  split
  · exact runArrives_core s
  · exact runEnds_core s
  · exact SameCore.rfl' s

theorem clearLock_core (s : State) : SameCore s (clearLock s) :=
  runChanged_core _ { s with suc := { s.suc with lock := false } }

theorem requestCharge_core (s : State) : SameCore s (requestCharge s) := by
  have h := arbRequest_core .charger s
  unfold requestCharge
  split
  · rename_i t e; rw [e] at h; exact h.trans (entrySelection_core t)
  · rename_i t e; rw [e] at h; exact (h.trans (setCharge_core _ t)).trans (reformOrder_core _)
  · rename_i t e; rw [e] at h; exact h

theorem enterPaused_core (r : PauseReason) (s : State) : SameCore s (enterPaused r s) :=
  (pauseCharge_core r s).trans (releaseCharge_core _)

theorem enterTopoff_core (s : State) : SameCore s (enterTopoff s) :=
  (setCharge_core .topoff s).trans (reformOrder_core _)

theorem enterBalance_core (s : State) : SameCore s (enterBalance s) := by
  unfold enterBalance
  refine SameCore.trans (setCharge_core .balance s) ?_
  simp only []
  refine SameCore.trans ?_ (releaseCharge_core _)
  exact reformOrder_core _

theorem enterDone_core (s : State) : SameCore s (enterDone s) := by
  unfold enterDone
  refine SameCore.trans (setCharge_core .done s) ?_
  simp only []
  refine SameCore.trans ?_ (releaseCharge_core _)
  exact reformOrder_core _

theorem wandPowerOff_core (s : State) : SameCore s (wandPowerOff s) := by
  have h : SameCore s (recompute { s with head := { s.head with wand := false, wandOff := none } }) :=
    recompute_core { s with head := { s.head with wand := false, wandOff := none } }
  refine h.trans ?_
  unfold wandPowerOff
  generalize recompute { s with head := { s.head with wand := false, wandOff := none } } = t
  unfold headAbsent
  split
  · simp [SameCore, dropBrushStack, recompute_spec]
  · exact SameCore.rfl' t

end Sys2Proof.Machine
end

