-- ==== Sys2Proof/WellFormed.lean ====
section
/-! DEFINITION. Which commands a sender can form: the bounds the frame layout sets (09 R160). Every other operand is bounded by
its type. The machine runs an ill-formed command too: it takes it as the frame it would be, which R160 discards (log 6). -/

namespace Sys2Proof

/-- A payload is at most 56 bytes (09 R160). -/
def wfPayload (payload : List Byte) : Bool := decide (payload.length ≤ 56)

/-- The bytes of a request frame that is complete, or that has been found too long at its third byte (09 R160, R161). -/
def wfFrame (bytes : List Byte) : Bool :=
  match bytes with
  | _ :: _ :: len :: rest =>
    if 56 < len.toNat then rest.isEmpty else rest.length == len.toNat + 1
  | _ => false

/-- A well-formed command. -/
def wellFormed : Instr → Bool
  | .softReset _ _ _ p => wfPayload p
  | .frameArrival _ _ bytes => wfFrame bytes
  | .ident _ _ _ p => wfPayload p
  | .readRec _ _ _ p => wfPayload p
  | .clearNote _ _ _ p => wfPayload p
  | .writeSet _ _ _ p => wfPayload p
  | .clearSticky _ _ _ p => wfPayload p
  | .shelfEnter _ _ _ p => wfPayload p
  | .claimPush _ _ _ p => wfPayload p
  | .claimPop _ _ _ p => wfPayload p
  | .claimReplace _ _ _ p => wfPayload p
  | .claimDrop _ _ _ p => wfPayload p
  | .lockOn _ _ _ p => wfPayload p
  | .lockOff _ _ _ p => wfPayload p
  | .binMeasure _ _ _ p => wfPayload p
  | .binCalEmpty _ _ _ p => wfPayload p
  | .headHello _ _ _ p => wfPayload p
  | .floorReport _ _ _ p => wfPayload p
  | .dockHello _ _ _ p => wfPayload p
  | .orderRead _ _ _ p => wfPayload p
  | .powerOn | .shelfEntry _ | .wake _ _ | .scanStart | .scanCompletion _ | .allowanceCompletion | .trigEdge _
  | .triggerDebounceCompletion | .stallTimerExpiry | .stopTimerExpiry | .tachPulse _ | .tachTimeout | .piezoEdge _
  | .windowExpiry | .binlatchEdge _ | .latchDebounceCompletion | .tryCompletion _ _ _ | .silenceExpiry
  | .wandOffTimerExpiry | .helloTimerExpiry | .prechargeTimerExpiry | .balanceTimerExpiry | .deepDischargeTimerExpiry
  | .gapTimerExpiry _ _ | .responseDelivered _ _ | .handleTransaction _ _ | .frameStartBit _ _
  | .handleAnswerReady _ => true

end Sys2Proof
end

