-- ==== Sys2Proof/Laws/PerInstr.lean ====
section
/-! SUPPORT. The statements made of every command as syntax, one lemma a constructor. -/

namespace Sys2Proof.Laws

/-- The payload a request row carries; no other row carries one. -/
def payloadOf : Instr → List Byte
  | .softReset _ _ _ p => p
  | .ident _ _ _ p => p
  | .readRec _ _ _ p => p
  | .clearNote _ _ _ p => p
  | .writeSet _ _ _ p => p
  | .clearSticky _ _ _ p => p
  | .shelfEnter _ _ _ p => p
  | .claimPush _ _ _ p => p
  | .claimPop _ _ _ p => p
  | .claimReplace _ _ _ p => p
  | .claimDrop _ _ _ p => p
  | .lockOn _ _ _ p => p
  | .lockOff _ _ _ p => p
  | .binMeasure _ _ _ p => p
  | .binCalEmpty _ _ _ p => p
  | .headHello _ _ _ p => p
  | .floorReport _ _ _ p => p
  | .dockHello _ _ _ p => p
  | .orderRead _ _ _ p => p
  | .powerOn | .shelfEntry _ | .wake _ _ | .scanStart | .scanCompletion _ | .allowanceCompletion | .trigEdge _
  | .triggerDebounceCompletion | .stallTimerExpiry | .stopTimerExpiry | .tachPulse _ | .tachTimeout | .piezoEdge _
  | .windowExpiry | .binlatchEdge _ | .latchDebounceCompletion | .tryCompletion _ _ _ | .silenceExpiry
  | .wandOffTimerExpiry | .helloTimerExpiry | .prechargeTimerExpiry | .balanceTimerExpiry | .deepDischargeTimerExpiry
  | .frameArrival _ _ _ | .gapTimerExpiry _ _ | .responseDelivered _ _ | .handleTransaction _ _ | .frameStartBit _ _
  | .handleAnswerReady _ => []

/-- A well-formed command carries at most 56 bytes of payload (09 R160). -/
def PayloadBound.Statement (i : Instr) : Prop := wellFormed i = true → (payloadOf i).length ≤ 56

theorem PayloadBound.powerOn :
    PayloadBound.Statement .powerOn :=
  fun _ => Nat.zero_le _

theorem PayloadBound.softReset (dt : Nat) (link : Link) (tag : Byte) (payload : List Byte) :
    PayloadBound.Statement (.softReset dt link tag payload) :=
  fun h => of_decide_eq_true h

theorem PayloadBound.shelfEntry (txn : Option (List Byte)) :
    PayloadBound.Statement (.shelfEntry txn) :=
  fun _ => Nat.zero_le _

theorem PayloadBound.wake (dt : Nat) (input : WakeInput) :
    PayloadBound.Statement (.wake dt input) :=
  fun _ => Nat.zero_le _

theorem PayloadBound.scanStart :
    PayloadBound.Statement .scanStart :=
  fun _ => Nat.zero_le _

theorem PayloadBound.scanCompletion (codes : ScanCodes) :
    PayloadBound.Statement (.scanCompletion codes) :=
  fun _ => Nat.zero_le _

theorem PayloadBound.allowanceCompletion :
    PayloadBound.Statement .allowanceCompletion :=
  fun _ => Nat.zero_le _

theorem PayloadBound.trigEdge (dt : Nat) :
    PayloadBound.Statement (.trigEdge dt) :=
  fun _ => Nat.zero_le _

theorem PayloadBound.triggerDebounceCompletion :
    PayloadBound.Statement .triggerDebounceCompletion :=
  fun _ => Nat.zero_le _

theorem PayloadBound.stallTimerExpiry :
    PayloadBound.Statement .stallTimerExpiry :=
  fun _ => Nat.zero_le _

theorem PayloadBound.stopTimerExpiry :
    PayloadBound.Statement .stopTimerExpiry :=
  fun _ => Nat.zero_le _

theorem PayloadBound.tachPulse (dt : Nat) :
    PayloadBound.Statement (.tachPulse dt) :=
  fun _ => Nat.zero_le _

theorem PayloadBound.tachTimeout :
    PayloadBound.Statement .tachTimeout :=
  fun _ => Nat.zero_le _

theorem PayloadBound.piezoEdge (dt : Nat) :
    PayloadBound.Statement (.piezoEdge dt) :=
  fun _ => Nat.zero_le _

theorem PayloadBound.windowExpiry :
    PayloadBound.Statement .windowExpiry :=
  fun _ => Nat.zero_le _

theorem PayloadBound.binlatchEdge (dt : Nat) :
    PayloadBound.Statement (.binlatchEdge dt) :=
  fun _ => Nat.zero_le _

theorem PayloadBound.latchDebounceCompletion :
    PayloadBound.Statement .latchDebounceCompletion :=
  fun _ => Nat.zero_le _

theorem PayloadBound.tryCompletion (dt : Nat) (h1 : Nat) (h2 : Nat) :
    PayloadBound.Statement (.tryCompletion dt h1 h2) :=
  fun _ => Nat.zero_le _

theorem PayloadBound.silenceExpiry :
    PayloadBound.Statement .silenceExpiry :=
  fun _ => Nat.zero_le _

theorem PayloadBound.wandOffTimerExpiry :
    PayloadBound.Statement .wandOffTimerExpiry :=
  fun _ => Nat.zero_le _

theorem PayloadBound.helloTimerExpiry :
    PayloadBound.Statement .helloTimerExpiry :=
  fun _ => Nat.zero_le _

theorem PayloadBound.prechargeTimerExpiry :
    PayloadBound.Statement .prechargeTimerExpiry :=
  fun _ => Nat.zero_le _

theorem PayloadBound.balanceTimerExpiry :
    PayloadBound.Statement .balanceTimerExpiry :=
  fun _ => Nat.zero_le _

theorem PayloadBound.deepDischargeTimerExpiry :
    PayloadBound.Statement .deepDischargeTimerExpiry :=
  fun _ => Nat.zero_le _

theorem PayloadBound.frameArrival (dt : Nat) (wire : Wire) (bytes : List Byte) :
    PayloadBound.Statement (.frameArrival dt wire bytes) :=
  fun _ => Nat.zero_le _

theorem PayloadBound.gapTimerExpiry (dt : Nat) (wire : Wire) :
    PayloadBound.Statement (.gapTimerExpiry dt wire) :=
  fun _ => Nat.zero_le _

theorem PayloadBound.responseDelivered (dt : Nat) (wire : Wire) :
    PayloadBound.Statement (.responseDelivered dt wire) :=
  fun _ => Nat.zero_le _

theorem PayloadBound.handleTransaction (dt : Nat) (mosi : List Byte) :
    PayloadBound.Statement (.handleTransaction dt mosi) :=
  fun _ => Nat.zero_le _

theorem PayloadBound.ident (dt : Nat) (link : Link) (tag : Byte) (payload : List Byte) :
    PayloadBound.Statement (.ident dt link tag payload) :=
  fun h => of_decide_eq_true h

theorem PayloadBound.readRec (dt : Nat) (link : Link) (tag : Byte) (payload : List Byte) :
    PayloadBound.Statement (.readRec dt link tag payload) :=
  fun h => of_decide_eq_true h

theorem PayloadBound.clearNote (dt : Nat) (link : Link) (tag : Byte) (payload : List Byte) :
    PayloadBound.Statement (.clearNote dt link tag payload) :=
  fun h => of_decide_eq_true h

theorem PayloadBound.writeSet (dt : Nat) (link : Link) (tag : Byte) (payload : List Byte) :
    PayloadBound.Statement (.writeSet dt link tag payload) :=
  fun h => of_decide_eq_true h

theorem PayloadBound.clearSticky (dt : Nat) (link : Link) (tag : Byte) (payload : List Byte) :
    PayloadBound.Statement (.clearSticky dt link tag payload) :=
  fun h => of_decide_eq_true h

theorem PayloadBound.shelfEnter (dt : Nat) (link : Link) (tag : Byte) (payload : List Byte) :
    PayloadBound.Statement (.shelfEnter dt link tag payload) :=
  fun h => of_decide_eq_true h

theorem PayloadBound.claimPush (dt : Nat) (link : Link) (tag : Byte) (payload : List Byte) :
    PayloadBound.Statement (.claimPush dt link tag payload) :=
  fun h => of_decide_eq_true h

theorem PayloadBound.claimPop (dt : Nat) (link : Link) (tag : Byte) (payload : List Byte) :
    PayloadBound.Statement (.claimPop dt link tag payload) :=
  fun h => of_decide_eq_true h

theorem PayloadBound.claimReplace (dt : Nat) (link : Link) (tag : Byte) (payload : List Byte) :
    PayloadBound.Statement (.claimReplace dt link tag payload) :=
  fun h => of_decide_eq_true h

theorem PayloadBound.claimDrop (dt : Nat) (link : Link) (tag : Byte) (payload : List Byte) :
    PayloadBound.Statement (.claimDrop dt link tag payload) :=
  fun h => of_decide_eq_true h

theorem PayloadBound.lockOn (dt : Nat) (link : Link) (tag : Byte) (payload : List Byte) :
    PayloadBound.Statement (.lockOn dt link tag payload) :=
  fun h => of_decide_eq_true h

theorem PayloadBound.lockOff (dt : Nat) (link : Link) (tag : Byte) (payload : List Byte) :
    PayloadBound.Statement (.lockOff dt link tag payload) :=
  fun h => of_decide_eq_true h

theorem PayloadBound.binMeasure (dt : Nat) (link : Link) (tag : Byte) (payload : List Byte) :
    PayloadBound.Statement (.binMeasure dt link tag payload) :=
  fun h => of_decide_eq_true h

theorem PayloadBound.binCalEmpty (dt : Nat) (link : Link) (tag : Byte) (payload : List Byte) :
    PayloadBound.Statement (.binCalEmpty dt link tag payload) :=
  fun h => of_decide_eq_true h

theorem PayloadBound.headHello (dt : Nat) (link : Link) (tag : Byte) (payload : List Byte) :
    PayloadBound.Statement (.headHello dt link tag payload) :=
  fun h => of_decide_eq_true h

theorem PayloadBound.floorReport (dt : Nat) (link : Link) (tag : Byte) (payload : List Byte) :
    PayloadBound.Statement (.floorReport dt link tag payload) :=
  fun h => of_decide_eq_true h

theorem PayloadBound.dockHello (dt : Nat) (link : Link) (tag : Byte) (payload : List Byte) :
    PayloadBound.Statement (.dockHello dt link tag payload) :=
  fun h => of_decide_eq_true h

theorem PayloadBound.orderRead (dt : Nat) (link : Link) (tag : Byte) (payload : List Byte) :
    PayloadBound.Statement (.orderRead dt link tag payload) :=
  fun h => of_decide_eq_true h

theorem PayloadBound.frameStartBit (dt : Nat) (wire : Wire) :
    PayloadBound.Statement (.frameStartBit dt wire) :=
  fun _ => Nat.zero_le _

theorem PayloadBound.handleAnswerReady (dt : Nat) :
    PayloadBound.Statement (.handleAnswerReady dt) :=
  fun _ => Nat.zero_le _

end Sys2Proof.Laws
end

