-- ==== Sys2Proof/Laws/Ports.lean ====
section
/-! SUPPORT. The request rows and the ports: every row is one arrival, an arrival at an open port is one service, a service is a refusal
or the owner's action. -/

namespace Sys2Proof.Machine

/-- Every request row is the arrival of its request. -/
theorem exec_row (k : ReqKind) (dt : Nat) (link : Link) (tag : Byte) (p : List Byte) (s : State) :
    exec (k.row dt link tag p) s = .next (arrive link ⟨k.byte, tag, p⟩ (s.elapse dt)) := by
  cases k <;> rfl

/-- A kind byte names its kind. -/
@[simp] theorem reqKind_byte (k : ReqKind) : reqKind k.byte = some k := by cases k <;> rfl

/-- An arrival at an open handle port is one service. -/
theorem arrive_handle (r : Request) (s : State) (h : HandleOpen s) (hp : r.payload.length ≤ 56) :
    arrive .handle r s = event (handleServe r) (event replaceAnswer s) := by
  have h' : ¬56 < r.payload.length := by omega
  simp [arrive, handleArrive, h.1, h.2, h']

/-- An arrival at an open wire is one service. -/
theorem arrive_wire (w : Wire) (r : Request) (s : State) (h : WireOpen w s) (hp : r.payload.length ≤ 56) :
    arrive (wireLink w) r s = event (wireServe w r) s := by
  have h' : ¬56 < r.payload.length := by omega
  obtain ⟨h1, h2, h3, h4⟩ := h
  cases w <;> simp_all [arrive, wireArrive, wireLink]

/-- An open port stays open as time passes. -/
theorem HandleOpen.elapse {s : State} (h : HandleOpen s) (dt : Nat) : HandleOpen (s.elapse dt) := h

/-- An open wire stays open as time passes. -/
theorem WireOpen.elapse {w : Wire} {s : State} (h : WireOpen w s) (dt : Nat) : WireOpen w (s.elapse dt) := by
  cases w <;> exact h

/-- No bytes change nothing. -/
@[simp] theorem wireReceive_nil (w : Wire) (s : State) : wireReceive w [] s = s := rfl

/-- Bytes are taken one after the other. -/
@[simp] theorem wireReceive_cons (w : Wire) (b : Byte) (bytes : List Byte) (s : State) :
    wireReceive w (b :: bytes) s = wireReceive w bytes (wireByte w s b) := rfl

/-- Bytes that come together act as the first ones and then the others. -/
theorem wireReceive_append (w : Wire) (a b : List Byte) (s : State) :
    wireReceive w (a ++ b) s = wireReceive w b (wireReceive w a s) := by simp [wireReceive]

/-- A port that serves loses what reaches it. -/
theorem wireByte_serving (w : Wire) (b : Byte) (s : State)
    (h : (s.wirePort w).slot = .serving ∨ (s.wirePort w).slot = .answerReady) : wireByte w s b = s := by
  simp [wireByte, h]

/-- An open port holds a byte, drops the frame, or serves it, as the bytes so far are judged. -/
theorem wireByte_open (w : Wire) (b : Byte) (s : State) (h : WireOpen w s) :
    wireByte w s b
      = match judgeFrame ((s.wirePort w).buf ++ [b]) with
        | .intact r => event (wireServe w r) s
        | .corrupt => wireIdle w s
        | .tooLong => wireDiscard w s
        | .truncated =>
          s.setWire w
            ⟨.receiving, (s.wirePort w).buf ++ [b], some (s.now + gapTime), false, (s.wirePort w).sent⟩ := by
  obtain ⟨-, h2, h3, h4⟩ := h
  have h1 : ¬((s.wirePort w).slot = .serving ∨ (s.wirePort w).slot = .answerReady) := by simp [h2, h3]
  unfold wireByte
  dsimp only
  rw [if_neg h1, h4]
  rfl

/-- A service of a known kind is the first refusal of the port's checks, or the owner's action. -/
theorem serve_cases (link : Link) (k : ReqKind) (tag : Byte) (p : List Byte) (s : State) :
    (∃ c, portRefusal k link p s = some c ∧ serve link ⟨k.byte, tag, p⟩ s = refuse s c)
      ∨ (portRefusal k link p s = none ∧ serve link ⟨k.byte, tag, p⟩ s = ownerServe k link p s) := by
  unfold serve
  simp only [reqKind_byte]
  cases portRefusal k link p s with
  | some c => exact Or.inl ⟨c, rfl, rfl⟩
  | none => exact Or.inr ⟨rfl, rfl⟩

/-- A kind that is not permitted on the link is refused with DENIED. -/
theorem serve_denied (link : Link) (k : ReqKind) (tag : Byte) (p : List Byte) (s : State)
    (h : permitted link k = false) : serve link ⟨k.byte, tag, p⟩ s = refuse s .denied := by
  simp [serve, portRefusal, h]

/-- What the port does after the owner: the answer of a handle request. -/
theorem handleServe_spec (r : Request) (s : State) :
    handleServe r s
      = { (serve .handle r s).st with
          ports :=
            { (serve .handle r s).st.ports with
              handle :=
                { (serve .handle r s).st.ports.handle with
                  slot := slotAfter r (serve .handle r s).code
                  buf :=
                    frame (statusByte (serve .handle r s).code ((serve .handle r s).st.notePending .handle)) r.tag
                      (serve .handle r s).data } } } := rfl

/-- What the port does after the owner: the answer of a request on a wire. -/
theorem wireServe_spec (w : Wire) (r : Request) (s : State) :
    wireServe w r s
      = (serve (wireLink w) r (hear w s)).st.wireAnswers w r.tag (serve (wireLink w) r (hear w s)).code
        (serve (wireLink w) r (hear w s)).data := rfl

end Sys2Proof.Machine
end

