-- ==== Sys2Proof/Laws/Scan.lean ====
section
/-! SUPPORT. A scan completion and what each receiver of its record may change. -/

namespace Sys2Proof.Machine

/-- A scan in progress completes with these codes. -/
theorem exec_scanCompletion (k : ScanCodes) (s : State) (start : Nat) (first : Bool)
    (h : s.smp.phase = .running start first) :
    exec (.scanCompletion k) s
      = .next (bleedEvent s.chg.bleeds (event (completeScan start first k) (s.reach (start + ms 2)))) := by
  simp [exec, execScanCompletion, h]

/-- With no scan in progress a completion changes nothing. -/
theorem exec_scanCompletion_idle (k : ScanCodes) (s : State) (h : ∀ start first, s.smp.phase ≠ .running start first) :
    exec (.scanCompletion k) s = .next s := by
  show execScanCompletion k s = .next s
  unfold execScanCompletion
  split
  · exact absurd ‹_› (h _ _)
  · rfl

/-- Power control may move its deep-discharge timer alone. -/
theorem judgeDeep_frame (r : ScanRecord) (s : State) :
    ∃ d, judgeDeep r s = { s with pwr := { s.pwr with deepTimer := d } } := by
  unfold judgeDeep; split <;> exact ⟨_, rfl⟩

/-- The allowance unit may change its own state and raise SCAN_FAULT. -/
theorem allowanceScan_frame (r : ScanRecord) (s : State) :
    ∃ a n, allowanceScan r s = { s with alw := a, ports := { s.ports with handleNotes := n } } := by
  unfold allowanceScan; repeat' split
  all_goals exact ⟨_, _, rfl⟩

/-- `t` is `s` but for the regulator, the dirt monitor and the handle link's notices. -/
def SameButMotor (s t : State) : Prop :=
  ∃ u d n, t = { s with suc := u, dirt := d, ports := { s.ports with handleNotes := n } }

theorem SameButMotor.trans {s t u : State} (h : SameButMotor s t) (k : SameButMotor t u) : SameButMotor s u := by
  obtain ⟨_, _, _, rfl⟩ := h
  obtain ⟨_, _, _, rfl⟩ := k
  exact ⟨_, _, _, rfl⟩

/-- Entry to FAULT, but for the path. -/
theorem faultSuction_frame (c : SuctionCause) (s : State) : SameButMotor s (faultSuction c s) := by
  unfold faultSuction leaveRunning; split <;> exact ⟨_, _, _, rfl⟩

/-- The steering may raise CLOG and enter FAULT. -/
theorem steerScan_frame (r : ScanRecord) (s : State) : SameButMotor s (steerScan r s) := by
  unfold steerScan
  dsimp only
  repeat' split
  · exact SameButMotor.trans ⟨_, _, _, rfl⟩ (faultSuction_frame _ _)
  all_goals exact ⟨_, _, _, rfl⟩

/-- The regulator's own work may change its own state and the dirt monitor's, and raise its notices. -/
theorem suctionScan_frame (r : ScanRecord) (s : State) : SameButMotor s (suctionScan r s) := by
  have h : SameButMotor s (if r.isValid then { s with suc := { s.suc with lastTemp := some r.motorTemp } } else s) := by
    split <;> exact ⟨_, _, _, rfl⟩
  unfold suctionScan
  dsimp only
  refine h.trans ?_
  generalize (if r.isValid then ({ s with suc := { s.suc with lastTemp := some r.motorTemp } } : State) else s) = t
  repeat' split
  all_goals
    first
      | exact ⟨_, _, _, rfl⟩
      | exact steerScan_frame _ _
      | exact SameButMotor.trans ⟨_, _, _, rfl⟩ (steerScan_frame _ _)
      | exact SameButMotor.trans ⟨_, _, _, rfl⟩ (faultSuction_frame _ _)

end Sys2Proof.Machine
end

