-- ==== Sys2Proof/Tests/Slice0.lean ====
section
/-! SUPPORT. Tests: ill-formed commands, the spec's worked figures, and for every statement of the obligations that has hypotheses a
concrete state and operands that meet them, clause by clause (`witness_<name>`). -/

namespace Sys2Proof.Tests

open Sys2Proof Sys2Proof.Machine

/-! ## Well-formed commands -/

theorem test_payload_of_57_refused : wellFormed (.ident 0 .handle 0 (List.replicate 57 0)) = false := by decide
theorem test_payload_of_56_taken : wellFormed (.ident 0 .handle 0 (List.replicate 56 0)) = true := by decide
theorem test_frame_without_length_refused : wellFormed (.frameArrival 0 .wand [1, 2]) = false := by decide
theorem test_frame_short_of_crc_refused : wellFormed (.frameArrival 0 .wand [1, 2, 1, 9]) = false := by decide
theorem test_frame_with_a_byte_too_many_refused : wellFormed (.frameArrival 0 .dock [1, 2, 0, 9, 9]) = false := by decide
theorem test_frame_too_long_ends_at_its_length : wellFormed (.frameArrival 0 .dock [1, 2, 57, 9]) = false := by decide

/-! ## The words of the table: none gives bits -/

theorem test_no_word_spells_a_command : decodeTableWord 32 0x12345678 = none := by decide
theorem test_withFetchWord_leaves_the_state : State.reset.withFetchWord 32 7 = State.reset := rfl

/-! ## Worked figures of the spec -/

/-- 09, section 9.1 worked frame: IDENT with tag 2A. -/
theorem test_frame_of_ident : frame 0x01 0x2A [] = [0x01, 0x2A, 0x00, 0x47] := by decide +kernel
/-- 04, section 4.8 worked figures. -/
theorem test_hard_curve_at_100 : curveValue Settings.defaults.hard 100 = 198 := by decide
/-- 02, section 2.5 worked figure. -/
theorem test_derate_at_53 : derateAt Settings.defaults.derate 53 = 180 := by decide
/-- 07, section 7.5 worked figure. -/
theorem test_open_circuit_at_3850 : ocvPercent 3850 = 65 := by decide
/-- 06 R104: an excess of 64 gives the full index. -/
theorem test_raw_index_full : rawIndex 68 0 4 16 = 255 := by decide
/-- 07 R127: a fall of FCC from 2470 to 1250 counts one cycle and leaves 750. -/
theorem test_lowered_capacity_counts_a_cycle :
    let a := Account.applyDesignCap 2500 { State.reset.acct with fcc := 1250, discharged := 2000 }
    (a.cycles, a.discharged) = (1, 750) := by decide
/-- 01 R6: the ends of the converter's range. -/
theorem test_pack_current_limits : sample 0 0 = -51200 ∧ sample 0 4095 = 51175 ∧ sample 500 4094 = 50650 := by decide
/-- 01 R9: the ends of the thermistor table. -/
theorem test_thermistor_ends :
    thermConvert 3901 = .opened ∧ thermConvert 3900 = .ok (-40) ∧ thermConvert 150 = .ok 125 ∧ thermConvert 149 = .shorted := by
  decide

/-- 02, section 2.9, case A: 430 W published, 438 W after the completion. -/
theorem test_allowance_case_a :
    let c : Capture :=
      { number := 2, vmin := 3400, vmean := 3400, i := 15000, iSat := false, tmax := some 45, tmin := some 45
        thermFault := false, rcell := 300, snapshot := some ⟨3400, 15000, false⟩, vcut := 3000, vstop := 2700
        prated := 520, riseStep := 8, stepMin := 3000, tdisLo := -20, tdisHi := 60
        derate := Settings.defaults.derate }
    (figures c).computed = 471 ∧ (figures c).imax = some 28333 ∧ publishedValue 430 471 8 = 438 := by decide
/-- 08, section 8.7 worked selection: cells 1, 3 and 6. -/
theorem test_bleeds_1_3_6 :
    selectBleeds 20 ⟨4200, 4160, 4188, 4171, 4150, 4192, 4170⟩ = ⟨true, false, true, false, false, true, false⟩ := by decide

/-! ## States for the witnesses -/

/-- After reset, with a command waiting. -/
def waits (c : Instr) (s : State) : State := { s with pending := [c] }

/-- Claims on both stacks. -/
def claimed : State :=
  { State.reset with
    head := ⟨true, none, some ⟨60, true⟩, some 900, .hard, 0⟩
    arb := { State.reset.arb with
      free := [3, 4, 5, 6, 7, 8, 9, 0], suction := [⟨1, .curve 400, 7⟩], brush := [⟨2, .level 40, 8⟩] } }

/-- The wand is powered and no head has announced itself. -/
def bare : State := { State.reset with head := ⟨true, none, none, none, .unknown, 0⟩ }

/-- The motor runs with trigger held. -/
def runs : State :=
  { claimed with
    arb := { claimed.arb with path := .discharge }
    suc := { claimed.suc with
      state := .running, pressed := true, enableAsked := true, speed := 30000, lastPulse := some 0, trigTimer := some 9 }
    dirt := { claimed.dirt with window := some ⟨64, 64000⟩, ring := List.replicate 16 5, count := 70 }
    pwr := { claimed.pwr with entry := .none } }

/-- The motor starts. -/
def starts : State :=
  { runs with
    suc := { runs.suc with state := .starting, stallTimer := some 500000 }
    dirt := claimed.dirt }

/-- The motor stops, its run request gone. -/
def stops : State :=
  { runs with
    suc := { runs.suc with state := .stopping, pressed := false, stopTimer := some 300000 }
    dirt := claimed.dirt }

/-- A charger waits behind `s`. -/
def behind (s : State) : State :=
  { s with
    arb := { s.arb with waiting := some .charger }
    chg := { s.chg with state := .waitIdle, cap := some ⟨2000, 32000⟩ } }

/-- The bin is fitted and READY. -/
def fitted (s : State) : State :=
  { s with bin := { s.bin with closed := true, state := .ready, cal := some ⟨2980, 1862, 0⟩, latchTimer := some 9 } }

/-- A bin measurement is in flight. -/
def measures (s : State) : State :=
  { fitted s with bin := { (fitted s).bin with meas := some ⟨1, 1, 1024, false, true, 12, none⟩ } }

/-- The charger charges in PRECHARGE. -/
def charges : State :=
  { claimed with
    arb := { claimed.arb with path := .charge }
    chg := { claimed.chg with
      state := .precharge, cap := some ⟨2000, 32000⟩, orderCur := 150, preTimer := some 5, helloTimer := none } }

/-- A run waits behind the charger. -/
def queued : State :=
  { charges with
    arb := { charges.arb with waiting := some .suction }
    suc := { charges.suc with state := .waitPath, pressed := true } }

/-- A dock has been found and has not announced itself. -/
def docked : State :=
  { State.reset with chg := { State.reset.chg with state := .qualify, helloTimer := some 1000000 } }

/-- BALANCE, at its end. -/
def balances : State :=
  { State.reset with chg := { State.reset.chg with state := .balance, balTimer := some 7 } }

/-- The part sleeps. -/
def sleeps : State := { State.reset with pwr := { State.reset.pwr with awake := false } }

/-- The handle port with a slot and a buffer. -/
def handled (slot : Slot) (buf : List Byte) (queue : List Request) (s : State) : State :=
  { s with ports := { s.ports with handle := ⟨slot, buf, queue, []⟩ } }

/-- A scan of seven cells at 3601 mV, no current, with a divider and a reference code. -/
def codes (divider reference : Code) : ScanCodes :=
  ⟨2950, 2950, 2950, 2950, 2950, 2950, 2950, 2048, 0, 1800, 1800, 1800, 0, 2048, reference, divider⟩

/-- A scan is in progress. -/
def scans (mode : AutoZero) (count : Nat) : State :=
  { State.reset with
    smp := { State.reset.smp with phase := .running 0 true, run := ⟨count, 0⟩ }
    settings := { State.reset.settings with autozero := mode } }

/-- A scan is in progress in `s`. -/
def scanning (s : State) : State := { s with smp := { s.smp with phase := .running 0 true } }

/-- The state a scan of these codes leaves. -/
def scanned (k : ScanCodes) (s : State) : State := completeScan 0 true k (scanning s)

/-- A valid scan; an invalid one. -/
def good : ScanCodes := codes 2520 1024
def bad : ScanCodes := codes 2520 1003

/-- The motor is in FAULT with its cause, at rest. -/
def failed (cause : SuctionCause) : State :=
  { claimed with suc := { claimed.suc with state := .fault, faultCause := cause, trigTimer := some 9 } }

theorem path_runs : PathOk runs := by unfold PathOk; decide
theorem path_charges : PathOk charges := by unfold PathOk; decide

/-! ## Witnesses: the step and the invariants -/

theorem witness_StepRunsTheFrontCommand : State.reset.pending = [] := rfl

theorem witness_PoolKept :
    PoolOk (waits (.claimDrop 0 .handle 0 []) claimed) ∧ ∃ t, step (waits (.claimDrop 0 .handle 0 []) claimed) = .next t :=
  ⟨by unfold PoolOk; decide, _, rfl⟩

theorem witness_GrantsKept :
    GrantsOk (waits (.claimDrop 0 .wand 0 []) { runs with alw := { runs.alw with pallow := 500 } })
      ∧ ∃ t, step (waits (.claimDrop 0 .wand 0 []) { runs with alw := { runs.alw with pallow := 500 } }) = .next t :=
  ⟨by unfold GrantsOk; decide, _, rfl⟩

theorem witness_PathKept : PathOk (waits .stopTimerExpiry (behind stops)) ∧ ∃ t, step (waits .stopTimerExpiry (behind stops)) = .next t :=
  ⟨by unfold PathOk; decide, _, rfl⟩

theorem witness_SwitchesExclude : PathOk runs ∧ PathOk charges := ⟨path_runs, path_charges⟩

theorem witness_AccountKept :
    AccountOk (waits .balanceTimerExpiry balances) ∧ ∃ t, step (waits .balanceTimerExpiry balances) = .next t :=
  ⟨by unfold AccountOk; decide, _, rfl⟩

theorem witness_SettingsKept :
    SettingsOk (waits (.writeSet 0 .handle 0 [2, 0, 0]) State.reset) ∧ EstimatesOk (waits .scanStart State.reset)
      ∧ (∃ t, step (waits (.writeSet 0 .handle 0 [2, 0, 0]) State.reset) = .next t)
      ∧ ∃ t, step (waits .scanStart State.reset) = .next t :=
  ⟨by unfold SettingsOk; decide, by unfold EstimatesOk; decide, ⟨_, rfl⟩, _, rfl⟩

theorem witness_DirtKept : DirtOk (waits .windowExpiry runs) ∧ ∃ t, step (waits .windowExpiry runs) = .next t :=
  ⟨by unfold DirtOk; decide, _, rfl⟩

theorem witness_BinKept :
    PathOk (waits (.tryCompletion 0 1500 1490) (measures State.reset))
      ∧ BinOk (waits (.tryCompletion 0 1500 1490) (measures State.reset))
      ∧ ∃ t, step (waits (.tryCompletion 0 1500 1490) (measures State.reset)) = .next t :=
  ⟨by unfold PathOk; decide, by unfold BinOk; decide, _, rfl⟩

theorem witness_HeadKept : HeadOk (waits .silenceExpiry claimed) ∧ ∃ t, step (waits .silenceExpiry claimed) = .next t :=
  ⟨by unfold HeadOk; decide, _, rfl⟩

theorem witness_ChargeKept :
    PathOk (waits .prechargeTimerExpiry charges) ∧ ChargeOk (waits .prechargeTimerExpiry charges)
      ∧ ∃ t, step (waits .prechargeTimerExpiry charges) = .next t :=
  ⟨by unfold PathOk; decide, by unfold ChargeOk; decide, _, rfl⟩

/-! ## Witnesses: frames and ports -/

theorem witness_FramesReadBack :
    statusByte .clamped true = statusByte .clamped true
      ∧ (List.replicate 56 (9 : Byte)).length ≤ 56 ∧ (59 < (List.replicate 56 (9 : Byte)).length + 4) ∧ (59 : Nat) ≠ 2
      ∧ (frame ReqKind.ident.byte 0x2A [])[3]? ≠ some 0 := by decide +kernel

theorem witness_FrameOfARowIsTheRow :
    WireOpen .dock State.reset ∧ (State.reset.wirePort .dock).buf = [] ∧ (List.replicate 56 (9 : Byte)).length ≤ 56 := by
  and_intros <;> decide

theorem witness_EveryArrivalIsAnswered :
    PortOpen .handle State.reset ∧ PortOpen .wand claimed ∧ PortOpen .dock State.reset
      ∧ (List.replicate 56 (9 : Byte)).length ≤ 56
      ∧ (ReqKind.softReset = .softReset → (serve .handle ⟨6, 1, [9]⟩ (State.reset.arrived .handle 0)).code ≠ .ok) := by
  and_intros <;> decide

theorem witness_PortChecksInOrder :
    PortOpen .dock State.reset ∧ PortOpen .wand bare ∧ PortOpen .wand claimed ∧ PortOpen .handle State.reset
      ∧ permitted .dock .lockOn = false ∧ recordId 0 = none ∧ recordId 11 = none ∧ recordId 3 = some .allowance
      ∧ readable .wand .allowance = false ∧ recordId 1 = some .status ∧ readable .wand .status = true
      ∧ bare.head.info = none ∧ permitted .wand .claimPop = true ∧ claimed.head.info.isSome = true
      ∧ lengthOk .claimPop [] = false ∧ permitted .wand .ident = true ∧ lengthOk .ident [0] = false
      ∧ permitted .wand .headHello = true ∧ lengthOk .headHello [0, 0] = false
      ∧ ([0, 0, 0] : List Byte) = 0 :: [0, 0] ∧ 48 < (49 : Byte).toNat := by
  and_intros <;> decide

theorem witness_WireFramesAreJudged :
    (WireOpen .dock State.reset ∧ judgeFrame ([1, 0x2A, 0] ++ [0x46]) = .corrupt ∧ judgeFrame ([1, 0x2A] ++ [57]) = .tooLong
        ∧ judgeFrame ([1, 0x2A] ++ [0]) = .truncated ∧ judgeFrame ([1, 0x2A, 0] ++ [0x47]) = .intact ⟨1, 0x2A, []⟩
        ∧ reqKind 20 = none)
      ∧ (56 < (57 : Byte).toNat ∧ (56 : Byte).toNat ≤ 56 ∧ crc8 [1, 0x2A, 0, 0x47] = 0 ∧ crc8 [1, 0x2A, 0, 0x46] ≠ 0)
      ∧ ((State.reset.setWire .wand ⟨.receiving, [], some 5, true, []⟩).pwr.awake = true
        ∧ ((State.reset.setWire .wand ⟨.receiving, [], some 5, true, []⟩).wirePort .wand).discarding = true)
      ∧ (State.reset.pwr.awake = true ∧ (State.reset.wirePort .wand).slot = .idle) ∧ sleeps.pwr.awake = false
      ∧ ((State.reset.setWire .wand ⟨.receiving, [1], some 5, false, []⟩).wirePort .wand).gap = some 5
      ∧ ((State.reset.setWire .wand ⟨.receiving, [1], some 5, false, []⟩).wirePort .wand).slot ≠ .idle
      ∧ (State.reset.wirePort .dock).gap = none ∧ (State.reset.wirePort .dock).slot ≠ .serving
      ∧ ((State.reset.setWire .dock ⟨.serving, [1], none, false, []⟩).wirePort .dock).slot = .serving := by
  and_intros <;> decide +kernel

/-- 09 R161: a corrupt frame leaves the port IDLE at once, so the byte behind it begins a frame. -/
theorem test_byte_behind_a_corrupt_frame :
    ((wireReceive .dock [1, 0x2A, 0, 0x46, 9] State.reset).wirePort .dock).buf = [9]
      ∧ ((wireReceive .dock [1, 0x2A, 0, 0x46, 9] State.reset).wirePort .dock).slot = .receiving := by decide +kernel

/-- 08 R159: the time since unread since is absent while the order is read. -/
theorem test_unread_time_absent_while_read :
    ({ State.reset with chg := { State.reset.chg with read := some ⟨0, 0⟩, unreadSince := some 0 } } : State).unreadFor = none := by
  decide

theorem witness_HandleFetch :
    (handled .answerReady [3, 7, 0, 1] [] State.reset).pwr.awake = true
      ∧ (List.replicate 5 (0 : Byte)).head? = some 0
      ∧ (handled .answerReady [3, 7, 0, 1] [] State.reset).ports.handle.slot = .answerReady
      ∧ (handled .answerReady [3, 7, 0, 1] [] State.reset).ports.handle.buf.length < (List.replicate 5 (0 : Byte)).length
      ∧ ¬((handled .answerReady [3, 7, 0, 1] [] State.reset).ports.handle.buf.length < (List.replicate 4 (0 : Byte)).length)
      ∧ (∀ d, State.reset.pwr.entry ≠ .request d) := by decide

theorem witness_HandleRequests :
    State.reset.pwr.awake = true ∧ State.reset.ports.handle.slot ≠ .serving
      ∧ ([1, 0x2A, 0, 0x47] : List Byte).head? ≠ some 0
      ∧ judgeFrame (([1, 0x2A, 0, 0x47] : List Byte).take 64) = .intact ⟨1, 0x2A, []⟩
      ∧ (handled .serving [] [] State.reset).ports.handle.slot = .serving
      ∧ (handled .serving [] [] State.reset).ports.handle.queue = []
      ∧ (handled .serving [] [⟨1, 2, []⟩] State.reset).ports.handle.queue = ⟨1, 2, []⟩ :: [] := by decide +kernel

theorem witness_PortsOwnRequests :
    PortOpen .handle State.reset ∧ PortOpen .wand claimed ∧ claimed.head.info.isSome = true
      ∧ ((0xFF : Byte).toNat + 256 * (0x7F : Byte).toNat < 32768 ∧ 32768 ≤ (0 : Byte).toNat + 256 * (0x80 : Byte).toNat)
      ∧ ((1 : Byte).toNat + 256 * (0 : Byte).toNat < 2 ∧ 2 ≤ (2 : Byte).toNat + 256 * (0 : Byte).toNat) := by
  and_intros <;> decide

theorem witness_ReadRecPieces :
    PortOpen .dock State.reset ∧ recordId 7 = some .bin ∧ readable .dock .bin = true
      ∧ (19 : Byte).toNat ≤ (recordBytes .bin 0 (State.reset.arrived .dock 0)).length
      ∧ (recordBytes .bin 0 (State.reset.arrived .dock 0)).length < (20 : Byte).toNat ∧ 1 ≤ (1 : Byte).toNat
      ∧ 65535 < 65536 ∧ (-32768 : Int) ≤ -32768 ∧ (32767 : Int) < 32768 ∧ State.reset.smp.table = none
      ∧ (scanned good State.reset).smp.table = some (scanRecord (scanning State.reset).smp true good) := by
  and_intros <;> decide

theorem witness_EventAdvancesGenerations :
    Instr.wandOffTimerExpiry ≠ .powerOn ∧ (3 ≤ 3 ∧ (RecordId.settings ≠ .settings → 3 = 0))
      ∧ (RecordId.bin ≠ .status ∨ State.reset.pwr.entry ≠ .request false)
      ∧ recordBytes .bin 0 { State.reset with now := (scanned good State.reset).now }
        = recordBytes .bin 0 (scanned good State.reset)
      ∧ recordBytes .cells 0 { State.reset with now := (scanned good State.reset).now }
        ≠ recordBytes .cells 0 (scanned good State.reset) := by
  refine ⟨by decide, by simp, by simp, by decide, by decide⟩

/-! ## Witnesses: settings -/

theorem witness_NumericSettingWritten :
    HandleOpen State.reset
      ∧ (State.reset.settings.vstop : Int) + 100 ≤ max 2800 (min 3400 (BitVec.ofNat 16 (0xF0 + 256 * 0x0A)).toInt)
      ∧ max 2500 (min 3200 (BitVec.ofNat 16 (0x54 + 256 * 0x0B)).toInt) + 100 ≤ (State.reset.settings.vcut : Int)
      ∧ (claimed.arb.suction.length : Int) ≤ max 1 (min 4 (BitVec.ofNat 16 (1 + 256 * 0)).toInt)
      ∧ State.reset.bin.meas = none ∧ State.reset.bin.cal = none ∧ (fitted State.reset).bin.cal = some ⟨2980, 1862, 0⟩
      ∧ (2 : Byte).toNat ∉ [9, 34, 38, 39, 40, 41, 42] := by
  and_intros <;> decide

theorem witness_SettingWritesRefused :
    HandleOpen State.reset
      ∧ max 1 (min 4 ((BitVec.ofNat 16 (1 + 256 * 0)).toInt))
        < (({ claimed with arb := { claimed.arb with suction := [⟨1, .zero, 0⟩, ⟨3, .zero, 0⟩] } } : State).arb.suction.length : Int)
      ∧ max 1 (min 4 ((BitVec.ofNat 16 (1 + 256 * 0)).toInt))
        < (({ claimed with arb := { claimed.arb with brush := [⟨1, .zero, 0⟩, ⟨3, .zero, 0⟩] } } : State).arb.brush.length : Int)
      ∧ max 2800 (min 3400 (BitVec.ofNat 16 (0 + 256 * 0)).toInt)
        < (({ State.reset.settings with vstop := 2701 } : Settings).vstop : Int) + 100
      ∧ (({ State.reset.settings with vcut := 2800 } : Settings).vcut : Int)
        < max 2500 (min 3200 (BitVec.ofNat 16 (0x8D + 256 * 0x0A)).toInt) + 100
      ∧ (measures State.reset).bin.meas.isSome = true ∧ (BitVec.ofNat 16 (1 + 256 * 0)).toInt = 1
      ∧ 2 < (BitVec.ofNat 16 (3 + 256 * 0)).toInt ∧ (BitVec.ofNat 16 (0 + 256 * 128)).toInt < 0
      ∧ 32768 ≤ (0 : Byte).toNat + 256 * (0x80 : Byte).toNat := by
  and_intros <;> decide

/-- Eight points of a derate curve with the last temperature `t`. -/
def points (t : Byte) : List Byte :=
  [236, 255, 128, 0, 0, 0, 192, 0, 10, 0, 0, 1, 40, 0, 0, 1, 50, 0, 208, 0, 55, 0, 160, 0, 58, 0, 96, 0, t, 0, 0, 0]

theorem witness_GroupSettingWritten :
    HandleOpen State.reset ∧ (points 60).length = 32 ∧ derateOk (deratePoints (points 60)) = true
      ∧ derateOk (deratePoints (points 58)) = false
      ∧ ([0x58, 2, 0, 0, 0, 0, 0, 0, 0, 0] : List Byte).length = 10
      ∧ word ([0x58, 2, 0, 0, 0, 0, 0, 0, 0, 0].getD 0 0) ([0x58, 2, 0, 0, 0, 0, 0, 0, 0, 0].getD 1 0) ≤ 600
      ∧ 600 < word ([0x59, 2, 0, 0, 0, 0, 0, 0, 0, 0].getD 0 0) ([0x59, 2, 0, 0, 0, 0, 0, 0, 0, 0].getD 1 0)
      ∧ word ([1, 0].getD 0 0) ([1, 0].getD 1 0) < 2 ∧ word ([2, 0].getD 0 0) ([2, 0].getD 1 0) < 3
      ∧ word ([0xFF, 0x7F].getD 0 0) ([0xFF, 0x7F].getD 1 0) < 32768 ∧ State.reset.bin.meas = none := by
  and_intros <;> decide

/-! ## Witnesses: claims, grants, the path -/

theorem witness_GrantsAreShared : ({ claimed with settings := { claimed.settings with headShare := 256 } } : State).settings.headShare ≤ 256 := by
  decide

theorem witness_GrantsAreHandedOn :
    (State.reset.runRequest = false ∧ runs.runRequest = true ∧ runs.suc.state.steered = true
        ∧ runs.arb.suction = ⟨1, .curve 400, 7⟩ :: [] ∧ State.reset.head.wand = false ∧ runs.head.wand = true
        ∧ runs.head.info = some ⟨60, true⟩ ∧ runs.arb.brush = ⟨2, .level 40, 8⟩ :: [])
      ∧ State.reset.suc.target ≤ (recompute State.reset).arb.gs
      ∧ (recompute { runs with suc := { runs.suc with target := 1 } }).arb.gs
        < ({ runs with suc := { runs.suc with target := 1 } } : State).suc.target := by decide

theorem witness_PathExchanges :
    Side.suction ≠ .charger ∧ State.reset.arb.path = .idle ∧ runs.arb.path = Side.suction.path ∧ runs.arb.waiting = none
      ∧ charges.arb.path = Side.charger.path ∧ queued.arb.waiting = some .suction ∧ queued.arb.path = Side.charger.path
      ∧ State.reset.arb.path ≠ Side.suction.path ∧ State.reset.arb.waiting ≠ some .suction := by decide

theorem witness_ClaimPushed :
    claimed.arb.free = 3 :: [4, 5, 6, 7, 8, 9, 0] ∧ HandleOpen claimed ∧ ClaimNamed false 1 (word 0x58 2) (.curve 600)
      ∧ claimed.arb.suction.length < claimed.settings.depthSuction ∧ WireOpen .wand claimed
      ∧ claimed.head.info = some ⟨60, true⟩ ∧ ClaimNamed true 0 (word 61 0) (.level 61)
      ∧ claimed.arb.brush.length < claimed.settings.depthBrush := by
  and_intros <;> decide

theorem witness_ClaimsReleased :
    HandleOpen claimed ∧ claimed.arb.suction = ⟨1, .curve 400, 7⟩ :: [] ∧ WireOpen .wand claimed
      ∧ claimed.head.info.isSome = true ∧ claimed.arb.brush = ⟨2, .level 40, 8⟩ :: [] := by
  and_intros <;> decide

theorem witness_ClaimReplaced :
    HandleOpen claimed ∧ ClaimNamed false 2 (word 0 0) .zero ∧ claimed.arb.suction = ⟨1, .curve 400, 7⟩ :: []
      ∧ WireOpen .wand claimed ∧ claimed.head.info = some ⟨60, true⟩ ∧ ClaimNamed true 0 (word 60 0) (.level 60)
      ∧ claimed.arb.brush = ⟨2, .level 40, 8⟩ :: [] := by
  and_intros <;> decide

theorem witness_ClaimsRefused :
    HandleOpen claimed ∧ ¬((3 : Byte).toNat ≤ 2 ∧ word 0 0 ≤ 600) ∧ ¬((0 : Byte).toNat ≤ 2 ∧ word 0x59 2 ≤ 600)
      ∧ ((2 : Byte).toNat ≤ 2 ∧ word 0x58 2 ≤ 600)
      ∧ ({ claimed.settings with depthSuction := 1 } : Settings).depthSuction ≤ claimed.arb.suction.length
      ∧ claimed.arb.suction.length < claimed.settings.depthSuction
      ∧ ({ claimed.arb with free := [] } : Arbiter).free = [] ∧ State.reset.arb.suction = []
      ∧ claimed.arb.suction = ⟨1, .curve 400, 7⟩ :: [] ∧ (7 : Byte) ≠ 8
      ∧ WireOpen .wand claimed ∧ claimed.head.info.isSome = true
      ∧ ¬(((1 : Byte) = 0 ∨ (1 : Byte) = 2) ∧ word 0 0 ≤ 600) ∧ (((2 : Byte) = 0 ∨ (2 : Byte) = 2) ∧ word 0x58 2 ≤ 600)
      ∧ ({ claimed.settings with depthBrush := 1 } : Settings).depthBrush ≤ claimed.arb.brush.length
      ∧ claimed.arb.brush.length < claimed.settings.depthBrush ∧ State.reset.arb.brush = []
      ∧ claimed.arb.brush = ⟨2, .level 40, 8⟩ :: [] ∧ (8 : Byte) ≠ 7 := by
  and_intros <;> decide

/-! ## Witnesses: suction -/

theorem witness_EdgesRestartDebounce :
    State.reset.pwr.awake = true ∧ sleeps.pwr.awake = false ∧ ({ sleeps with trigLine := true } : State).trigLine = true := by
  decide

theorem witness_TriggerPressed :
    let s := { fitted State.reset with trigLine := true }
    let c := { fitted charges with trigLine := true }
    let r := { runs with trigLine := true, suc := { runs.suc with pressed := false, lock := true } }
    let u := { stops with trigLine := true }
    let f := { failed .stall with trigLine := true, pwr := { State.reset.pwr with entry := .request false } }
    State.reset.suc.trigTimer = some 20000 ∧ State.reset.trigLine = State.reset.suc.pressed
      ∧ (r.trigLine = true ∧ r.suc.pressed = false ∧ r.suc.lock = true ∧ r.suc.trigTimer = some 9)
      ∧ (s.suc.trigTimer = some 20000 ∧ s.trigLine = true ∧ s.suc.pressed = false ∧ s.suc.lock = false
        ∧ s.suc.state = .stopped ∧ s.bin.state ≠ .detached ∧ s.arb.path = .idle)
      ∧ (c.suc.trigTimer = some 20000 ∧ c.suc.lock = false ∧ c.suc.state = .stopped ∧ c.bin.state ≠ .detached
        ∧ c.arb.path = .charge)
      ∧ State.reset.bin.state = .detached
      ∧ (u.suc.trigTimer = some 9 ∧ u.suc.pressed = false ∧ u.suc.lock = false ∧ u.suc.state = .stopping)
      ∧ (f.suc.trigTimer = some 9 ∧ f.suc.pressed = false ∧ f.suc.lock = false ∧ f.suc.state = .fault
        ∧ f.pwr.entry ≠ .none)
      ∧ ({ s with pwr := f.pwr } : State).pwr.entry ≠ .none := by decide

theorem witness_TriggerReleased :
    (runs.suc.trigTimer = some 9 ∧ runs.trigLine = false ∧ runs.suc.pressed = true ∧ runs.suc.state = .running
        ∧ ({ runs.suc with lock := true } : Suction).lock = true ∧ runs.suc.lock = false ∧ runs.suc.enableAsked = true
        ∧ ({ runs.suc with speed := 5000 } : Suction).speed ≥ 5000)
      ∧ (PathOk starts ∧ starts.suc.trigTimer = some 9 ∧ starts.suc.pressed = true ∧ starts.suc.lock = false
        ∧ starts.suc.state = .starting ∧ 5000 ≤ starts.suc.speed ∧ starts.arb.waiting = none)
      ∧ (PathOk (behind starts) ∧ (behind starts).arb.waiting = some .charger
        ∧ ({ starts.suc with speed := 4999 } : Suction).speed < 5000)
      ∧ (PathOk queued ∧ queued.suc.trigTimer = some 20000 ∧ queued.suc.pressed = true ∧ queued.suc.state = .waitPath)
      ∧ (PathOk { failed .hot with suc := { (failed .hot).suc with pressed := true, lastTemp := some (.ok 100) } }
        ∧ (failed .hot).suc.state = .fault ∧ ((100 : Int) ≤ 100)) := by
  and_intros <;> decide

theorem witness_StallFaults :
    PathOk starts ∧ State.reset.suc.stallTimer = none ∧ starts.suc.stallTimer = some 500000 ∧ starts.suc.state = .starting
      ∧ starts.arb.waiting = none ∧ PathOk (behind starts) ∧ (behind starts).arb.waiting = some .charger
      ∧ PathOk { runs with suc := { runs.suc with stallTimer := some 5 } } ∧ runs.suc.state ≠ .starting := by
  and_intros <;> decide

/-- In STOPPING with the run request present again. -/
def pressedAgain (s : State) : State := { s with suc := { s.suc with pressed := true } }

theorem witness_StopEnds :
    (PathOk stops ∧ State.reset.suc.stopTimer = none ∧ stops.suc.stopTimer = some 300000 ∧ stops.suc.state = .stopping
        ∧ stops.runRequest = false ∧ stops.arb.waiting = none)
      ∧ (PathOk (behind stops) ∧ (behind stops).arb.waiting = some .charger ∧ (behind stops).runRequest = false)
      ∧ (PathOk { runs with suc := { runs.suc with stopTimer := some 5 } } ∧ runs.suc.state ≠ .stopping)
      ∧ (PathOk (pressedAgain stops) ∧ (pressedAgain stops).runRequest = true ∧ stops.bin.meas = none
        ∧ stops.bin.state = .detached)
      ∧ (PathOk (pressedAgain (fitted stops)) ∧ (fitted stops).bin.state ≠ .detached ∧ (fitted stops).bin.meas = none)
      ∧ (PathOk (pressedAgain (fitted (behind stops))) ∧ (fitted (behind stops)).bin.state ≠ .detached) := by
  and_intros <;> decide

theorem witness_TachSpeeds :
    (State.reset.suc.lastPulse = none ∧ starts.suc.lastPulse = some 0 ∧ starts.now + 249 < 0 + 250
        ∧ 0 + 250 ≤ starts.now + 250 ∧ runs.suc.state ≠ .starting ∧ starts.suc.state = .starting
        ∧ 60000000 / (starts.now + 3001 - 0) < 20000 ∧ 20000 ≤ 60000000 / (starts.now + 3000 - 0))
      ∧ (stops.suc.state = .stopping ∧ 60000000 / (stops.now + 12001 - 0) < 5000
        ∧ 5000 ≤ 60000000 / (stops.now + 12000 - 0) ∧ stops.runRequest = false ∧ stops.suc.lastPulse = some 0
        ∧ starts.pwr.awake = true ∧ stops.pwr.awake = true ∧ PathOk stops)
      ∧ (PathOk (pressedAgain (fitted stops)) ∧ (pressedAgain (fitted stops)).runRequest = true
        ∧ (pressedAgain (fitted stops)).suc.lastPulse = some 0 ∧ (pressedAgain (fitted stops)).suc.state = .stopping
        ∧ (pressedAgain (fitted stops)).pwr.awake = true) := by
  and_intros <;> decide

theorem witness_LockRequests :
    HandleOpen runs ∧ PathOk runs ∧ runs.suc.state = .running ∧ HandleOpen stops ∧ PathOk stops
      ∧ stops.suc.state ≠ .running ∧ stops.suc.lock = false
      ∧ PathOk { runs with suc := { runs.suc with lock := true, pressed := false } } := by
  and_intros <;> decide

/-! ## Witnesses: scans and the allowance -/

theorem witness_ScanPublishes :
    State.reset.smp.phase = .resting 0 true ∧ (scans .off 0).smp.phase = .running 0 true
      ∧ (∀ start first, State.reset.smp.phase ≠ .running start first)
      ∧ (∀ due first, (scans .off 0).smp.phase ≠ .resting due first)
      ∧ (scanRecord (scans .off 0).smp true (codes 2520 1024)).validity = .valid
      ∧ (scanRecord (scans .off 0).smp true (codes 2520 1003)).validity = .refFault
      ∧ (scanRecord (scans .off 0).smp true (codes 2469 1024)).validity = .tapFault
      ∧ (scanRecord { (scans .off 0).smp with invalidCount := 2 } true (codes 2469 1024)).invalidCount = 3
      ∧ (scanRecord (scans .off 0).smp true (codes 2520 1024)).iSat = false
      ∧ (scans .per64 63).anySwitch = false ∧ (scans .per64 63).smp.run.count = 63
      ∧ (scans .per64 62).smp.run.count < 63 ∧ (scans .perScan 0).settings.autozero = .perScan
      ∧ (scans .off 0).settings.autozero = .off ∧ (scans .off 0).smp.lastSwitch = none
      ∧ ¬(∀ m, ({ (scans .per64 63).smp with lastSwitch := some 0 } : Sampler).lastSwitch = some m → m < 0)
      ∧ thermConvert 1800 = .ok 32 ∧ thermConvert 3901 = .opened ∧ thermConvert 149 = .shorted := by
  refine ⟨rfl, rfl, by simp [State.reset, State.atPowerOn], by simp [scans], ?_⟩
  decide

theorem witness_ScanFaultsMotor :
    let hard := scanning { runs with suc := { runs.suc with overCount := 2 } }
    (PathOk hard ∧ GrantsOk hard ∧ hard.smp.phase = .running 0 true ∧ hard.suc.state.driving = true)
      ∧ ((scanRecord hard.smp true { good with thermM := 210 }).motorTemp = .ok 120
        ∧ (scanRecord hard.smp true { good with thermM := 211 }).motorTemp = .ok 119
        ∧ (scanRecord hard.smp true { good with motor := 3751 }).motor = 45012
        ∧ (scanRecord hard.smp true { good with motor := 3750 }).motor = 45000
        ∧ (scanRecord hard.smp true good).validity = .valid ∧ (scanRecord hard.smp true bad).validity ≠ .valid)
      ∧ (PathOk (scanning stops) ∧ GrantsOk (scanning stops) ∧ (scanning stops).suc.state = .stopping)
      ∧ (PathOk (scanning (failed .hot)) ∧ GrantsOk (scanning (failed .hot)) ∧ (failed .hot).suc.state = .fault
        ∧ (failed .hot).runRequest = false
        ∧ (scanRecord (scanning (failed .hot)).smp true { good with thermM := 450 }).motorTemp = .ok 100)
      ∧ (PathOk (scanning claimed) ∧ GrantsOk (scanning claimed) ∧ claimed.suc.state = .stopped)
      ∧ (PathOk (scanning queued) ∧ GrantsOk (scanning queued) ∧ queued.suc.state = .waitPath
        ∧ (scanned { good with dock := 1500 } queued).arb.path = .charge
        ∧ (scanned bad { queued with smp := { queued.smp with invalidCount := 2 } }).arb.path ≠ .charge) := by
  and_intros <;> decide

theorem witness_ScanSteersMotor :
    let fast := scanning
      { runs with
        alw := { runs.alw with pallow := 200 }, arb := { runs.arb with gs := 200 }
        suc := { runs.suc with target := 60, speed := 115000, lockCount := 49, episodes := 2 } }
    (PathOk fast ∧ GrantsOk fast ∧ fast.suc.state.steered = true ∧ fast.smp.phase = .running 0 true
        ∧ fast.suc.pressed = true ∧ (scanRecord fast.smp true good).validity = .valid
        ∧ (scanRecord fast.smp true good).motorTemp = .ok 32 ∧ (scanRecord fast.smp true good).motor = 0)
      ∧ (fast.suc.clogged = false ∧ fast.settings.clogMinP ≤ 66 ∧ fast.settings.clogRpm ≤ fast.suc.speed
        ∧ fast.settings.clogLock ≤ min 255 (fast.suc.lockCount + 1) ∧ 2 ≤ fast.suc.episodes)
      ∧ ({ fast.suc with episodes := 1 } : Suction).episodes < 2
      ∧ (109999 + 5000 < fast.settings.clogRpm ∧ fast.settings.clogUnlock ≤ min 1023 (249 + 1))
      ∧ (PathOk (scanning starts) ∧ GrantsOk (scanning starts) ∧ (scanning starts).suc.state = .starting
        ∧ (scanned good starts).head.wand = starts.head.wand) := by
  and_intros <;> decide

theorem witness_ScanFindsDock :
    let near := { claimed with chg := { claimed.chg with attach := 4 } }
    let locked := { runs with suc := { runs.suc with pressed := false, lock := true }, chg := near.chg }
    (PathOk (scanning near) ∧ near.chg.state = .absent ∧ near.chg.attach + 1 = 5
        ∧ 18000 ≤ (scanRecord near.smp true { good with dock := 1475 }).dock
        ∧ ¬(18000 ≤ (scanRecord near.smp true { good with dock := 1474 }).dock))
      ∧ (PathOk (scanning locked) ∧ locked.suc.lock = true ∧ locked.suc.pressed = false ∧ 5000 ≤ locked.suc.speed
        ∧ (scanned { good with dock := 1475 } locked).suc.state ≠ .fault
        ∧ (scanned { good with dock := 1475 } locked).head.wand = true)
      ∧ (PathOk (scanning charges) ∧ charges.chg.state ≠ .absent ∧ charges.arb.path = .charge ∧ charges.arb.waiting = none
        ∧ (scanRecord charges.smp true { good with dock := 1146 }).dock < 14000
        ∧ ¬((scanRecord charges.smp true { good with dock := 1147 }).dock < 14000)
        ∧ ({ charges.chg with detach := 1 } : Charger).detach + 1 = 2)
      ∧ (PathOk (scanning queued) ∧ queued.arb.waiting = some .suction)
      ∧ (PathOk (scanning docked) ∧ docked.chg.orderCur = 0 ∧ docked.chg.orderCeil = docked.settings.chgVcell
        ∧ docked.arb.path ≠ .charge ∧ (scanned { good with dock := 3 } docked).men = docked.men) := by
  and_intros <;> decide

/-- The charger in a state with its order, on the dock. -/
def stage (st : ChargeState) (cur : Nat) : State :=
  { claimed with
    arb := { claimed.arb with path := if st.charging then .charge else .idle }
    chg := { claimed.chg with state := st, cap := some ⟨2000, 32000⟩, orderCur := cur } }

/-- A scan on the dock, with the seven cells at one code and a divider to it. -/
def onDock (cell divider : Code) : ScanCodes :=
  { good with
    cell1 := cell, cell2 := cell, cell3 := cell, cell4 := cell, cell5 := cell, cell6 := cell, cell7 := cell
    divider := divider, dock := 1500 }

theorem stages_ok :
    (PathOk (scanning (stage .precharge 150)) ∧ ChargeOk (scanning (stage .precharge 150)))
      ∧ (PathOk (scanning (stage .bulk 2000)) ∧ ChargeOk (scanning (stage .bulk 2000)))
      ∧ (PathOk (scanning (stage .topoff 160)) ∧ ChargeOk (scanning (stage .topoff 160)))
      ∧ (PathOk (scanning (stage .balance 0)) ∧ ChargeOk (scanning (stage .balance 0)))
      ∧ (PathOk (scanning (stage .done 0)) ∧ ChargeOk (scanning (stage .done 0)))
      ∧ (PathOk (scanning (stage .paused 0)) ∧ ChargeOk (scanning (stage .paused 0)))
      ∧ (PathOk (scanning (behind runs)) ∧ ChargeOk (scanning (behind runs)))
      ∧ (PathOk (scanning queued) ∧ ChargeOk (scanning queued)) := by
  and_intros <;> decide

/-- 08 R148 to R154: cells of 3000, 4200 and 4251 mV and a pack at 46 °C, in the states they move. -/
theorem witness_ScanMovesCharge :
    ((scanRecord (scanning (stage .bulk 2000)).smp true (onDock 2458 2101)).cells.vmax = 3000
        ∧ (scanRecord (scanning (stage .bulk 2000)).smp true (onDock 3441 2940)).cells.vmax = 4200
        ∧ (scanRecord (scanning (stage .bulk 2000)).smp true (onDock 3483 2975)).cells.vmax = 4251
        ∧ (scanRecord (scanning (stage .bulk 2000)).smp true { onDock 3441 2940 with thermA := 1400 }).tmax = some 46)
      ∧ (scanned (onDock 2458 2101) (stage .precharge 150)).chg.state = .bulk
      ∧ (scanned (onDock 3441 2940) (stage .bulk 2000)).chg.state = .topoff
      ∧ (scanned (onDock 3483 2975) (stage .bulk 2000)).chg.faultCause = .cellOver
      ∧ (scanned { onDock 3441 2940 with thermA := 1400 } (stage .topoff 160)).chg.pauseReason = .temp
      ∧ (scanned (onDock 3441 2940) (stage .topoff 160)).chg.state = .done
      ∧ (scanned (onDock 3441 2940) (stage .balance 0)).chg.state = .done
      ∧ (scanned (onDock 2458 2101) (stage .done 0)).chg.state = .bulk
      ∧ (scanned (onDock 2458 2101) (stage .paused 0)).chg.state = .bulk
      ∧ (scanned (onDock 2458 2101) (behind runs)).chg.state = .waitIdle
      ∧ (scanned { onDock 2458 2101 with thermM := 100 } (behind runs)).chg.state = .bulk
      ∧ (scanned { onDock 2458 2101 with thermM := 100 } (behind runs)).men = false
      ∧ (scanned { onDock 3441 2940 with thermA := 4000, thermB := 100 } queued).suc.state = .starting := by
  decide

theorem witness_ChargeIsConserved :
    let near := { claimed with chg := { claimed.chg with attach := 4 } }
    let leaving := { docked with chg := { docked.chg with detach := 1 } }
    (0 < State.reset.acct.fcc ∧ State.reset.acct.discharged < State.reset.acct.fcc ∧ State.reset.acct.q ≤ State.reset.acct.fcc
        ∧ State.reset.acct.cycles ≤ 65535 ∧ (0 : Int) ≤ Int.tdiv (State.reset.acct.acc + 3600000) 3600000
        ∧ Int.tdiv (State.reset.acct.acc + -3600000) 3600000 < 0 ∧ State.reset.acct.charged ≤ 65535)
      ∧ (3300 ≤ 3600 ∧ (3600 : Nat) ≤ 3750)
      ∧ (near.chg.state = .absent ∧ (scanned (onDock 2458 2101) near).chg.state ≠ .absent)
      ∧ (leaving.chg.state ≠ .absent ∧ (scanned { good with dock := 3 } leaving).chg.state = .absent)
      ∧ (scanned (onDock 3483 2975) (stage .bulk 2000)).chg.state = .fault
      ∧ (scanned (onDock 3441 2940) (stage .balance 0)).chg.state = .done
      ∧ ({ (stage .balance 0).acct with learning := true } : Account).learning = true
      ∧ (scanned good State.reset).chg.state = .absent := by decide

/-- A capture with these cells, current, snapshot and temperature, with the default settings. -/
def capture' (vmin : Nat) (i : Int) (p : Option Snapshot) (t : Option Int) : Capture :=
  { number := 2, vmin := vmin, vmean := vmin, i := i, iSat := false, tmax := t, tmin := t, thermFault := t.isNone
    rcell := 300, snapshot := p, vcut := 3000, vstop := 2700, prated := 520, riseStep := 8, stepMin := 3000, tdisLo := -20
    tdisHi := 60, derate := Settings.defaults.derate }

theorem witness_AllowancePublishes :
    derateOk Settings.defaults.derate = true ∧ Settings.defaults.derate.head? = some ⟨-20, 128⟩
      ∧ Settings.defaults.derate.getLast? = some ⟨60, 0⟩ ∧ State.reset.alw.inflight = none
      ∧ ({ State.reset.alw with inflight := some ⟨capture' 3400 0 none (some 20), 400⟩ } : Allowance).inflight
        = some ⟨capture' 3400 0 none (some 20), 400⟩
      ∧ (capture' 3400 2999 (some ⟨3500, 0, false⟩) (some 20)).i - 0 < 3000
      ∧ (capture' 3400 3000 (some ⟨3500, 0, false⟩) (some 20)).stepMin
        ≤ ((capture' 3400 3000 (some ⟨3500, 0, false⟩) (some 20)).i - 0).natAbs
      ∧ 0 < Int.tdiv (((3500 : Nat) - (3400 : Int)) * 10000) (3000 - 0)
      ∧ Int.tdiv (((3400 : Nat) - (3400 : Int)) * 10000) (3000 - 0) ≤ 0
      ∧ (capture' 2699 0 none (some 20)).vmin < (capture' 2699 0 none (some 20)).vstop
      ∧ (capture' 2700 0 none none).thermFault = true
      ∧ ((capture' 2700 0 none (some 61)).tdisHi < 61 ∧ ¬((capture' 2700 0 none (some 60)).tdisHi < 60))
      ∧ min 4500 (3000 + (max 0 (0 : Int)).toNat * 300 / 10000) ≤ 3000
      ∧ 3000 < min 4500 (3001 + (max 0 (0 : Int)).toNat * 300 / 10000)
      ∧ (figures (capture' 3000 0 none (some 20))).cause = .noHeadroom
      ∧ (figures (capture' 3001 0 none (some 20))).cause = .ok
      ∧ (figures (capture' 2699 0 none (some 20))).cause = .stopVolt ∧ State.reset.alw.episode = false := by decide

/-! ## Witnesses: dirt and bin -/

theorem witness_DirtWindow :
    State.reset.dirt.window = none ∧ runs.dirt.window = some ⟨64, 64000⟩ ∧ runs.dirt.ring.length ≤ 16
      ∧ runs.dirt.ring.length = 16 ∧ runs.settings.noiseMode = .auto ∧ runs.dirt.lastEdge = none ∧ runs.dirt.heavy = false
      ∧ ({ runs.dirt with lastEdge := some 10 } : Dirt).lastEdge = some 10 ∧ runs.now + 59 < 10 + 50 ∧ 10 + 50 ≤ runs.now + 60
      ∧ (windowExpires runs).dirt.eff ≠ runs.dirt.eff
      ∧ (windowExpires { runs with dirt := { runs.dirt with count := 5 } }).dirt.eff = runs.dirt.eff
      ∧ (windowExpires { runs with dirt := { runs.dirt with lockCount := 2 } }).dirt.heavy = true
      ∧ (windowExpires { runs with dirt := { runs.dirt with lockCount := 1 } }).dirt.heavy = false
      ∧ (windowExpires { runs with dirt := { runs.dirt with count := 5, heavy := true, unlockCount := 7 } }).dirt.heavy = false := by
  decide

theorem witness_LatchDebounced :
    State.reset.bin.latchTimer = some 20000 ∧ State.reset.latchLine = State.reset.bin.closed
      ∧ ({ State.reset with latchLine := true } : State).latchLine = true ∧ State.reset.bin.closed = false
      ∧ State.reset.bin.meas = none ∧ (fitted runs).latchLine = false ∧ (fitted runs).bin.closed = true
      ∧ (fitted runs).bin.state ≠ .detached ∧ PathOk (fitted runs) ∧ PathOk (fitted starts) ∧ PathOk (fitted queued)
      ∧ (fitted starts).suc.state = .starting ∧ (fitted queued).suc.state = .waitPath
      ∧ (fitted runs).bin.latchTimer = some 9 ∧ (measures State.reset).bin.meas.isSome = true
      ∧ ({ State.reset.bin with latchTimer := none } : Bin).latchTimer = none := by
  and_intros <;> decide

theorem witness_TryJudged :
    State.reset.bin.meas = none ∧ (measures State.reset).bin.meas = some ⟨1, 1, 1024, false, true, 12, none⟩
      ∧ (measures State.reset).bin.cal = some ⟨2980, 1862, 0⟩ ∧ (measures State.reset).bin.calPending = false
      ∧ (measures State.reset).bin.state ≠ .uncal ∧ min 4095 0 = 0
      ∧ 12 < max (min 4095 1500) (min 4095 1487) - min (min 4095 1500) (min 4095 1487)
      ∧ ¬(12 < max (min 4095 1500) (min 4095 1488) - min (min 4095 1500) (min 4095 1488))
      ∧ ({ (measures State.reset).bin with state := .uncal } : Bin).state = .uncal
      ∧ (tryCompleted ⟨1, 1, 1024, false, true, 12, none⟩ 900 900 (measures State.reset)).bin.state = .full
      ∧ (tryCompleted ⟨4, 1, 1024, false, true, 12, none⟩ 900 800 (measures State.reset)).bin.lastResult = .noisy := by decide

theorem witness_BinRequests :
    PortOpen .handle (measures State.reset) ∧ PortOpen .dock (fitted State.reset) ∧ Link.dock ≠ .wand
      ∧ (measures State.reset).bin.meas.isSome = true ∧ (fitted State.reset).bin.meas = none
      ∧ State.reset.bin.state = .detached ∧ (fitted runs).suc.state ≠ .stopped ∧ (fitted State.reset).suc.state = .stopped
      ∧ (fitted State.reset).bin.state ≠ .detached := by
  and_intros <;> decide

/-! ## Witnesses: head, dock, power -/

theorem witness_HeadRequests :
    WireOpen .wand State.reset ∧ State.reset.head.wand = false ∧ WireOpen .wand bare ∧ bare.head.wand = true
      ∧ bare.head.info = none ∧ WireOpen .wand claimed ∧ claimed.head.wand = true ∧ claimed.head.info = some ⟨60, true⟩
      ∧ 2 < (3 : Byte).toNat ∧ (2 : Byte).toNat ≤ 2 ∧ FloorType.unknown.pos = (2 : Byte).toNat
      ∧ ({ claimed.head with info := some ⟨60, false⟩ } : Head).info = some ⟨60, false⟩ := by
  and_intros <;> decide

theorem witness_HeadTimers :
    let loaded := scanning
      { claimed with
        smp := { claimed.smp with cadence := .fast }
        head := ⟨true, none, some ⟨60, true⟩, some 900, .hard, 9⟩ }
    (State.reset.head.silence = none ∧ State.reset.head.wandOff = none ∧ claimed.head.silence = some 900
        ∧ claimed.head.info.isSome = true ∧ ({ bare.head with silence := some 5 } : Head).silence = some 5
        ∧ bare.head.info = none ∧ ({ bare.head with wandOff := some 5 } : Head).wandOff = some 5)
      ∧ (loaded.smp.phase = .running 0 true ∧ loaded.head.overload < 10
        ∧ (scanRecord loaded.smp true { good with pack1 := 2061, pack2 := 2061 }).i = 325
        ∧ (scanRecord loaded.smp true { good with pack1 := 2060, pack2 := 2060 }).i = 300
        ∧ (scanned { good with pack1 := 2061, pack2 := 2061 } loaded).head.wand = false
        ∧ (scanned { good with pack1 := 2060, pack2 := 2060 } loaded).head.wand = true) := by decide

theorem witness_DockRequests :
    WireOpen .dock docked ∧ PathOk docked ∧ ChargeOk docked ∧ docked.chg.state = .qualify
      ∧ 7 * docked.settings.chgVcell + 1000 ≤ word 0xC0 0x76 ∧ word 0xBF 0x76 < 7 * docked.settings.chgVcell + 1000
      ∧ docked.arb.path = .idle ∧ docked.chg.latest = none ∧ State.reset.chg.state = .absent
      ∧ PathOk { runs with chg := docked.chg } ∧ ChargeOk { runs with chg := docked.chg }
      ∧ runs.arb.path = .discharge
      ∧ PathOk { docked with chg := { docked.chg with latest := some ⟨3000, 4000, 10, some 45, some 45, false⟩ } }
      ∧ docked.settings.chgThi = 45 ∧ docked.smp.invalidCount < 3
      ∧ WireOpen .dock charges ∧ PathOk charges ∧ ChargeOk charges ∧ charges.chg.state = .precharge := by
  and_intros <;> decide

theorem witness_ChargeTimers :
    PathOk docked ∧ ChargeOk docked ∧ docked.chg.helloTimer = some 1000000 ∧ docked.chg.state = .qualify
      ∧ PathOk charges ∧ ChargeOk charges ∧ charges.chg.preTimer = some 5 ∧ charges.arb.waiting = none
      ∧ PathOk queued ∧ ChargeOk queued ∧ queued.arb.waiting = some .suction ∧ queued.chg.state = .precharge
      ∧ PathOk balances ∧ ChargeOk balances ∧ balances.chg.balTimer = some 7 ∧ balances.chg.state = .balance
      ∧ State.reset.chg.helloTimer = none ∧ State.reset.chg.preTimer = none ∧ State.reset.chg.balTimer = none
      ∧ balances.acct.learning = false ∧ ({ balances.acct with learning := true } : Account).learning = true
      ∧ 0 < (({ balances.acct with learning := true } : Account).fullMark balances.settings.designCap).fcc := by
  and_intros <;> decide

theorem witness_BleedsSelected : 0 < 7 ∧ 6 < 7 := by decide

theorem witness_ShelfEntered :
    (HandleOpen runs ∧ runs.pwr.entry = .none ∧ runs.arb.path ≠ .idle ∧ HandleOpen State.reset)
      ∧ State.reset.arb.path = .idle ∧ State.reset.runRequest = false
      ∧ State.reset.pwr.deepTimer = none ∧ ({ State.reset.pwr with deepTimer := some 5 } : Power).deepTimer = some 5
      ∧ State.reset.alw.inflight = none ∧ State.reset.bin.meas = none ∧ State.reset.pwr.awake = true
      ∧ ({ State.reset.pwr with entry := .request true } : Power).entry
        = (match ShelfCause.request with | .request => .request true | .deep => .deep)
      ∧ State.reset.settings.headShare ≤ 256 ∧ (measures State.reset).bin.meas.isSome = true
      ∧ State.reset.chg.orderCeil = State.reset.settings.chgVcell
      ∧ (scanRecord (scanning State.reset).smp true (onDock 2047 1749)).validity = .valid
      ∧ (scanRecord (scanning State.reset).smp true (onDock 2047 1749)).cells.vmin < 2500
      ∧ (scanRecord (scanning State.reset).smp true bad).validity ≠ .valid := by
  and_intros <;> decide

theorem witness_WakeInputs :
    sleeps.pwr.awake = false ∧ sleeps.trigLine = false ∧ ({ sleeps with trigLine := true } : State).trigLine = true
      ∧ State.reset.pwr.awake = true ∧ State.reset.trigLine = false ∧ WakeInput.dock ≠ .trig ∧ Link.wand ≠ .handle := by decide

theorem witness_SoftResetRestores :
    HandleOpen runs ∧ (runs.settings.refwin = 1024 ∧ runs.settings.double = false) ∧ runs.bin.cal = none
      ∧ (fitted runs).bin.cal = some ⟨2980, 1862, 0⟩ ∧ (fitted runs).bin.state = .ready
      ∧ 90 ≤ min 100 ((2980 - 1800) * 100 / (2980 - 2980 * 160 / 256))
      ∧ ¬(({ runs.settings with double := true } : Settings).refwin = 1024
        ∧ ({ runs.settings with double := true } : Settings).double = false) := by
  and_intros <;> decide

end Sys2Proof.Tests
end

section
/-! PROOFS. Claims, grants and the power path (03): the share-out of a recomputation (R56) and the two gated switches (R63). -/

namespace Sys2Proof.Machine

/-! ## The share-out of a recomputation (03 R56) -/

/-- With HEAD_SHARE in its range the brush share is a part of the published allowance (03 R56). -/
theorem brushShare_le_pallow (s : State) (h : s.settings.headShare ≤ 256) : s.brushShare ≤ s.alw.pallow :=
  Nat.div_le_of_le_mul (by
    rw [Nat.mul_comm 256]
    exact Nat.mul_le_mul_left s.alw.pallow h)

/-- The short flag of suction marks a grant below its demand (03 R56). -/
theorem formGrants_shortS_iff (s : State) : s.formGrants.shortS = true ↔ s.formGrants.gs < s.formGrants.ds :=
  decide_eq_true_iff

/-- The short flag of the brush marks a grant below its demand (03 R56). -/
theorem formGrants_shortH_iff (s : State) : s.formGrants.shortH = true ↔ s.formGrants.gh < s.formGrants.dh :=
  decide_eq_true_iff

/-! ## The gated switches (03 R63) -/

/-- The charging states by name (08, section 8.2). -/
theorem charging_iff (st : ChargeState) : st.charging = true ↔ st = .precharge ∨ st = .bulk ∨ st = .topoff := by
  cases st <;> simp [ChargeState.charging]

/-- The driving states by name (04, section 4.2). -/
theorem driving_iff (st : SuctionState) : st.driving = true ↔ st = .starting ∨ st = .running ∨ st = .stopping := by
  cases st <;> simp [SuctionState.driving]

/-- MEN is the enable asked for, gated by DISCHARGE (03 R63). -/
theorem men_iff (s : State) : s.men = true ↔ s.suc.enableAsked = true ∧ s.arb.path = .discharge := by
  simp [State.men]

/-- CHGG is the charging state, gated by CHARGE (03 R63). -/
theorem chgg_iff (s : State) : s.chgg = true ↔ s.chg.state.charging = true ∧ s.arb.path = .charge := by
  simp [State.chgg]

/-- The path has one value, so at most one of the two switches passes its gate (03 R63). -/
theorem not_men_and_chgg (s : State) : ¬(s.men = true ∧ s.chgg = true) := by
  rintro ⟨hmen, hchgg⟩
  obtain ⟨-, hdischarge⟩ := (men_iff s).mp hmen
  obtain ⟨-, hcharge⟩ := (chgg_iff s).mp hchgg
  rw [hdischarge] at hcharge
  cases hcharge

/-- Where the path agrees with the suction state, the gate of MEN is open whenever the enable is asked for. -/
theorem men_iff_driving (s : State) (h : PathOk s) : s.men = true ↔ s.suc.state.driving = true := by
  obtain ⟨hdischarge, -, -, -, -, -, hasked, -⟩ := h
  rw [men_iff, hasked, hdischarge, and_self_iff]

/-- Where the path agrees with the charge state, the gate of CHGG is open in every charging state. -/
theorem chgg_iff_charging (s : State) (h : PathOk s) : s.chgg = true ↔ s.chg.state.charging = true := by
  obtain ⟨-, hcharge, -⟩ := h
  rw [chgg_iff, hcharge, and_self_iff]

/-! ## The statements -/

/-- Settles O28 (03 R56): the arbiter of a recomputation is `formGrants`, whose sum `grants_within` bounds by the allowance. -/
theorem grantsAreShared : Obligations.GrantsAreShared := by
  refine ⟨rfl, rfl, fun s hshare => ?_⟩
  rw [recompute_arb]
  exact ⟨rfl, rfl, rfl, rfl, brushShare_le_pallow s hshare, grants_within s hshare, formGrants_shortS_iff s,
    formGrants_shortH_iff s⟩

/-- Settles O8 (03 R63): the gates in every state; under `PathOk` each gate stands open exactly where its block asks. -/
theorem switchesExclude : Obligations.SwitchesExclude := by
  refine ⟨fun s => ⟨men_iff s, ?_, not_men_and_chgg s⟩, fun s hpath => ⟨?_, ?_⟩⟩
  · rw [chgg_iff, charging_iff]
  · rw [men_iff_driving s hpath, driving_iff]
  · rw [chgg_iff_charging s hpath, charging_iff]

end Sys2Proof.Machine
end

section
/-! PROOFS. The step, the values of power-on, the exchanges over the power path and the edges that restart a debounce timer. -/

namespace Sys2Proof.Machine

/-- Settles O1: a step is `exec` of the front command on the queue's rest. -/
theorem stepRunsTheFrontCommand : Obligations.StepRunsTheFrontCommand := by
  refine ⟨fun c rest s => rfl, fun s hpending => ?_⟩
  unfold step
  rw [hpending]

/-- Settles O3: each power-on column by evaluation, and POWER_ON from any state by its definition. -/
theorem resetValues : Obligations.ResetValues := by
  unfold Obligations.ResetValues
  and_intros
  any_goals exact fun _ => rfl
  all_goals decide

/-- Settles O4: every condition of a safe state is a closed fact about the reset state. -/
theorem resetIsSafe : Obligations.ResetIsSafe := by
  have hpool : PoolOk State.reset := by unfold PoolOk; decide
  have hgrants : GrantsOk State.reset := by unfold GrantsOk; decide
  have hpath : PathOk State.reset := by unfold PathOk; decide
  have haccount : AccountOk State.reset := by unfold AccountOk; decide
  have hsettings : SettingsOk State.reset := by unfold SettingsOk; decide
  have hestimates : EstimatesOk State.reset := by unfold EstimatesOk; decide
  have hdirt : DirtOk State.reset := by unfold DirtOk; decide
  have hbin : BinOk State.reset := by unfold BinOk; decide
  have hhead : HeadOk State.reset := by unfold HeadOk; decide
  have hcharge : ChargeOk State.reset := by unfold ChargeOk; decide
  exact ⟨hpool, hgrants, hpath, haccount, hsettings, hestimates, hdirt, hbin, hhead, hcharge⟩

/-- Settles O30: a request, a release and a withdrawal case by case along the value of the path (03 R60 to R62). -/
theorem pathExchanges : Obligations.PathExchanges := by
  intro side other s hne
  refine ⟨fun hidle => ?_, fun hother => ?_, fun hown => ?_, fun hown hwait => ?_, fun hown hwait => ?_, fun hnot => ?_,
    fun hwait => ?_, fun hnot => ?_⟩
  · simp [arbRequest, hidle]
  · cases side <;> cases other <;> simp_all [arbRequest, Side.path]
  · cases side <;> simp_all [arbRequest, Side.path]
  · simp [arbRelease, hown, hwait]
  · simp [arbRelease, hown, hwait]
  · simp [arbRelease, hnot]
  · simp [arbWithdraw, hwait]
  · simp [arbWithdraw, hnot]

/-- Settles O35: an edge moves its line and restarts its debounce timer (04 R66, 06 R111). -/
theorem edgesRestartDebounce : Obligations.EdgesRestartDebounce := by
  intro dt s
  refine ⟨fun hawake => ⟨?_, ?_⟩, fun hshelf => ⟨?_, fun htrig => ?_⟩⟩
  · simp [exec, execTrigEdge, hawake, changeTrig, State.elapse, ms]
  · simp [exec, execBinlatchEdge, hawake, State.elapse, ms]
  · simp [exec, execBinlatchEdge, hshelf, State.elapse]
  · simp [exec, execTrigEdge, hshelf, htrig, State.elapse]

end Sys2Proof.Machine
end

section
/-! PROOFS. The exchanges over the power path, each said once: what a release, a request, an entry selection and an arrival of the run
request can be, and what the charge controller's own operations leave alone. -/

namespace Sys2Proof.Machine

/-! ## Notices as updates of the ports alone -/

theorem raiseHandle_eq (n : HandleNotice) (s : State) : raiseHandle n s = { s with ports := (raiseHandle n s).ports } := rfl

theorem raiseDock_eq (n : DockNotice) (s : State) : raiseDock n s = { s with ports := (raiseDock n s).ports } := rfl

/-- A shelf cancellation touches the notices and the entry alone. -/
theorem cancelShelf_eq (s : State) :
    cancelShelf s = { s with ports := (cancelShelf s).ports, pwr := { s.pwr with entry := .none } } := by
  unfold cancelShelf
  split
  · rename_i h; rw [← h]
  · rfl

/-- A change of charge state touches that state and the handle notices alone. -/
theorem setCharge_eq (st : ChargeState) (s : State) :
    setCharge st s
      = { s with
          chg := { s.chg with state := st }
          ports := { s.ports with handleNotes := (setCharge st s).ports.handleNotes } } := by
  rcases setCharge_cases st s with ⟨h, e⟩ | ⟨-, e⟩ <;> rw [e]
  · rw [← h]
  · rfl

/-- A change of the order touches the order, its bookkeeping and the dock notices alone. -/
theorem putOrder_eq (current ceil : Nat) (s : State) :
    putOrder current ceil s
      = { s with
          chg :=
            { s.chg with
              orderCur := current, orderCeil := ceil, orderNum := (putOrder current ceil s).chg.orderNum
              unreadSince := (putOrder current ceil s).chg.unreadSince }
          ports := { s.ports with dockNotes := (putOrder current ceil s).ports.dockNotes } } := by
  rcases putOrder_cases current ceil s with ⟨rfl, rfl, e⟩ | ⟨-, e⟩ <;> rw [e] <;> rfl

/-! ## What the charge controller's operations leave alone -/

/-- `t` is `s` but for the path, the charge controller and the notices that the controller raises. -/
def ByCharger (s t : State) : Prop :=
  ∃ p w c h d,
    t = { s with
      arb := { s.arb with path := p, waiting := w }, chg := c, ports := { s.ports with handleNotes := h, dockNotes := d } }

theorem ByCharger.refl (s : State) : ByCharger s s := ⟨_, _, _, _, _, rfl⟩

theorem ByCharger.trans {s t u : State} (h : ByCharger s t) (k : ByCharger t u) : ByCharger s u := by
  obtain ⟨_, _, _, _, _, rfl⟩ := h
  obtain ⟨_, _, _, _, _, rfl⟩ := k
  exact ⟨_, _, _, _, _, rfl⟩

theorem ByCharger.chg (s : State) (c : Charger) : ByCharger s { s with chg := c } := ⟨_, _, _, _, _, rfl⟩

theorem setCharge_byCharger (st : ChargeState) (s : State) : ByCharger s (setCharge st s) := by
  rw [setCharge_eq]; exact ⟨_, _, _, _, _, rfl⟩

theorem putOrder_byCharger (current ceil : Nat) (s : State) : ByCharger s (putOrder current ceil s) := by
  rw [putOrder_eq]; exact ⟨_, _, _, _, _, rfl⟩

theorem reformOrder_byCharger (s : State) : ByCharger s (reformOrder s) := putOrder_byCharger _ _ s

theorem arbRelease_byCharger (side : Side) (s : State) : ByCharger s (arbRelease side s).1 := by
  rcases arbRelease_cases side s with ⟨-, e⟩ | ⟨-, -, e⟩ | ⟨_, -, -, e⟩ <;> rw [e] <;> exact ⟨_, _, _, _, _, rfl⟩

theorem pauseCharge_byCharger (reason : PauseReason) (s : State) : ByCharger s (pauseCharge reason s) :=
  (setCharge_byCharger .paused s).trans ((ByCharger.chg _ _).trans (reformOrder_byCharger _))

theorem beginPrecharge_byCharger (s : State) : ByCharger s (beginPrecharge s) :=
  (setCharge_byCharger .precharge s).trans ((ByCharger.chg _ _).trans (reformOrder_byCharger _))

theorem beginBulk_byCharger (s : State) : ByCharger s (beginBulk s) :=
  (setCharge_byCharger .bulk s).trans ((ByCharger.chg _ _).trans (reformOrder_byCharger _))

/-- Entry selection pauses the charge and releases the path, or enters PRECHARGE, or enters BULK (08 R144). -/
theorem entrySelection_cases (s : State) :
    (∃ reason, entrySelection s = (arbRelease .charger (pauseCharge reason s)).1)
      ∨ entrySelection s = beginPrecharge s ∨ entrySelection s = beginBulk s := by
  unfold entrySelection
  split
  · exact Or.inl ⟨_, rfl⟩
  · repeat' split
    · exact Or.inl ⟨_, rfl⟩
    · exact Or.inl ⟨_, rfl⟩
    · exact Or.inl ⟨_, rfl⟩
    · exact Or.inr (Or.inl rfl)
    · exact Or.inr (Or.inr rfl)

theorem entrySelection_byCharger (s : State) : ByCharger s (entrySelection s) := by
  rcases entrySelection_cases s with ⟨reason, e⟩ | e | e <;> rw [e]
  · exact (pauseCharge_byCharger reason s).trans (arbRelease_byCharger _ _)
  · exact beginPrecharge_byCharger s
  · exact beginBulk_byCharger s

theorem chargeTaken_byCharger (s : State) : ByCharger s (chargeTaken s) := by
  unfold chargeTaken
  split
  · exact arbRelease_byCharger _ s
  · exact entrySelection_byCharger s

/-- Everything a release by the suction regulator can be (03 R61). -/
theorem releaseSuction_cases (s : State) :
    (s.arb.path ≠ .discharge ∧ releaseSuction s = s)
      ∨ (s.arb.path = .discharge ∧ s.arb.waiting = none
        ∧ releaseSuction s = { s with arb := { s.arb with path := .idle } })
      ∨ (s.arb.path = .discharge ∧ s.arb.waiting = some .suction
        ∧ releaseSuction s = { s with arb := { s.arb with path := .discharge, waiting := none } })
      ∨ (s.arb.path = .discharge ∧ s.arb.waiting = some .charger
        ∧ releaseSuction s = chargeTaken { s with arb := { s.arb with path := .charge, waiting := none } }) := by
  rcases arbRelease_cases .suction s with ⟨h, e⟩ | ⟨h, k, e⟩ | ⟨other, h, k, e⟩
  · exact Or.inl ⟨h, by simp only [releaseSuction, e]⟩
  · exact Or.inr (Or.inl ⟨h, k, by simp only [releaseSuction, e]⟩)
  · cases other with
    | suction => exact Or.inr (Or.inr (Or.inl ⟨h, k, by simp only [releaseSuction, e]; rfl⟩))
    | charger => exact Or.inr (Or.inr (Or.inr ⟨h, k, by simp only [releaseSuction, e]; rfl⟩))

theorem releaseSuction_byCharger (s : State) : ByCharger s (releaseSuction s) := by
  rcases releaseSuction_cases s with ⟨-, e⟩ | ⟨-, -, e⟩ | ⟨-, -, e⟩ | ⟨-, -, e⟩ <;> rw [e]
  · exact ByCharger.refl s
  · exact ⟨_, _, _, _, _, rfl⟩
  · exact ⟨_, _, _, _, _, rfl⟩
  · exact ByCharger.trans ⟨_, _, _, _, _, rfl⟩ (chargeTaken_byCharger _)

/-- Everything a release by the charge controller can be (03 R61). -/
theorem releaseCharge_cases (s : State) :
    (s.arb.path ≠ .charge ∧ releaseCharge s = s)
      ∨ (s.arb.path = .charge ∧ s.arb.waiting = none ∧ releaseCharge s = { s with arb := { s.arb with path := .idle } })
      ∨ (s.arb.path = .charge ∧ s.arb.waiting = some .charger
        ∧ releaseCharge s = { s with arb := { s.arb with path := .charge, waiting := none } })
      ∨ (s.arb.path = .charge ∧ s.arb.waiting = some .suction
        ∧ releaseCharge s = suctionTaken { s with arb := { s.arb with path := .discharge, waiting := none } }) := by
  rcases arbRelease_cases .charger s with ⟨h, e⟩ | ⟨h, k, e⟩ | ⟨other, h, k, e⟩
  · exact Or.inl ⟨h, by simp only [releaseCharge, e]⟩
  · exact Or.inr (Or.inl ⟨h, k, by simp only [releaseCharge, e]⟩)
  · cases other with
    | charger => exact Or.inr (Or.inr (Or.inl ⟨h, k, by simp only [releaseCharge, e]; rfl⟩))
    | suction => exact Or.inr (Or.inr (Or.inr ⟨h, k, by simp only [releaseCharge, e]; rfl⟩))

/-- Everything a request for CHARGE can be (08 R141; 03 R60). -/
theorem requestCharge_cases (s : State) :
    (s.arb.path = .idle
        ∧ requestCharge s
          = entrySelection
            (stopDeepTimer (cancelShelf { s with arb := { s.arb with path := .charge, waiting := none } })))
      ∨ (s.arb.path = .charge ∧ requestCharge s = s)
      ∨ (s.arb.path = .discharge
        ∧ requestCharge s
          = reformOrder (setCharge .waitIdle { s with arb := { s.arb with waiting := some .charger } })) := by
  rcases arbRequest_cases .charger s with ⟨h, e⟩ | ⟨_, h, e⟩ | ⟨h, k, e⟩
  · exact Or.inl ⟨h, by simp only [requestCharge, e]; rfl⟩
  · exact Or.inr (Or.inl ⟨h, by simp only [requestCharge, e]⟩)
  · refine Or.inr (Or.inr ⟨?_, by simp only [requestCharge, e]⟩)
    cases hp : s.arb.path with
    | idle => exact absurd hp h
    | discharge => rfl
    | charge => exact absurd hp k

/-- Everything an arrival of the run request in STOPPED can be (04 R70). -/
theorem arriveStopped_cases (s : State) :
    (s.bin.state = .detached ∧ arriveStopped s = raiseHandle .binOpen s)
      ∨ (s.bin.state ≠ .detached ∧ s.arb.path = .idle
        ∧ arriveStopped s
          = enterStarting
            (stopDeepTimer (cancelShelf { s with arb := { s.arb with path := .discharge, waiting := none } })))
      ∨ (s.bin.state ≠ .detached ∧ s.arb.path = .discharge ∧ arriveStopped s = enterStarting s)
      ∨ (s.bin.state ≠ .detached ∧ s.arb.path = .charge
        ∧ arriveStopped s
          = raiseHandle .runWait
            (recompute
              { s with arb := { s.arb with waiting := some .suction }, suc := { s.suc with state := .waitPath } })) := by
  by_cases hbin : s.bin.state = .detached
  · exact Or.inl ⟨hbin, by simp only [arriveStopped, if_pos hbin]⟩
  · rcases arbRequest_cases .suction s with ⟨h, e⟩ | ⟨_, h, e⟩ | ⟨h, k, e⟩
    · exact Or.inr (Or.inl ⟨hbin, h, by simp only [arriveStopped, if_neg hbin, e]; rfl⟩)
    · exact Or.inr (Or.inr (Or.inl ⟨hbin, h, by simp only [arriveStopped, if_neg hbin, e]⟩))
    · refine Or.inr (Or.inr (Or.inr ⟨hbin, ?_, by simp only [arriveStopped, if_neg hbin, e]⟩))
      cases hp : s.arb.path with
      | idle => exact absurd hp h
      | discharge => exact absurd hp k
      | charge => rfl

/-- The regulator stands at a release of its own: only the charge controller acts on it. -/
@[simp] theorem releaseSuction_suc (s : State) : (releaseSuction s).suc = s.suc := by
  obtain ⟨_, _, _, _, _, e⟩ := releaseSuction_byCharger s
  rw [e]

@[simp] theorem releaseSuction_head (s : State) : (releaseSuction s).head = s.head := by
  obtain ⟨_, _, _, _, _, e⟩ := releaseSuction_byCharger s
  rw [e]

@[simp] theorem releaseSuction_bin (s : State) : (releaseSuction s).bin = s.bin := by
  obtain ⟨_, _, _, _, _, e⟩ := releaseSuction_byCharger s
  rw [e]

@[simp] theorem releaseSuction_dirt (s : State) : (releaseSuction s).dirt = s.dirt := by
  obtain ⟨_, _, _, _, _, e⟩ := releaseSuction_byCharger s
  rw [e]

@[simp] theorem releaseSuction_acct (s : State) : (releaseSuction s).acct = s.acct := by
  obtain ⟨_, _, _, _, _, e⟩ := releaseSuction_byCharger s
  rw [e]

@[simp] theorem releaseSuction_pwr (s : State) : (releaseSuction s).pwr = s.pwr := by
  obtain ⟨_, _, _, _, _, e⟩ := releaseSuction_byCharger s
  rw [e]

end Sys2Proof.Machine
end

section
/-! PROOFS. The acts of the part: the smallest changes out of which every operation is made, block by block. An invariant that every
act keeps is kept by every operation; each operation is shown once to be made of acts, whatever the invariant. -/

namespace Sys2Proof.Machine

/-! ## What one block may do -/

/-- The offset and the PER_64 run stand or lie within their bounds, and so does the invalid count (01 R14, R17, R18). -/
structure SamplerMove (m n : Sampler) : Prop where
  offset : n.offset = m.offset ∨ n.offset.natAbs ≤ 500
  run : n.run.count = m.run.count ∨ n.run.count ≤ 63
  invalid : n.invalidCount = m.invalidCount ∨ n.invalidCount ≤ 255

/-- Rcell stands, is R_INIT, or is what the computation in flight gives; a capture takes Rcell as it stands (02 R22, R27, R28). -/
structure AllowanceMove (rInit : Nat) (a b : Allowance) : Prop where
  rcell : b.rcell = a.rcell ∨ b.rcell = rInit
    ∨ ∃ c, a.inflight = some c ∧ b.rcell = a.pendingRInit.getD (figures c.inputs).rcellAfter
  inflight : b.inflight = a.inflight ∨ b.inflight = none ∨ ∃ c, b.inflight = some c ∧ c.inputs.rcell = a.rcell
  pending : b.pendingRInit = a.pendingRInit ∨ b.pendingRInit = none ∨ b.pendingRInit = some rInit

/-- What the floor-head unit does by itself, but for a head that goes ABSENT and for the overload count of a scan (05 R89 to R96). -/
inductive HeadMove (now : Nat) (bin : BinState) (h : Head) : Head → Prop
  | arrive : HeadMove now bin h (h.arrive bin)
  | runEnd : HeadMove now bin h (h.runEnd now)
  | quiet : HeadMove now bin h { h with silence := none }
  | heard (until_ : Nat) (present : h.info.isSome = true) : HeadMove now bin h { h with silence := some until_ }
  | hello (info : HeadInfo) (until_ : Nat) (powered : h.wand = true) (rated : info.rating ≤ 120) :
    HeadMove now bin h { h with info := some info, silence := some until_, overload := 0 }
  | again (info : HeadInfo) (f : FloorType) (present : h.info.isSome = true) (rated : info.rating ≤ 120) :
    HeadMove now bin h { h with info := some info, floor := f }
  | floor (f : FloorType) (present : h.info.isSome = true) : HeadMove now bin h { h with floor := f }

/-- The floor-head unit as a head leaves it that goes ABSENT (05 R94). -/
def Head.gone (h : Head) : Head := { h with info := none, silence := none, floor := .unknown, overload := 0 }

/-- The requests on the claim pool, each with what its checks have found (03 R47 to R51). -/
inductive PoolMove (t : Settings) (info : Option HeadInfo) (a : Arbiter) : Arbiter → Prop
  | pushSuction (k : ClaimKind) (label : Byte) (value : k.inRange = true) (room : a.suction.length < t.depthSuction) :
    PoolMove t info a (a.pushSuction k label)
  | pushBrush (k : ClaimKind) (label : Byte) (value : k.inRange = true) (kind : k.isCurve = false)
    (room : a.brush.length < t.depthBrush) (present : info.isSome = true) : PoolMove t info a (a.pushBrush k label)
  | popSuction : PoolMove t info a a.popSuction
  | popBrush : PoolMove t info a a.popBrush
  | replaceSuction (k : ClaimKind) (value : k.inRange = true) : PoolMove t info a (a.replaceSuction k)
  | replaceBrush (k : ClaimKind) (value : k.inRange = true) (kind : k.isCurve = false) :
    PoolMove t info a (a.replaceBrush k)
  | dropSuction : PoolMove t info a a.dropSuction
  | dropBrush : PoolMove t info a a.dropBrush
  | dropBoth : PoolMove t info a a.dropBoth

/-- The dirt monitor at rest: window CLOSED, indices 0, HEAVY off (06 R101). -/
def Dirt.AtRest (d : Dirt) : Prop :=
  d.window = none ∧ d.raw = 0 ∧ d.eff = 0 ∧ d.heavy = false ∧ d.lockCount = 0 ∧ d.unlockCount = 0

/-- What the dirt monitor does by itself; a window expiry finds the window OPEN (06 R100, R101, R108). -/
inductive DirtMove (t : Settings) (now : Nat) (d : Dirt) : Dirt → Prop
  | leave (count : Nat) (kept : count ≤ d.count) : DirtMove t now d { d.leave with count := count }
  | edge : DirtMove t now d (d.edge now)
  | expire (w : Window) (isOpen : d.window = some w) : DirtMove t now d (d.expire t now).1

/-- What the bin gauge does by itself (06 R111 to R122). -/
inductive BinMove (t : Settings) (b : Bin) : Bin → Prop
  | marks (timer : Option Nat) (last : Option Halves) : BinMove t b { b with latchTimer := timer, lastTry := last }
  | start (pend : Bool) (fitted : b.state ≠ .detached) : BinMove t b { b.start t with calPending := pend }
  | ended (r : BinResult) : BinMove t b { b with meas := none, lastResult := r, seq := (b.seq + 1) % 256 }
  | hop (m : Measurement) (flies : b.meas = some m) (more : m.tryNo < 4) :
    BinMove t b { b with meas := some { m with tryNo := m.tryNo + 1, step := (m.step + 1) % 4 } }
  | good (m : Measurement) (count : Nat) (flies : b.meas = some m) (live : 0 < count) :
    BinMove t b
      (Bin.applyGood t count
        { b with workStep := m.step, meas := none, lastResult := .good, seq := (b.seq + 1) % 256 }).1
  | close (was : b.closed = false) : BinMove t b { b with closed := true, state := .uncal }
  | opens (still : b.meas = none) :
    BinMove t b { b with closed := false, state := .detached, cal := none, calPending := false }
  | reform (pct : Nat) : BinMove t b (b.reform t.fullRatio pct).1
  | rejudge (pct : Nat) : BinMove t b (b.rejudge pct).1
  | uncalibrate : BinMove t b b.uncalibrate
  | cancel (timer : Option Nat) (last : Option Halves) :
    BinMove t b { b with meas := none, lastTry := last, calPending := false, latchTimer := timer }

/-- What the charge account does by itself (07). -/
inductive AccountMove (cap : Nat) (a : Account) : Account → Prop
  | marks (b : Account) (q : b.q = a.q) (acc : b.acc = a.acc) (fcc : b.fcc = a.fcc) (out : b.discharged = a.discharged) :
    AccountMove cap a b
  | scan (r : ScanRecord) : AccountMove cap a (a.scan r)
  | emptyMark : AccountMove cap a a.emptyMark
  | fullMark : AccountMove cap a (a.fullMark cap)

/-- What the charge controller does without touching its order: the state stands, or a dock is seen in ABSENT; what the order is
formed of in BULK stands (08 R139, R145, R155). -/
structure ChargerMove (c d : Charger) : Prop where
  state : d.state = c.state ∨ c.state = .absent ∧ d.state = .qualify
  cur : d.orderCur = c.orderCur
  ceil : d.orderCeil = c.orderCeil
  num : d.orderNum = c.orderNum
  bulk : d.state = .bulk → d.cap = c.cap ∧ d.cold = c.cold
  bleeds : d.bleeds = c.bleeds ∨ noNeighbours d.bleeds.toList = true

/-- A change of the settings alone that the table and the owner's check allow (10 R175); DESIGN_CAP, CHG_I and CHG_VCELL act at the
write and are not among these. -/
inductive SettingsMove (depthS depthH : Nat) (t : Settings) : Settings → Prop
  | numeric (id : Nat) (lo hi v : Int) (range : settingRange id = some (lo, hi)) (low : lo ≤ v) (high : v ≤ hi)
    (vcut : id = 2 → (t.vstop : Int) + 100 ≤ v) (vstop : id = 3 → v + 100 ≤ t.vcut)
    (suction : id = 11 → (depthS : Int) ≤ v) (brush : id = 12 → (depthH : Int) ≤ v)
    (own : id ≠ 40 ∧ id ≠ 41 ∧ id ≠ 42) : SettingsMove depthS depthH t (t.setNumeric id v)
  | choice (z : AutoZero) (n : NoiseMode) (d h : Bool) (mask : BitVec 15) :
    SettingsMove depthS depthH t { t with autozero := z, noiseMode := n, double := d, hop := h, attnMask := mask }
  | derate (points : List DeratePoint) (ok : derateOk points = true) (eight : points.length = 8) :
    SettingsMove depthS depthH t { t with derate := points }
  | hard (c : Curve) (ok : c.ok = true) : SettingsMove depthS depthH t { t with hard := c }
  | carpet (c : Curve) (ok : c.ok = true) : SettingsMove depthS depthH t { t with carpet := c }

/-! ## The acts -/

/-- The smallest changes of the whole part. What an act couples (a recomputation with the allowance it follows, an order with the state
it is formed in) is what no invariant allows between. -/
inductive Act (s : State) : State → Prop
  | marks (now : Nat) (trig latch : Bool) (ports : Ports) (pwr : Power) (choices : Nat) (later : s.now ≤ now) :
    Act s { s with now := now, trigLine := trig, latchLine := latch, ports := ports, pwr := pwr, choices := choices }
  | sampler (m : Sampler) (h : SamplerMove s.smp m) : Act s { s with smp := m }
  | allowance (a : Allowance) (h : AllowanceMove s.settings.rInit s.alw a) (same : a.pallow = s.alw.pallow) :
    Act s { s with alw := a }
  | recompute (a : Allowance) (hd : Head) (h : AllowanceMove s.settings.rInit s.alw a)
    (k : hd = s.head ∨ hd = s.head.runEnd s.now) : Act s (recompute { s with alw := a, head := hd })
  | head (hd : Head) (h : HeadMove s.now s.bin.state s.head hd) : Act s { s with head := hd }
  | headGone : Act s { s with head := s.head.gone, arb := s.arb.dropBrush }
  | powerOff : Act s (wandPowerOff s)
  | path (p : Path) (w : Option Side) : Act s { s with arb := { s.arb with path := p, waiting := w } }
  | pool (a : Arbiter) (h : PoolMove s.settings s.head.info s.arb a) : Act s { s with arb := a }
  | suctionMarks (u : Suction) (state : u.state = s.suc.state) (target : u.target ≤ s.suc.target)
    (duty : u.duty ≤ s.suc.duty) : Act s { s with suc := u }
  | suctionSteers (u : Suction) (state : u.state = s.suc.state) (steered : s.suc.state.steered = true)
    (target : s.suc.target ≤ s.arb.gs → u.target ≤ s.arb.gs) (duty : u.duty ≤ 1000) : Act s { s with suc := u }
  | suctionRests (u : Suction) (state : u.state ≠ .running) (dirt : s.suc.state = .running → s.dirt.AtRest)
    (rest : u.target = 0 ∧ u.duty = 0
      ∨ s.suc.state.steered = false ∧ u.target ≤ s.suc.target ∧ u.duty ≤ s.suc.duty) : Act s { s with suc := u }
  | suctionRuns (from_ : s.suc.state = .starting) :
    Act s
      { s with
        suc := { s.suc with state := .running, stallTimer := none }, dirt := s.dirt.enter s.now s.settings.win }
  | dirt (d : Dirt) (h : DirtMove s.settings s.now s.dirt d) : Act s { s with dirt := d }
  | bin (b : Bin) (h : BinMove s.settings s.bin b) : Act s { s with bin := b }
  | account (a : Account) (h : AccountMove s.settings.designCap s.acct a) : Act s { s with acct := a }
  | charger (c : Charger) (h : ChargerMove s.chg c) : Act s { s with chg := c }
  | reform (c : Charger) (num : c.orderNum = s.chg.orderNum)
    (bleeds : c.bleeds = s.chg.bleeds ∨ c.bleeds = Bleeds.off) : Act s (reformOrder { s with chg := c })
  | lower (current : Nat) (topoff : s.chg.state = .topoff) : Act s (putOrder current s.settings.chgVcell s)
  | settings (t : Settings) (h : SettingsMove s.arb.suction.length s.arb.brush.length s.settings t) :
    Act s { s with settings := t }
  | designCap (v : Nat) (low : 1000 ≤ v) (high : v ≤ 6000) :
    Act s { s with settings := { s.settings with designCap := v }, acct := s.acct.applyDesignCap v }
  | chgI (v : Nat) (low : 500 ≤ v) (high : v ≤ 4000) :
    Act s (reformOrder { s with settings := { s.settings with chgI := v } })
  | chgVcell (v : Nat) (low : 4000 ≤ v) (high : v ≤ 4250) :
    Act s (reformOrder { s with settings := { s.settings with chgVcell := v } })
  | softReset : Act s (softReset s)

/-- `t` is reached from `s` by acts. -/
def Work : State → State → Prop := Relation.ReflTransGen Act

theorem Work.refl (s : State) : Work s s := Relation.ReflTransGen.refl

theorem Work.trans {s t u : State} (h : Work s t) (k : Work t u) : Work s u := Relation.ReflTransGen.trans h k

theorem Act.work {s t : State} (h : Act s t) : Work s t := Relation.ReflTransGen.single h

theorem Work.of_eq {s t : State} (h : t = s) : Work s t := h ▸ Work.refl s

/-- What every act keeps, all work keeps. -/
theorem Work.keeps {P : State → Prop} (act : ∀ s t, Act s t → P s → P t) {s t : State} (h : Work s t) (p : P s) : P t := by
  induction h with
  | refl => exact p
  | tail _ k ih => exact act _ _ k ih

/-- What every act keeps of a state, all work keeps. -/
theorem Work.frame {R : State → State → Prop} (refl : ∀ s, R s s) (trans : ∀ s t u, R s t → R t u → R s u)
    (act : ∀ s t, Act s t → R s t) {s t : State} (h : Work s t) : R s t := by
  induction h with
  | refl => exact refl _
  | tail _ k ih => exact trans _ _ _ ih (act _ _ k)

/-! ## What no act touches -/

theorem wandPowerOff_now (s : State) : (wandPowerOff s).now = s.now := (wandPowerOff_core s).1

theorem softReset_frame (s : State) :
    (softReset s).now = s.now ∧ (softReset s).gens = s.gens ∧ (softReset s).pending = s.pending := by
  simp [softReset]

/-- Time does not run back; generations and queue stand. -/
def Onward (s t : State) : Prop := s.now ≤ t.now ∧ t.gens = s.gens ∧ t.pending = s.pending

theorem Act.onward {s t : State} (h : Act s t) : Onward s t := by
  cases h with
  | marks _ _ _ _ _ _ later => exact ⟨later, rfl, rfl⟩
  | recompute => simp [Onward]
  | powerOff =>
    obtain ⟨now, -, -, -, -, -, gens, pending, -⟩ := wandPowerOff_core s
    exact ⟨now.ge, gens, pending⟩
  | reform => simp [Onward]
  | lower => simp [Onward]
  | chgI => simp [Onward]
  | chgVcell => simp [Onward]
  | softReset =>
    obtain ⟨now, gens, pending⟩ := softReset_frame s
    exact ⟨now.ge, gens, pending⟩
  | _ => exact ⟨le_rfl, rfl, rfl⟩

theorem Work.onward {s t : State} (h : Work s t) : Onward s t :=
  h.frame (fun _ => ⟨le_rfl, rfl, rfl⟩)
    (fun _ _ _ a b => ⟨a.1.trans b.1, b.2.1.trans a.2.1, b.2.2.trans a.2.2⟩) (fun _ _ => Act.onward)

end Sys2Proof.Machine
end

section
/-! PROOFS. The exchanges of the suction regulator, the arbiter, the charge controller and the bin gauge are made of acts. -/

namespace Sys2Proof.Machine

/-! ## Notices, recomputation, the path -/

/-- Clock, lines, ports, power control and choices are marks: any change of them alone is an act. -/
theorem Work.marks {s t : State}
    (h : t = { s with now := t.now, trigLine := t.trigLine, latchLine := t.latchLine, ports := t.ports, pwr := t.pwr
                      choices := t.choices })
    (later : s.now ≤ t.now) : Work s t := by
  rw [h]; exact (Act.marks _ _ _ _ _ _ later).work

theorem raiseHandle_work (n : HandleNotice) (s : State) : Work s (raiseHandle n s) := Work.marks rfl le_rfl

theorem raiseDock_work (n : DockNotice) (s : State) : Work s (raiseDock n s) := Work.marks rfl le_rfl

theorem cancelShelf_work (s : State) : Work s (cancelShelf s) := by
  rw [cancelShelf_eq]; exact Work.marks rfl le_rfl

theorem stopDeepTimer_work (s : State) : Work s (stopDeepTimer s) := Work.marks rfl le_rfl

theorem elapse_work (s : State) (dt : Nat) : Work s (s.elapse dt) := Work.marks rfl (Nat.le_add_right _ _)

theorem reach_work (s : State) (d : Nat) : Work s (s.reach d) := Work.marks rfl (Nat.le_max_left _ _)

/-- An allowance that stands is a move of it. -/
theorem AllowanceMove.refl (rInit : Nat) (a : Allowance) : AllowanceMove rInit a a := ⟨Or.inl rfl, Or.inl rfl, Or.inl rfl⟩

theorem recompute_work (s : State) : Work s (recompute s) :=
  (Act.recompute s.alw s.head (AllowanceMove.refl _ _) (Or.inl rfl)).work

theorem path_work (p : Path) (w : Option Side) (s : State) :
    Work s { s with arb := { s.arb with path := p, waiting := w } } := (Act.path p w).work

theorem arbRequest_work (side : Side) (s : State) : Work s (arbRequest side s).1 := by
  rcases arbRequest_cases side s with ⟨-, e⟩ | ⟨-, -, e⟩ | ⟨-, -, e⟩ <;> rw [e]
  · exact (path_work side.path none s).trans ((cancelShelf_work _).trans (stopDeepTimer_work _))
  · exact Work.refl s
  · exact path_work s.arb.path (some side) s

theorem arbRelease_work (side : Side) (s : State) : Work s (arbRelease side s).1 := by
  rcases arbRelease_cases side s with ⟨-, e⟩ | ⟨-, -, e⟩ | ⟨other, -, -, e⟩ <;> rw [e]
  · exact Work.refl s
  · exact path_work .idle s.arb.waiting s
  · exact path_work other.path none s

theorem arbWithdraw_work (side : Side) (s : State) : Work s (arbWithdraw side s) := by
  rcases arbWithdraw_cases side s with ⟨-, e⟩ | ⟨-, e⟩ <;> rw [e]
  · exact path_work s.arb.path none s
  · exact Work.refl s

/-! ## The charge order and the charge states -/

/-- A change of charge state with the order formed in it is work. -/
theorem setCharge_reform_work (st : ChargeState) (c : Charger) (s : State) (num : c.orderNum = s.chg.orderNum)
    (bleeds : c.bleeds = s.chg.bleeds ∨ c.bleeds = Bleeds.off) :
    Work s (reformOrder { setCharge st s with chg := c }) := by
  rw [setCharge_eq]
  have raises : Work s { s with ports := { s.ports with handleNotes := (setCharge st s).ports.handleNotes } } :=
    Work.marks rfl le_rfl
  refine raises.trans (Act.work ?_)
  exact Act.reform (s := { s with ports := { s.ports with handleNotes := (setCharge st s).ports.handleNotes } }) c num
    bleeds

theorem pauseCharge_work (reason : PauseReason) (s : State) : Work s (pauseCharge reason s) :=
  setCharge_reform_work .paused _ s (by simp) (Or.inr rfl)

theorem beginPrecharge_work (s : State) : Work s (beginPrecharge s) :=
  setCharge_reform_work .precharge _ s (by simp) (Or.inl (by simp))

theorem beginBulk_work (s : State) : Work s (beginBulk s) :=
  setCharge_reform_work .bulk _ s (by simp) (Or.inl (by simp))

theorem waitIdle_work (s : State) : Work s (reformOrder (setCharge .waitIdle s)) :=
  setCharge_reform_work .waitIdle (setCharge .waitIdle s).chg s (by simp) (Or.inl (by simp))

theorem entrySelection_work (s : State) : Work s (entrySelection s) := by
  rcases entrySelection_cases s with ⟨reason, e⟩ | e | e <;> rw [e]
  · exact (pauseCharge_work reason s).trans (arbRelease_work _ _)
  · exact beginPrecharge_work s
  · exact beginBulk_work s

theorem chargeTaken_work (s : State) : Work s (chargeTaken s) := by
  unfold chargeTaken
  split
  · exact arbRelease_work _ s
  · exact entrySelection_work s

theorem releaseSuction_work (s : State) : Work s (releaseSuction s) := by
  rcases releaseSuction_cases s with ⟨-, e⟩ | ⟨-, -, e⟩ | ⟨-, -, e⟩ | ⟨-, -, e⟩ <;> rw [e]
  · exact Work.refl s
  · exact path_work .idle s.arb.waiting s
  · exact path_work .discharge none s
  · exact (path_work .charge none s).trans (chargeTaken_work _)

theorem requestCharge_work (s : State) : Work s (requestCharge s) := by
  rcases requestCharge_cases s with ⟨-, e⟩ | ⟨-, e⟩ | ⟨-, e⟩ <;> rw [e]
  · exact (path_work .charge none s).trans
      ((cancelShelf_work _).trans ((stopDeepTimer_work _).trans (entrySelection_work _)))
  · exact Work.refl s
  · exact (path_work s.arb.path (some .charger) s).trans (waitIdle_work _)

/-! ## The bin gauge -/

/-- What the gauge does by itself is work. -/
theorem bin_work {s : State} {b : Bin} (h : BinMove s.settings s.bin b) : Work s { s with bin := b } := (Act.bin b h).work

theorem autoMeasure_work (s : State) : Work s (autoMeasure s) := by
  unfold autoMeasure
  split
  · rename_i h
    refine bin_work (BinMove.start s.bin.calPending ?_)
    intro detached
    simp [detached] at h
  · exact Work.refl s

theorem completeMeasurement_work (r : BinResult) (s : State) : Work s (completeMeasurement r s) :=
  (bin_work (BinMove.ended r)).trans ((raiseHandle_work _ _).trans (raiseDock_work _ _))

theorem abortMeasurement_work (s : State) : Work s (abortMeasurement s) := by
  unfold abortMeasurement
  split
  · exact completeMeasurement_work _ s
  · exact Work.refl s

theorem raiseIfFull_work (raised : Bool) (s : State) : Work s (raiseIfFull raised s) := by
  unfold raiseIfFull
  split
  · exact raiseHandle_work _ s
  · exact Work.refl s

/-! ## The suction states -/

/-- The regulator enters a state other than RUNNING with target and duty 0; where it leaves RUNNING the dirt monitor is at rest. -/
theorem rests_work {s : State} {u : Suction} (state : u.state ≠ .running) (dirt : s.suc.state = .running → s.dirt.AtRest)
    (rest : u.target = 0 ∧ u.duty = 0) : Work s { s with suc := u } := (Act.suctionRests u state dirt (Or.inl rest)).work

/-- The regulator changes between states that are not steered and keeps target and duty. -/
theorem idles_work {s : State} {u : Suction} (state : u.state ≠ .running) (from_ : s.suc.state.steered = false)
    (target : u.target = s.suc.target) (duty : u.duty = s.suc.duty) : Work s { s with suc := u } :=
  (Act.suctionRests u state (fun h => by simp [h, SuctionState.steered] at from_)
    (Or.inr ⟨from_, target.le, duty.le⟩)).work

/-- Marks of the regulator: state, target and duty stand. -/
theorem suctionMarks_work {s : State} {u : Suction} (state : u.state = s.suc.state) (target : u.target = s.suc.target)
    (duty : u.duty = s.suc.duty) : Work s { s with suc := u } := (Act.suctionMarks u state target.le duty.le).work

theorem Dirt.leave_atRest (d : Dirt) : d.leave.AtRest := ⟨rfl, rfl, rfl, rfl, rfl, rfl⟩

theorem leaveRunning_work (s : State) : Work s (leaveRunning s) := by
  unfold leaveRunning
  split
  · exact (Act.dirt _ (DirtMove.leave 0 (Nat.zero_le _))).work
  · exact Work.refl s

/-- Past an exit from RUNNING the dirt monitor is at rest. -/
theorem leaveRunning_atRest (s : State) (h : (leaveRunning s).suc.state = .running) : (leaveRunning s).dirt.AtRest := by
  unfold leaveRunning at h ⊢
  split at h
  · rename_i running; rw [if_pos running]; exact s.dirt.leave_atRest
  · rename_i other; exact absurd h other

theorem enterStarting_work (s : State) (h : s.suc.state ≠ .running) : Work s (enterStarting s) := by
  have starts : Work s { s with suc := s.suc.toStarting s.now } :=
    rests_work (by simp [Suction.toStarting]) (fun k => absurd k h) ⟨rfl, rfl⟩
  refine starts.trans ?_
  unfold enterStarting
  dsimp only
  split
  · exact (abortMeasurement_work _).trans (recompute_work _)
  · exact recompute_work _

theorem arriveStopped_work (s : State) (h : s.suc.state = .stopped) : Work s (arriveStopped s) := by
  rcases arriveStopped_cases s with ⟨-, e⟩ | ⟨-, -, e⟩ | ⟨-, -, e⟩ | ⟨-, -, e⟩ <;> rw [e]
  · exact raiseHandle_work _ s
  · exact (path_work .discharge none s).trans
      ((cancelShelf_work _).trans ((stopDeepTimer_work _).trans (enterStarting_work _ (by simp [h]))))
  · exact enterStarting_work s (by simp [h])
  · have waits : Work { s with arb := { s.arb with waiting := some .suction } }
        { s with arb := { s.arb with waiting := some .suction }, suc := { s.suc with state := .waitPath } } :=
      idles_work (by simp) (by simp [h, SuctionState.steered]) rfl rfl
    exact (path_work s.arb.path (some .suction) s).trans
      (waits.trans ((recompute_work _).trans (raiseHandle_work _ _)))

theorem afterStopped_work (s : State) (h : s.suc.state = .stopped) : Work s (afterStopped s) := by
  unfold afterStopped
  split
  · refine (Work.marks (t := { s with choices := s.choices + 1 }) rfl le_rfl).trans ?_
    dsimp only
    split
    · exact (autoMeasure_work _).trans (arriveStopped_work _ (by simpa using h))
    · exact (arriveStopped_work { s with choices := s.choices + 1 } h).trans (autoMeasure_work _)
  · exact autoMeasure_work s

theorem endStopping_work (s : State) (h : s.suc.state = .running → s.dirt.AtRest) : Work s (endStopping s) := by
  have stops : Work s { s with suc := s.suc.toStopped } := rests_work (by simp [Suction.toStopped]) h ⟨rfl, rfl⟩
  exact stops.trans
    ((releaseSuction_work _).trans ((recompute_work _).trans (afterStopped_work _ (by simp [Suction.toStopped]))))

theorem enterStopping_work (s : State) : Work s (enterStopping s) := by
  have stopping : Work s { leaveRunning s with suc := (leaveRunning s).suc.toStopping (leaveRunning s).now } :=
    (leaveRunning_work s).trans (rests_work (by simp [Suction.toStopping]) (leaveRunning_atRest s) ⟨rfl, rfl⟩)
  refine stopping.trans ?_
  unfold enterStopping
  dsimp only
  split
  · exact endStopping_work _ (by simp [Suction.toStopping])
  · exact recompute_work _

theorem enterRunning_work (s : State) (h : s.suc.state = .starting) : Work s (enterRunning s) :=
  (Act.suctionRuns h).work.trans (recompute_work _)

theorem passThrough_work (s : State) (h : s.suc.state ≠ .running) : Work s (passThrough s) := by
  have stops : Work s { s with suc := (s.suc.toStarting s.now).toStopped } :=
    rests_work (by simp [Suction.toStopped]) (fun k => absurd k h) ⟨rfl, rfl⟩
  have measures := stops.trans ((arbRelease_work .suction _).trans ((recompute_work _).trans (autoMeasure_work _)))
  unfold passThrough
  dsimp only
  split
  · exact measures.trans (raiseHandle_work _ _)
  · exact measures

theorem suctionTaken_work (s : State) : Work s (suctionTaken s) := by
  unfold suctionTaken
  split
  · rename_i h; exact enterStarting_work s (by simp [h])
  · rename_i h
    split
    · exact enterStarting_work s (by simp [h])
    · exact passThrough_work s (by simp [h])
  · exact Work.refl s

theorem releaseCharge_work (s : State) : Work s (releaseCharge s) := by
  rcases releaseCharge_cases s with ⟨-, e⟩ | ⟨-, -, e⟩ | ⟨-, -, e⟩ | ⟨-, -, e⟩ <;> rw [e]
  · exact Work.refl s
  · exact path_work .idle s.arb.waiting s
  · exact path_work .charge none s
  · exact (path_work .discharge none s).trans (suctionTaken_work _)

theorem giveUpWaiting_work (s : State) (h : s.suc.state = .waitPath) : Work s (giveUpWaiting s) := by
  have stops : Work (arbWithdraw .suction s)
      { arbWithdraw .suction s with suc := { (arbWithdraw .suction s).suc with state := .stopped } } :=
    idles_work (by simp) (by simp [h, SuctionState.steered]) rfl rfl
  exact (arbWithdraw_work .suction s).trans (stops.trans (recompute_work _))

theorem faultSuction_work (cause : SuctionCause) (s : State) : Work s (faultSuction cause s) := by
  have faults : Work (leaveRunning s) { leaveRunning s with suc := (leaveRunning s).suc.toFault cause } :=
    rests_work (by simp [Suction.toFault]) (leaveRunning_atRest s) ⟨rfl, rfl⟩
  exact (leaveRunning_work s).trans (faults.trans (raiseHandle_work _ _))

/-! ## Arrival and end of the run request -/

/-- What the floor-head unit does by itself is work. -/
theorem head_work {s : State} {h : Head} (k : HeadMove s.now s.bin.state s.head h) : Work s { s with head := h } :=
  (Act.head h k).work

theorem runArrives_work (s : State) : Work s (runArrives s) := by
  have powers : Work s (recompute { stopDeepTimer (cancelShelf s) with
      head := (stopDeepTimer (cancelShelf s)).head.arrive (stopDeepTimer (cancelShelf s)).bin.state }) :=
    (cancelShelf_work s).trans
      ((stopDeepTimer_work _).trans ((head_work HeadMove.arrive).trans (recompute_work _)))
  unfold runArrives
  dsimp only
  split
  · rename_i h; exact powers.trans (arriveStopped_work _ h)
  · exact powers

theorem runEnds_work (s : State) : Work s (runEnds s) := by
  have powers : Work s (recompute { s with head := s.head.runEnd s.now }) :=
    (head_work HeadMove.runEnd).trans (recompute_work _)
  unfold runEnds
  dsimp only
  split
  · rename_i h; exact powers.trans (giveUpWaiting_work _ h)
  · exact powers.trans (enterStopping_work _)
  · exact powers.trans (enterStopping_work _)
  · rename_i h
    split
    · have stops : Work (recompute { s with head := s.head.runEnd s.now })
          { recompute { s with head := s.head.runEnd s.now } with
            suc := { (recompute { s with head := s.head.runEnd s.now }).suc with state := .stopped } } :=
        idles_work (by simp) (by rw [h]; rfl) rfl rfl
      exact powers.trans (stops.trans (recompute_work _))
    · exact powers
  · exact powers

theorem runChanged_work (before : Bool) (s : State) : Work s (runChanged before s) := by
  unfold runChanged
  split
  · exact runArrives_work s
  · exact runEnds_work s
  · exact Work.refl s

theorem clearLock_work (s : State) : Work s (clearLock s) :=
  (suctionMarks_work rfl rfl rfl : Work s { s with suc := { s.suc with lock := false } }).trans (runChanged_work _ _)

theorem enterFault_work (cause : SuctionCause) (s : State) : Work s (enterFault cause s) := by
  refine (faultSuction_work cause s).trans ?_
  unfold enterFault
  dsimp only
  split
  · exact (head_work HeadMove.runEnd).trans ((recompute_work _).trans (releaseSuction_work _))
  · exact (recompute_work _).trans (releaseSuction_work _)

theorem binDetached_work (s : State) : Work s (binDetached s) := by
  unfold binDetached
  split
  · rename_i h; exact (giveUpWaiting_work s h).trans (raiseHandle_work _ _)
  · exact (raiseHandle_work _ s).trans (enterStopping_work _)
  · exact Work.refl s

/-! ## The charge states -/

theorem enterPaused_work (reason : PauseReason) (s : State) : Work s (enterPaused reason s) :=
  (pauseCharge_work reason s).trans (releaseCharge_work _)

theorem enterTopoff_work (s : State) : Work s (enterTopoff s) :=
  setCharge_reform_work .topoff _ s (by simp) (Or.inl (by simp))

theorem enterBalance_work (s : State) : Work s (enterBalance s) :=
  (setCharge_reform_work .balance _ s (by simp) (Or.inl (by simp))).trans (releaseCharge_work _)

/-- What the charge account does by itself is work. -/
theorem account_work {s : State} {a : Account} (h : AccountMove s.settings.designCap s.acct a) :
    Work s { s with acct := a } := (Act.account a h).work

/-- A change of charge state with a move of the account and the order formed in it is work. -/
theorem setCharge_reform_account_work (st : ChargeState) (c : Charger) (a : Account) (s : State)
    (num : c.orderNum = s.chg.orderNum) (bleeds : c.bleeds = s.chg.bleeds ∨ c.bleeds = Bleeds.off)
    (move : AccountMove s.settings.designCap s.acct a) :
    Work s (reformOrder { setCharge st s with chg := c, acct := a }) := by
  rw [setCharge_eq]
  have raises : Work s { s with ports := { s.ports with handleNotes := (setCharge st s).ports.handleNotes } } :=
    Work.marks rfl le_rfl
  have counts : Work { s with ports := { s.ports with handleNotes := (setCharge st s).ports.handleNotes } }
      { s with ports := { s.ports with handleNotes := (setCharge st s).ports.handleNotes }, acct := a } :=
    account_work move
  refine raises.trans (counts.trans (Act.work ?_))
  exact Act.reform
    (s := { s with ports := { s.ports with handleNotes := (setCharge st s).ports.handleNotes }, acct := a }) c num bleeds

theorem enterDone_work (s : State) : Work s (enterDone s) := by
  refine Work.trans (setCharge_reform_account_work .done _ _ s ?_ (Or.inr rfl) ?_) (releaseCharge_work _)
  · simp
  · simpa using AccountMove.fullMark

theorem enterChargeFault_work (cause : ChargeCause) (s : State) : Work s (enterChargeFault cause s) := by
  refine Work.trans (setCharge_reform_account_work .fault _ _ s ?_ (Or.inr rfl) ?_)
    ((raiseHandle_work .chargeFault _).trans ((raiseDock_work .chargeFault _).trans (releaseCharge_work _)))
  · simp
  · exact AccountMove.marks _ (by simp) (by simp) (by simp) (by simp)

/-- Marks of the charge controller: its state, its order and what the order is formed of stand. -/
theorem chargerMarks_work {s : State} {c : Charger} (h : ChargerMove s.chg c) : Work s { s with chg := c } :=
  (Act.charger c h).work

theorem attachDock_work (s : State) (h : s.chg.state = .absent) : Work s (attachDock s) := by
  refine (cancelShelf_work s).trans ?_
  have opens : Work (cancelShelf s) { cancelShelf s with acct := (cancelShelf s).acct.openSession } :=
    account_work (AccountMove.marks _ rfl rfl rfl rfl)
  refine opens.trans ?_
  have marks : Work { cancelShelf s with acct := (cancelShelf s).acct.openSession }
      { setCharge .qualify (cancelShelf s) with
        chg := { (setCharge .qualify (cancelShelf s)).chg with
          helloTimer := some ((setCharge .qualify (cancelShelf s)).now + ms 1000), detach := 0 }
        acct := (setCharge .qualify (cancelShelf s)).acct.openSession } := by
    refine Work.trans (chargerMarks_work (c := { s.chg with
        state := .qualify, helloTimer := some (s.now + ms 1000), detach := 0 }) ?_) (Work.marks ?_ (by simp))
    · exact ⟨Or.inr ⟨by simpa using h, rfl⟩, by simp, by simp, by simp, by simp, Or.inl (by simp)⟩
    · rw [setCharge_eq]; simp
  exact marks.trans ((raiseHandle_work _ _).trans (clearLock_work _))

/-- A charger of a state that forms no order takes its values of ABSENT. -/
theorem Charger.cleared_move (c : Charger) (h : c.state = .absent) : ChargerMove c c.cleared :=
  ⟨Or.inl rfl, rfl, rfl, rfl, fun k => absurd (h.symm.trans k) (by decide), Or.inr rfl⟩

theorem reformOrder_state (s : State) : (reformOrder s).chg.state = s.chg.state := (putOrder_order _ _ s).2.2

theorem Account.closeSession_move (cap : Nat) (a : Account) : AccountMove cap a a.closeSession := by
  unfold Account.closeSession
  split <;> exact AccountMove.marks _ rfl rfl rfl rfl

theorem detachDock_work (s : State) : Work s (detachDock s) := by
  have leaves : Work s (reformOrder (setCharge .absent s)) :=
    setCharge_reform_work .absent (setCharge .absent s).chg s (by simp) (Or.inl (by simp))
  refine leaves.trans ?_
  refine (chargerMarks_work (Charger.cleared_move _ (by simp [reformOrder_state]))).trans ?_
  refine Work.trans (account_work (Account.closeSession_move _ _)) ?_
  exact (raiseHandle_work _ _).trans ((releaseCharge_work _).trans (arbWithdraw_work _ _))

/-! ## Wand power and head presence -/

theorem dropBrushStack_work (s : State) : Work s (dropBrushStack s) :=
  (Act.pool _ PoolMove.dropBrush).work.trans (recompute_work _)

theorem headAbsent_work (s : State) : Work s (headAbsent s) := by
  unfold headAbsent
  split
  · exact (Act.headGone (s := s)).work.trans ((raiseHandle_work .headChange _).trans (recompute_work _))
  · exact Work.refl s

theorem wandPowerOff_work (s : State) : Work s (wandPowerOff s) := Act.powerOff.work

end Sys2Proof.Machine
end

section
/-! PROOFS. The owners' requests are made of acts. -/

namespace Sys2Proof.Machine

/-! ## What the port's checks have found before an owner acts (09 R166) -/

/-- A request that passed the port's checks is permitted, has its length, and on the wand link comes from a PRESENT head unless it is
IDENT or HEAD_HELLO. -/
theorem portRefusal_none {k : ReqKind} {link : Link} {p : List Byte} {s : State} (h : portRefusal k link p s = none) :
    permitted link k = true ∧ lengthOk k p = true
      ∧ (link = .wand → k ≠ .ident → k ≠ .headHello → s.head.info.isSome = true) := by
  unfold portRefusal at h
  split at h
  · cases h
  · rename_i allowed
    obtain ⟨⟨-, presence⟩, length, -⟩ := by simpa only [Option.or_eq_none_iff] using h
    refine ⟨by simpa using allowed, ?_, fun wand ident hello => ?_⟩
    · by_contra bad
      simp [bad] at length
    · by_contra absent
      simp [presenceRefusal, wand, ident, hello] at presence absent
      exact absurd absent presence

/-! ## WRITE_SET (10 R175) -/

/-- A value that the owner's check lets pass keeps VSTOP 100 below VCUT and the depths over their stacks. -/
theorem ownerRefusal_none {id : Nat} {v : Int} {s : State} (h : ownerRefusal id v s = none) :
    (id = 2 → (s.settings.vstop : Int) + 100 ≤ v) ∧ (id = 3 → v + 100 ≤ s.settings.vcut)
      ∧ (id = 11 → (s.arb.suction.length : Int) ≤ v) ∧ (id = 12 → (s.arb.brush.length : Int) ≤ v) := by
  refine ⟨?_, ?_, ?_, ?_⟩ <;> rintro rfl <;> simp [ownerRefusal] at h <;> omega

theorem clampInt_bounds {lo hi : Int} (v : Int) (h : lo ≤ hi) : lo ≤ clampInt lo hi v ∧ clampInt lo hi v ≤ hi := by
  unfold clampInt; omega

/-- A numeric tunable's range is not empty. -/
theorem settingRange_le {id : Nat} {lo hi : Int} (h : settingRange id = some (lo, hi)) : lo ≤ hi := by
  unfold settingRange at h
  split at h <;> cases h <;> decide

/-- A settings move is work. -/
theorem settings_work {s : State} {t : Settings}
    (h : SettingsMove s.arb.suction.length s.arb.brush.length s.settings t) : Work s { s with settings := t } :=
  (Act.settings t h).work

/-- A recomputation where a bin state changed, and BIN_FULL where it is raised, after a move of the gauge. -/
theorem takeBin_work (p : Bin × Bool) (s : State) (h : BinMove s.settings s.bin p.1) : Work s (takeBin p s) := by
  have moves : Work s (raiseIfFull p.2 { s with bin := p.1 }) := (bin_work h).trans (raiseIfFull_work _ _)
  unfold takeBin
  dsimp only
  split
  · exact moves
  · exact moves.trans (recompute_work _)

/-- A move of the allowance unit that publishes nothing is work. -/
theorem allowance_work {s : State} {a : Allowance} (h : AllowanceMove s.settings.rInit s.alw a)
    (same : a.pallow = s.alw.pallow) : Work s { s with alw := a } := (Act.allowance a h same).work

/-- A move of the sampler is work. -/
theorem sampler_work {s : State} {m : Sampler} (h : SamplerMove s.smp m) : Work s { s with smp := m } :=
  (Act.sampler m h).work

/-- The order formed in a charger whose order number stands is work. -/
theorem reform_work {s : State} {c : Charger} (num : c.orderNum = s.chg.orderNum)
    (bleeds : c.bleeds = s.chg.bleeds ∨ c.bleeds = Bleeds.off) : Work s (reformOrder { s with chg := c }) :=
  (Act.reform c num bleeds).work

theorem applyRInit_work (s : State) : Work s (applyRInit s) := by
  unfold applyRInit
  split
  · exact allowance_work ⟨Or.inr (Or.inl rfl), Or.inl rfl, Or.inl rfl⟩ rfl
  · exact allowance_work ⟨Or.inl rfl, Or.inl rfl, Or.inr (Or.inr rfl)⟩ rfl

/-- What an owner does at the write, but for the owners of DESIGN_CAP, CHG_I and CHG_VCELL, whose setting is taken in the same act. -/
theorem applyNumeric_work (id : Nat) (old : Settings) (s : State) (own : id ≠ 40 ∧ id ≠ 41 ∧ id ≠ 42) :
    Work s (applyNumeric id old s) := by
  unfold applyNumeric
  split
  · exact applyRInit_work s
  · split
    · exact Work.refl s
    · exact takeBin_work _ s BinMove.uncalibrate
  · exact takeBin_work _ s (BinMove.reform _)
  · exact takeBin_work _ s (BinMove.rejudge _)
  · exact absurd rfl own.1
  · exact absurd rfl own.2.1
  · exact absurd rfl own.2.2
  · exact Work.refl s

/-- A number within natural bounds is the number of its value. -/
theorem toNat_bounds {lo hi : Nat} {v : Int} (low : (lo : Int) ≤ v) (high : v ≤ hi) : lo ≤ v.toNat ∧ v.toNat ≤ hi := by
  omega

/-- A numeric tunable taken and applied is work. -/
theorem takeNumeric_work {id : Nat} {lo hi v : Int} {s : State} (range : settingRange id = some (lo, hi)) (low : lo ≤ v)
    (high : v ≤ hi) (check : ownerRefusal id v s = none) :
    Work s (applyNumeric id s.settings { s with settings := s.settings.setNumeric id v }) := by
  by_cases own : id ≠ 40 ∧ id ≠ 41 ∧ id ≠ 42
  · obtain ⟨vcut, vstop, suction, brush⟩ := ownerRefusal_none check
    exact (settings_work (SettingsMove.numeric id lo hi v range low high vcut vstop suction brush own)).trans
      (applyNumeric_work id _ _ own)
  · rcases (by omega : id = 40 ∨ id = 41 ∨ id = 42) with rfl | rfl | rfl <;> simp only [settingRange] at range <;>
      cases range
    · exact (Act.designCap _ (toNat_bounds low high).1 (toNat_bounds low high).2).work
    · exact (Act.chgI _ (toNat_bounds low high).1 (toNat_bounds low high).2).work
    · exact (Act.chgVcell _ (toNat_bounds low high).1 (toNat_bounds low high).2).work

theorem writeNumeric_work (id : Nat) (lo hi v : Int) (s : State) (range : settingRange id = some (lo, hi)) :
    Work s (writeNumeric id lo hi v s).st := by
  obtain ⟨low, high⟩ := clampInt_bounds v (settingRange_le range)
  unfold writeNumeric
  dsimp only
  split
  · exact Work.refl s
  · rename_i check; exact takeNumeric_work range low high check

theorem writeAutozero_work (v : Int) (s : State) : Work s (writeAutozero v s).st := by
  have takes (z : AutoZero) :
      Work s { s with settings := { s.settings with autozero := z }, smp := { s.smp with run := ⟨0, 0⟩ } } :=
    (settings_work (SettingsMove.choice z s.settings.noiseMode s.settings.double s.settings.hop s.settings.attnMask)).trans
      (sampler_work ⟨Or.inl rfl, Or.inr (Nat.zero_le _), Or.inl rfl⟩)
  unfold writeAutozero
  dsimp only
  split
  · exact takes .off
  · split
    · exact takes .perScan
    · split
      · exact takes .per64
      · exact Work.refl s

theorem writeNoiseMode_work (v : Int) (s : State) : Work s (writeNoiseMode v s).st := by
  have takes (n : NoiseMode) : Work s { s with settings := { s.settings with noiseMode := n } } :=
    settings_work (SettingsMove.choice s.settings.autozero n s.settings.double s.settings.hop s.settings.attnMask)
  unfold writeNoiseMode
  split
  · exact takes .manual
  · split
    · exact takes .auto
    · exact Work.refl s

theorem writeDouble_work (v : Int) (s : State) : Work s (writeDouble v s).st := by
  have takes (b : Bool) : Work s { s with settings := { s.settings with double := b } } :=
    settings_work (SettingsMove.choice s.settings.autozero s.settings.noiseMode b s.settings.hop s.settings.attnMask)
  unfold writeDouble
  split
  · exact Work.refl s
  · split
    · exact Work.refl s
    · dsimp only
      split
      · exact takes _
      · exact (takes _).trans (takeBin_work _ _ BinMove.uncalibrate)

theorem writeHop_work (v : Int) (s : State) : Work s (writeHop v s).st := by
  unfold writeHop
  split
  · exact Work.refl s
  · exact settings_work
      (SettingsMove.choice s.settings.autozero s.settings.noiseMode s.settings.double _ s.settings.attnMask)

theorem writeMask_work (lo hi : Byte) (s : State) : Work s (writeMask lo hi s).st := by
  unfold writeMask
  split
  · exact settings_work
      (SettingsMove.choice s.settings.autozero s.settings.noiseMode s.settings.double s.settings.hop _)
  · exact Work.refl s

/-- Every four bytes of a written derate curve are one point. -/
theorem deratePoints_length : ∀ value : List Byte, (deratePoints value).length = value.length / 4
  | a :: b :: c :: d :: rest => by
    simp only [deratePoints, List.length_cons, deratePoints_length rest]; omega
  | [] | [_] | [_, _] | [_, _, _] => by simp [deratePoints]

theorem writeDerate_work (value : List Byte) (s : State) (length : value.length = 32) :
    Work s (writeDerate value s).st := by
  unfold writeDerate
  dsimp only
  split
  · rename_i ok; exact settings_work (SettingsMove.derate _ ok (by rw [deratePoints_length, length]))
  · exact Work.refl s

/-- A curve whose write is accepted, of eight slopes, lies within its ranges. -/
theorem curve_ok {base : Int} {slopes : List Int} (ok : curveOk base slopes = true) (eight : slopes.length = 8) :
    (⟨base.toNat, slopes⟩ : Curve).ok = true := by
  simp only [curveOk, Bool.and_eq_true, decide_eq_true_eq] at ok
  simp only [Curve.ok, Bool.and_eq_true, decide_eq_true_eq, eight, beq_self_eq_true, and_true]
  exact ⟨by omega, ok.2⟩

theorem curveOf_length (value : List Byte) (h : value.length = 10) : (curveOf value).2.length = 8 := by
  match value, h with
  | _ :: _ :: slopes, h => simpa [curveOf] using h

theorem writeHard_work (value : List Byte) (s : State) (length : value.length = 10) : Work s (writeHard value s).st := by
  unfold writeHard
  dsimp only
  split
  · rename_i ok; exact settings_work (SettingsMove.hard _ (curve_ok ok (curveOf_length value length)))
  · exact Work.refl s

theorem writeCarpet_work (value : List Byte) (s : State) (length : value.length = 10) :
    Work s (writeCarpet value s).st := by
  unfold writeCarpet
  dsimp only
  split
  · rename_i ok; exact settings_work (SettingsMove.carpet _ (curve_ok ok (curveOf_length value length)))
  · exact Work.refl s

theorem writeSetting_work (id : Nat) (value : List Byte) (s : State) (derate : id = 10 → value.length = 32)
    (curve : id = 23 ∨ id = 24 → value.length = 10) : Work s (writeSetting id value s).st := by
  unfold writeSetting
  split
  · rename_i h; exact writeDerate_work value s (derate h)
  split
  · rename_i h; exact writeHard_work value s (curve (Or.inl h))
  split
  · rename_i h; exact writeCarpet_work value s (curve (Or.inr h))
  split
  · split
    · exact writeAutozero_work _ s
    split
    · exact writeNoiseMode_work _ s
    split
    · exact writeDouble_work _ s
    split
    · exact writeHop_work _ s
    split
    · exact writeMask_work _ _ s
    split
    · rename_i range; exact writeNumeric_work _ _ _ _ s range
    · exact Work.refl s
  · exact Work.refl s

theorem serveWriteSet_work (p : List Byte) (s : State) (length : lengthOk .writeSet p = true) :
    Work s (serveWriteSet p s).st := by
  unfold serveWriteSet
  split
  · exact Work.refl s
  · rename_i id value
    refine writeSetting_work _ _ s (fun h => ?_) (fun h => ?_)
    · simpa [lengthOk, settingLength, h] using length
    · rcases h with h | h <;> simpa [lengthOk, settingLength, h] using length

/-! ## The claim requests (03, section 3.2) -/

/-- A move of the pool is work. -/
theorem pool_work {s : State} {a : Arbiter} (h : PoolMove s.settings s.head.info s.arb a) : Work s { s with arb := a } :=
  (Act.pool a h).work

/-- A claim that is taken has a value of 0..600 W, and on the brush stack it is no CURVE. -/
theorem claimKind_some {brush : Bool} {kind : Byte} {value : Nat} {k : ClaimKind}
    (h : claimKind brush kind value = some k) : k.inRange = true ∧ (brush = true → k.isCurve = false) := by
  unfold claimKind at h
  split at h
  · cases h
  · split at h
    · cases h; exact ⟨by simp [ClaimKind.inRange]; omega, fun _ => rfl⟩
    · split at h
      · cases h
      · cases h; rename_i suction; exact ⟨by simp [ClaimKind.inRange]; omega, fun brush => absurd brush suction⟩
    · cases h; exact ⟨rfl, fun _ => rfl⟩
    · cases h

/-- A brush claim held at the head's rating keeps its range and its kind. -/
theorem clampToRating_ok (rating : Nat) {k : ClaimKind} (range : k.inRange = true) (kind : k.isCurve = false) :
    (clampToRating rating k).1.inRange = true ∧ (clampToRating rating k).1.isCurve = false := by
  cases k with
  | level w =>
    have bound : w ≤ 600 := by simpa [ClaimKind.inRange] using range
    by_cases above : rating < w
    · simp only [clampToRating, if_pos above, ClaimKind.inRange, decide_eq_true_eq]
      exact ⟨by omega, rfl⟩
    · simp only [clampToRating, if_neg above]
      exact ⟨range, rfl⟩
  | curve w => cases kind
  | zero => exact ⟨rfl, rfl⟩

theorem pushSuctionClaim_work (kind : Byte) (value : Nat) (label : Byte) (s : State) :
    Work s (pushSuctionClaim kind value label s).st := by
  unfold pushSuctionClaim
  split
  · exact Work.refl s
  · rename_i k named
    split
    · exact Work.refl s
    · rename_i room
      split
      · exact Work.refl s
      · exact (pool_work (PoolMove.pushSuction k label (claimKind_some named).1 (by omega))).trans (recompute_work _)

theorem pushBrushClaim_work (kind : Byte) (value : Nat) (label : Byte) (s : State) (present : s.head.info.isSome = true) :
    Work s (pushBrushClaim kind value label s).st := by
  unfold pushBrushClaim
  split
  · exact Work.refl s
  · rename_i k named
    split
    · exact Work.refl s
    · rename_i room
      split
      · exact Work.refl s
      · obtain ⟨range, curve⟩ := claimKind_some named
        obtain ⟨stored, noCurve⟩ := clampToRating_ok s.rating range (curve rfl)
        exact (pool_work (PoolMove.pushBrush _ label stored noCurve (by omega) present)).trans (recompute_work _)

theorem serveClaimPush_work (link : Link) (p : List Byte) (s : State) (present : link = .wand → s.head.info.isSome = true) :
    Work s (serveClaimPush link p s).st := by
  unfold serveClaimPush
  split
  · split
    · rename_i h; exact pushBrushClaim_work _ _ _ s (present h)
    · exact pushSuctionClaim_work _ _ _ s
  · exact Work.refl s

theorem serveClaimPop_work (link : Link) (p : List Byte) (s : State) : Work s (serveClaimPop link p s).st := by
  unfold serveClaimPop
  split
  · split
    · unfold popBrushClaim
      split
      · exact Work.refl s
      · split
        · exact (pool_work PoolMove.popBrush).trans (recompute_work _)
        · exact Work.refl s
    · unfold popSuctionClaim
      split
      · exact Work.refl s
      · split
        · exact (pool_work PoolMove.popSuction).trans (recompute_work _)
        · exact Work.refl s
  · exact Work.refl s

theorem replaceSuctionClaim_work (kind : Byte) (value : Nat) (label : Byte) (s : State) :
    Work s (replaceSuctionClaim kind value label s).st := by
  unfold replaceSuctionClaim
  split
  · exact Work.refl s
  · rename_i k named
    split
    · exact Work.refl s
    · split
      · exact (pool_work (PoolMove.replaceSuction k (claimKind_some named).1)).trans (recompute_work _)
      · exact Work.refl s

theorem replaceBrushClaim_work (kind : Byte) (value : Nat) (label : Byte) (s : State) :
    Work s (replaceBrushClaim kind value label s).st := by
  unfold replaceBrushClaim
  split
  · exact Work.refl s
  · rename_i k named
    split
    · exact Work.refl s
    · split
      · obtain ⟨range, curve⟩ := claimKind_some named
        obtain ⟨stored, noCurve⟩ := clampToRating_ok s.rating range (curve rfl)
        exact (pool_work (PoolMove.replaceBrush _ stored noCurve)).trans (recompute_work _)
      · exact Work.refl s

theorem serveClaimReplace_work (link : Link) (p : List Byte) (s : State) : Work s (serveClaimReplace link p s).st := by
  unfold serveClaimReplace
  split
  · split
    · exact replaceBrushClaim_work _ _ _ s
    · exact replaceSuctionClaim_work _ _ _ s
  · exact Work.refl s

theorem serveClaimDrop_work (link : Link) (s : State) : Work s (serveClaimDrop link s).st := by
  unfold serveClaimDrop
  split
  · exact (pool_work PoolMove.dropBrush).trans (recompute_work _)
  · exact (pool_work PoolMove.dropSuction).trans (recompute_work _)

/-! ## The other owners -/

theorem serveClearNote_work (link : Link) (p : List Byte) (s : State) : Work s (serveClearNote link p s).st := by
  unfold serveClearNote
  split
  · split
    · exact Work.marks rfl le_rfl
    · exact Work.refl s
  · exact Work.refl s

theorem serveReadRec_st (p : List Byte) (s : State) : (serveReadRec p s).st = s := by
  unfold serveReadRec
  split
  · split
    · rfl
    · dsimp only; split <;> split <;> rfl
  · rfl

theorem serveClearSticky_work (s : State) : Work s (serveClearSticky s).st := by
  have clears : Work s { s with alw := { s.alw with ovfV := false, ovfI := false } } :=
    allowance_work ⟨Or.inl rfl, Or.inl rfl, Or.inl rfl⟩ rfl
  exact clears.trans (account_work (AccountMove.marks _ rfl rfl rfl rfl))

theorem serveShelfEnter_work (s : State) : Work s (serveShelfEnter s).st := by
  unfold serveShelfEnter
  split
  · exact Work.refl s
  · exact Work.marks rfl le_rfl

theorem serveLockOn_work (s : State) : Work s (serveLockOn s).st := by
  unfold serveLockOn
  split
  · exact (suctionMarks_work rfl rfl rfl : Work s { s with suc := { s.suc with lock := true } }).trans
      (runChanged_work _ _)
  · exact Work.refl s

/-- A bin that is fitted may start a measurement, with or without a calibration pending. -/
theorem serveBinMeasure_work (s : State) : Work s (serveBinMeasure s).st := by
  unfold serveBinMeasure
  split
  · exact Work.refl s
  · split
    · exact Work.refl s
    · rename_i rests
      exact bin_work (BinMove.start s.bin.calPending (fun h => rests (Or.inr h)))

theorem serveBinCalEmpty_work (s : State) : Work s (serveBinCalEmpty s).st := by
  unfold serveBinCalEmpty
  split
  · exact Work.refl s
  · split
    · exact Work.refl s
    · rename_i rests
      exact bin_work (BinMove.start true (fun h => rests (Or.inr h)))

theorem headPresent_work (info : HeadInfo) (s : State) (powered : s.head.wand = true) (rated : info.rating ≤ 120) :
    Work s (headPresent info s) :=
  (head_work (HeadMove.hello info _ powered rated)).trans ((raiseHandle_work .headChange _).trans (recompute_work _))

theorem headAgain_work (old new : HeadInfo) (s : State) (present : s.head.info.isSome = true) (rated : new.rating ≤ 120) :
    Work s (headAgain old new s) := by
  have again (f : FloorType) : Work s { s with head := { s.head with info := some new, floor := f } } :=
    head_work (HeadMove.again new f present rated)
  unfold headAgain
  extract_lets f t
  split
  · exact again f
  · exact (again f).trans (recompute_work _)

theorem serveHeadHello_work (p : List Byte) (s : State) : Work s (serveHeadHello p s).st := by
  unfold serveHeadHello
  split
  · dsimp only
    split
    · rename_i powered
      split
      · exact headPresent_work _ s powered (Nat.min_le_left _ _)
      · rename_i was; exact headAgain_work _ _ s (by rw [was]; rfl) (Nat.min_le_left _ _)
    · exact Work.refl s
  · exact Work.refl s

theorem serveFloorReport_work (p : List Byte) (s : State) : Work s (serveFloorReport p s).st := by
  unfold serveFloorReport
  split
  · split
    · exact Work.refl s
    · split
      · rename_i f _ senses
        split
        · exact Work.refl s
        · refine Work.trans (head_work (HeadMove.floor f ?_)) (recompute_work _)
          cases info : s.head.info with
          | none => simp [info] at senses
          | some _ => rfl
      · exact Work.refl s
  · exact Work.refl s

theorem acceptHello_work (c : Capability) (s : State) : Work s (acceptHello c s) := by
  unfold acceptHello
  split
  · refine Work.trans ?_ (requestCharge_work _)
    exact reform_work rfl (Or.inl rfl)
  · exact reform_work rfl (Or.inl rfl)

theorem serveDockHello_work (p : List Byte) (s : State) : Work s (serveDockHello p s).st := by
  unfold serveDockHello
  split
  · split
    · exact Work.refl s
    · split
      · exact Work.refl s
      · exact acceptHello_work _ s
  · exact Work.refl s

theorem serveOrderRead_work (s : State) : Work s (serveOrderRead s).st := by
  unfold serveOrderRead
  split
  · exact Work.refl s
  · exact chargerMarks_work ⟨Or.inl rfl, rfl, rfl, rfl, fun _ => ⟨rfl, rfl⟩, Or.inl rfl⟩

/-! ## Every request -/

theorem ownerServe_work (k : ReqKind) (link : Link) (p : List Byte) (s : State) (length : lengthOk k p = true)
    (present : link = .wand → k ≠ .ident → k ≠ .headHello → s.head.info.isSome = true) :
    Work s (ownerServe k link p s).st := by
  cases k with
  | ident => exact Work.refl s
  | readRec => exact Work.of_eq (serveReadRec_st p s)
  | clearNote => exact serveClearNote_work link p s
  | writeSet => exact serveWriteSet_work p s length
  | clearSticky => exact serveClearSticky_work s
  | softReset => exact Act.softReset.work
  | shelfEnter => exact serveShelfEnter_work s
  | claimPush => exact serveClaimPush_work link p s fun h => present h (by decide) (by decide)
  | claimPop => exact serveClaimPop_work link p s
  | claimReplace => exact serveClaimReplace_work link p s
  | claimDrop => exact serveClaimDrop_work link s
  | lockOn => exact serveLockOn_work s
  | lockOff => exact clearLock_work s
  | binMeasure => exact serveBinMeasure_work s
  | binCalEmpty => exact serveBinCalEmpty_work s
  | headHello => exact serveHeadHello_work p s
  | floorReport => exact serveFloorReport_work p s
  | dockHello => exact serveDockHello_work p s
  | orderRead => exact serveOrderRead_work s

/-- Serving a request, whatever its kind and whatever the checks find, is work. -/
theorem serve_work (link : Link) (r : Request) (s : State) : Work s (serve link r s).st := by
  unfold serve
  split
  · exact Work.refl s
  · split
    · exact Work.refl s
    · rename_i passed
      obtain ⟨-, length, present⟩ := portRefusal_none passed
      exact ownerServe_work _ link r.payload s length present

end Sys2Proof.Machine
end

section
/-! PROOFS. The receivers' work on a scan, the commands of the other blocks, shelf entry and wake are made of acts. -/

namespace Sys2Proof.Machine

/-! ## The suction regulator at a scan (04 R75 to R83) -/

/-- The checks of R75 change the overcurrent count alone. -/
theorem checkMotor_frame (r : ScanRecord) (u : Suction) :
    (u.checkMotor r).1 = { u with overCount := (u.checkMotor r).1.overCount } := by
  unfold Suction.checkMotor
  split
  · split <;> rfl
  · split <;> rfl

/-- The clog count changes the clog state and its counts alone. -/
theorem countClog_frame (t : Settings) (u : Suction) :
    ∃ clogged lock unlock episodes,
      (u.countClog t).1
        = { u with clogged := clogged, lockCount := lock, unlockCount := unlock, episodes := episodes } := by
  unfold Suction.countClog
  split
  · extract_lets n; split <;> exact ⟨_, _, _, _, rfl⟩
  · extract_lets n; split <;> exact ⟨_, _, _, _, rfl⟩

theorem checkMotor_work (r : ScanRecord) (s : State) : Work s { s with suc := (s.suc.checkMotor r).1 } := by
  rw [checkMotor_frame]; exact suctionMarks_work rfl rfl rfl

theorem rampTarget_le {rampUp gs target : Nat} (h : target ≤ gs) : rampTarget rampUp gs target ≤ gs := by
  unfold rampTarget; split <;> omega

theorem steer_state (t : Settings) (gs : Nat) (r : ScanRecord) (u : Suction) : (u.steer t gs r).state = u.state := by
  unfold Suction.steer; dsimp only; split <;> rfl

theorem steer_target (t : Settings) (gs : Nat) (r : ScanRecord) (u : Suction) :
    (u.steer t gs r).target = rampTarget t.rampUp gs u.target := by
  unfold Suction.steer; dsimp only; split <;> rfl

theorem steer_duty_le (t : Settings) (gs : Nat) (r : ScanRecord) (u : Suction) : (u.steer t gs r).duty ≤ 1000 := by
  unfold Suction.steer; exact dutyFor_le _ _ _ _

theorem steer_work (r : ScanRecord) (s : State) (h : s.suc.state.steered = true) :
    Work s { s with suc := s.suc.steer s.settings s.arb.gs r } :=
  (Act.suctionSteers _ (steer_state _ _ _ _) h (fun k => steer_target s.settings s.arb.gs r s.suc ▸ rampTarget_le k)
    (steer_duty_le _ _ _ _)).work

theorem countClog_work (t : Settings) (s : State) : Work s { s with suc := (s.suc.countClog t).1 } := by
  obtain ⟨_, _, _, _, e⟩ := countClog_frame t s.suc
  rw [e]; exact suctionMarks_work rfl rfl rfl

theorem steerScan_work (r : ScanRecord) (s : State) (h : s.suc.state.steered = true) : Work s (steerScan r s) := by
  refine (steer_work r s h).trans ?_
  unfold steerScan
  dsimp only
  split
  · refine (countClog_work s.settings _).trans ?_
    dsimp only
    split
    · split
      · exact (raiseHandle_work .clog _).trans (faultSuction_work .clog _)
      · exact raiseHandle_work .clog _
    · exact Work.refl _
  · exact Work.refl _

/-- The checks of R75 keep the suction state. -/
theorem checkMotor_state (r : ScanRecord) (u : Suction) : (u.checkMotor r).1.state = u.state := by
  rw [checkMotor_frame]

theorem suctionScan_work (r : ScanRecord) (s : State) : Work s (suctionScan r s) := by
  have temp : Work s (if r.isValid then { s with suc := { s.suc with lastTemp := some r.motorTemp } } else s) := by
    split
    · exact suctionMarks_work rfl rfl rfl
    · exact Work.refl s
  refine temp.trans ?_
  unfold suctionScan
  generalize (if r.isValid then { s with suc := { s.suc with lastTemp := some r.motorTemp } } else s) = s
  have steered (h : s.suc.state.steered = true) :
      Work s
        (if s.suc.enableAsked && r.isValid then
          if (s.suc.checkMotor r).2 = .none then steerScan r { s with suc := (s.suc.checkMotor r).1 }
          else faultSuction (s.suc.checkMotor r).2 { s with suc := (s.suc.checkMotor r).1 }
        else steerScan r s) := by
    split
    · split
      · exact (checkMotor_work r s).trans (steerScan_work r _ (by simpa [checkMotor_state] using h))
      · exact (checkMotor_work r s).trans (faultSuction_work _ _)
    · exact steerScan_work r s h
  dsimp only
  split
  · rename_i h
    split
    · exact idles_work (by simp) (by rw [h]; rfl) rfl rfl
    · exact Work.refl s
  · rename_i h; exact steered (by rw [h]; rfl)
  · rename_i h; exact steered (by rw [h]; rfl)
  · split
    · split
      · exact checkMotor_work r s
      · exact (checkMotor_work r s).trans (faultSuction_work _ _)
    · exact Work.refl s
  · exact Work.refl s

/-! ## Allowance unit and hand-offs (01 R19; 02 R21 to R24) -/

/-- The wand-off timer starts where a fault's cleared latch ended the run request (04 R76, 05 R90). -/
def handOffHead (before s : State) : State :=
  if before.runRequest && !s.runRequest then { s with head := s.head.runEnd s.now } else s

/-- The recomputation where the suction or clog state changed or SCAN_FAULT was published (01 R19). -/
def handOffGrants (r : ScanRecord) (before s : State) : State :=
  if s.suc.state != before.suc.state || s.suc.clogged != before.suc.clogged || (!r.isValid && r.invalidCount == 3) then
    recompute s
  else s

/-- The head overload (05 R98). -/
def handOffOverload (before s : State) : State :=
  if before.head.overload < 10 ∧ 10 ≤ s.head.overload then headOverload s else s

theorem scanHandOffs_eq (r : ScanRecord) (before s : State) :
    scanHandOffs r before s = handOffOverload before (handOffGrants r before (handOffHead before s)) := rfl

theorem handOffHead_cases (before s : State) :
    handOffHead before s = s ∨ handOffHead before s = { s with head := s.head.runEnd s.now } := by
  unfold handOffHead
  split
  · exact Or.inr rfl
  · exact Or.inl rfl

theorem handOffHead_work (before s : State) : Work s (handOffHead before s) := by
  rcases handOffHead_cases before s with e | e <;> rw [e]
  · exact Work.refl s
  · exact head_work HeadMove.runEnd

theorem handOffGrants_work (r : ScanRecord) (before s : State) : Work s (handOffGrants r before s) := by
  unfold handOffGrants
  split
  · exact recompute_work s
  · exact Work.refl s

theorem handOffOverload_work (before s : State) : Work s (handOffOverload before s) := by
  unfold handOffOverload
  split
  · exact (raiseHandle_work .headOverload s).trans (wandPowerOff_work _)
  · exact Work.refl s

/-- The third invalid scan in a row: SCAN_FAULT is published and the recomputation follows at once (02 R24; 03 R55). -/
theorem scanFaultHandOffs_work (r : ScanRecord) (before s : State) (invalid : r.isValid = false)
    (third : r.invalidCount = 3) : Work s (handOffGrants r before (handOffHead before (allowanceScan r s))) := by
  have publishes (hd : Head) (k : hd = s.head ∨ hd = s.head.runEnd s.now) :
      Work (raiseHandle .scanFault s)
        (recompute { raiseHandle .scanFault s with
          alw := { s.alw with snapshot := none, pallow := 0, cause := .scanFault }, head := hd }) :=
    (Act.recompute (s := raiseHandle .scanFault s) { s.alw with snapshot := none, pallow := 0, cause := .scanFault } hd
      ⟨Or.inl rfl, Or.inl rfl, Or.inl rfl⟩ k).work
  have publish : allowanceScan r s = raiseHandle .scanFault
      { s with alw := { s.alw with snapshot := none, pallow := 0, cause := .scanFault } } := by
    simp [allowanceScan, invalid, third]
  have recomputes (t : State) : handOffGrants r before t = recompute t := by simp [handOffGrants, invalid, third]
  refine (raiseHandle_work .scanFault s).trans ?_
  rw [recomputes, publish]
  rcases handOffHead_cases before (raiseHandle .scanFault
      { s with alw := { s.alw with snapshot := none, pallow := 0, cause := .scanFault } }) with e | e <;> rw [e]
  · exact publishes s.head (Or.inl rfl)
  · exact publishes (s.head.runEnd s.now) (Or.inr rfl)

/-- The allowance unit's work on any other record (02 R21 to R23). -/
theorem allowanceScan_work (r : ScanRecord) (s : State) (sees : ¬(r.isValid = false ∧ r.invalidCount = 3)) :
    Work s (allowanceScan r s) := by
  unfold allowanceScan
  split
  · exact allowance_work ⟨Or.inl rfl, Or.inr (Or.inr ⟨_, rfl, rfl⟩), Or.inl rfl⟩ rfl
  · split
    · rename_i invalid third; exact absurd ⟨by simpa using invalid, third⟩ sees
    · exact allowance_work ⟨Or.inl rfl, Or.inl rfl, Or.inl rfl⟩ rfl

/-- The allowance unit's work on a record and the hand-offs. -/
theorem allowanceHandOffs_work (r : ScanRecord) (before s : State) :
    Work s (scanHandOffs r before (allowanceScan r s)) := by
  refine Work.trans ?_ (handOffOverload_work before _)
  by_cases blind : r.isValid = false ∧ r.invalidCount = 3
  · exact scanFaultHandOffs_work r before s blind.1 blind.2
  · exact (allowanceScan_work r s blind).trans ((handOffHead_work before _).trans (handOffGrants_work r before _))

/-! ## The bleed selection (08 R155) -/

/-- No cell of the set stands next to another. -/
def Apart (taken : List Nat) : Prop := ∀ i, i ∈ taken → i + 1 ∉ taken

theorem visit_apart (threshold : Nat) (taken : List Nat) (c : Nat × Nat) (h : Apart taken) :
    Apart (visit threshold taken c) := by
  unfold visit
  split
  · rename_i free
    obtain ⟨-, below, above⟩ := free
    simp only [List.contains_eq_mem, decide_eq_false_iff_not] at below above
    intro i member next
    rcases List.mem_cons.1 member with rfl | old
    · rcases List.mem_cons.1 next with same | old'
      · omega
      · exact above old'
    · rcases List.mem_cons.1 next with same | old'
      · exact below (by rw [← same]; exact old)
      · exact h i old old'
  · exact h

theorem visits_apart (threshold : Nat) (cs : List (Nat × Nat)) :
    ∀ taken, Apart taken → Apart (cs.foldl (visit threshold) taken) := by
  induction cs with
  | nil => exact fun _ h => h
  | cons c rest ih => exact fun taken h => ih _ (visit_apart threshold taken c h)

theorem selectBleeds_apart (balDelta : Nat) (cells : Cells) :
    noNeighbours (selectBleeds balDelta cells).toList = true := by
  have apart : Apart ((visitOrder cells).foldl (visit (cells.vmin + balDelta)) []) :=
    visits_apart _ _ [] (fun _ h => absurd h List.not_mem_nil)
  have pair (i : Nat) : i ∈ (visitOrder cells).foldl (visit (cells.vmin + balDelta)) [] →
      i + 1 ∈ (visitOrder cells).foldl (visit (cells.vmin + balDelta)) [] → False := fun a b => apart i a b
  simp only [selectBleeds, Bleeds.toList, noNeighbours, List.contains_eq_mem, Bool.and_true, Bool.and_eq_true,
    Bool.not_eq_true', Bool.and_eq_false_iff, decide_eq_false_iff_not]
  exact ⟨not_and_or.1 fun h => pair 1 h.1 h.2, not_and_or.1 fun h => pair 2 h.1 h.2,
    not_and_or.1 fun h => pair 3 h.1 h.2, not_and_or.1 fun h => pair 4 h.1 h.2, not_and_or.1 fun h => pair 5 h.1 h.2,
    not_and_or.1 fun h => pair 6 h.1 h.2⟩

/-! ## The charge controller at a scan (08 R138, R145, R147 to R157) -/

theorem storeLatest_work (r : ScanRecord) (s : State) : Work s (storeLatest r s) := by
  unfold storeLatest
  extract_lets cold t
  split
  · rename_i same; exact chargerMarks_work ⟨Or.inl rfl, rfl, rfl, rfl, fun _ => ⟨rfl, same⟩, Or.inl rfl⟩
  · exact reform_work rfl (Or.inl rfl)

theorem topoffScan_work (r : ScanRecord) (s : State) (h : s.chg.state = .topoff) : Work s (topoffScan r s) := by
  unfold topoffScan
  extract_lets t
  have lowers : Work s t := by
    change Work s (if _ then _ else _)
    split
    · exact (Act.lower _ h).work
    · exact Work.refl s
  clear_value t
  split
  · split
    · exact lowers.trans (enterBalance_work t)
    · exact lowers.trans (enterDone_work t)
  · exact lowers

theorem chargeTransition_work (r : ScanRecord) (s : State) : Work s (chargeTransition r s) := by
  unfold chargeTransition
  split
  · split
    · exact beginBulk_work s
    · exact Work.refl s
  · split
    · exact enterTopoff_work s
    · exact Work.refl s
  · rename_i h; exact topoffScan_work r s h
  · split
    · exact enterDone_work s
    · exact Work.refl s
  · split
    · exact requestCharge_work s
    · exact Work.refl s
  · split
    · refine Work.trans (chargerMarks_work ?_) (requestCharge_work _)
      exact ⟨Or.inl rfl, rfl, rfl, rfl, fun _ => ⟨rfl, rfl⟩, Or.inl rfl⟩
    · exact Work.refl s
  · exact Work.refl s

theorem chargeSteps_work (r : ScanRecord) (s : State) : Work s (chargeSteps r s) := by
  unfold chargeSteps
  split
  · exact enterChargeFault_work _ s
  split
  · exact enterPaused_work _ s
  split
  · exact enterPaused_work _ s
  split
  · have counts : Work s { s with chg := { s.chg with excess := excessAfter s.chg.orderCur r.i s.chg.excess } } :=
      chargerMarks_work ⟨Or.inl rfl, rfl, rfl, rfl, fun _ => ⟨rfl, rfl⟩, Or.inl rfl⟩
    refine counts.trans ?_
    dsimp only
    split
    · exact chargeTransition_work r _
    · exact enterChargeFault_work _ _
  · exact chargeTransition_work r s

theorem bleedScan_work (r : ScanRecord) (s : State) : Work s (bleedScan r s) := by
  have selects : Work s { s with chg := { s.chg with bleeds := selectBleeds s.settings.balDelta r.cells } } :=
    chargerMarks_work ⟨Or.inl rfl, rfl, rfl, rfl, fun _ => ⟨rfl, rfl⟩, Or.inr (selectBleeds_apart _ _)⟩
  unfold bleedScan
  split
  · exact selects
  · exact selects
  · exact Work.refl s

theorem chargeJudge_work (r : ScanRecord) (s : State) : Work s (chargeJudge r s) := by
  unfold chargeJudge
  split
  · exact (storeLatest_work r s).trans ((chargeSteps_work r _).trans (bleedScan_work r _))
  · have darkens : Work s { s with chg := { s.chg with bleeds := Bleeds.off } } :=
      chargerMarks_work ⟨Or.inl rfl, rfl, rfl, rfl, fun _ => ⟨rfl, rfl⟩, Or.inr rfl⟩
    dsimp only
    split
    · exact darkens.trans (enterPaused_work _ _)
    · exact darkens

theorem chargeScan_work (r : ScanRecord) (s : State) : Work s (chargeScan r s) := by
  unfold chargeScan
  split
  · rename_i absent
    have counts (n : Nat) : Work s { s with chg := { s.chg with attach := n } } :=
      chargerMarks_work ⟨Or.inl rfl, rfl, rfl, rfl, fun _ => ⟨rfl, rfl⟩, Or.inl rfl⟩
    extract_lets n t
    split
    · exact (counts n).trans (attachDock_work _ absent)
    · exact (counts n).trans (chargeJudge_work r _)
  · have counts (n : Nat) : Work s { s with chg := { s.chg with detach := n } } :=
      chargerMarks_work ⟨Or.inl rfl, rfl, rfl, rfl, fun _ => ⟨rfl, rfl⟩, Or.inl rfl⟩
    extract_lets n t
    split
    · exact (counts n).trans (detachDock_work _)
    · exact (counts n).trans (chargeJudge_work r _)

/-! ## The whole scan (01 R19) -/

theorem judgeDeep_work (r : ScanRecord) (s : State) : Work s (judgeDeep r s) := by
  unfold judgeDeep
  split
  · exact Work.marks rfl le_rfl
  · exact Work.refl s

/-- A record received: the work before the overload count. -/
def State.judged (r : ScanRecord) (s : State) : State := { judgeDeep r s with acct := (judgeDeep r s).acct.scan r }

/-- The overload count of a scan taken (05 R97). -/
def State.weighed (r : ScanRecord) (s : State) : State := { s with head := s.head.scan s.arb.gh r }

/-- The receivers up to the hand-offs, and the hand-offs (01 R19). -/
def handedOff (r : ScanRecord) (s : State) : State :=
  scanHandOffs r s (allowanceScan r (suctionScan r ((s.judged r).weighed r)))

theorem judged_work (r : ScanRecord) (s : State) : Work s (s.judged r) :=
  (judgeDeep_work r s).trans (account_work (AccountMove.scan r))

theorem handedOff_work (r : ScanRecord) (s : State) : Work ((s.judged r).weighed r) (handedOff r s) :=
  (suctionScan_work r _).trans (allowanceHandOffs_work r s _)

/-- The release of the path of a motor fault that this scan found follows the charge controller's work (01 R19, log 19). -/
theorem receiveScan_eq (r : ScanRecord) (s : State) :
    receiveScan r s
      = if (allowanceScan r (suctionScan r ((s.judged r).weighed r))).suc.state == .fault && s.suc.state != .fault then
          releaseSuction (chargeScan r (handedOff r s))
        else chargeScan r (handedOff r s) := rfl

theorem receiveScan_work (r : ScanRecord) (s : State) : Work (handedOff r s) (receiveScan r s) := by
  rw [receiveScan_eq]
  split
  · exact (chargeScan_work r _).trans (releaseSuction_work _)
  · exact chargeScan_work r _

/-- Every change of the sampler that auto-zero makes keeps the offset and the run within their bounds. -/
theorem autoZero_move (mode : AutoZero) (q : Bool) (raw : Int) (m : Sampler) : SamplerMove m (autoZero mode q raw m) := by
  have bounded (x : Int) : (clampInt (-500) 500 x).natAbs ≤ 500 := by unfold clampInt; omega
  unfold autoZero
  split
  · exact ⟨Or.inr (bounded _), Or.inl rfl, Or.inl rfl⟩
  · split
    · exact ⟨Or.inr (bounded _), Or.inr (Nat.zero_le _), Or.inl rfl⟩
    · exact ⟨Or.inl rfl, Or.inr (by dsimp only; omega), Or.inl rfl⟩
  · exact ⟨Or.inl rfl, Or.inl rfl, Or.inl rfl⟩
  · exact ⟨Or.inl rfl, Or.inr (Nat.zero_le _), Or.inl rfl⟩

theorem scheduleScan_work (start : Nat) (s : State) : Work s (scheduleScan start s) := by
  unfold scheduleScan
  split <;> exact sampler_work ⟨Or.inl rfl, Or.inl rfl, Or.inl rfl⟩

/-- The record of a completion and the state in which its receivers find it (01 R19). -/
def State.published (first : Bool) (k : ScanCodes) (s : State) : State :=
  { s with
    smp :=
      { s.smp with
        number := (scanRecord s.smp first k).number, invalidCount := (scanRecord s.smp first k).invalidCount
        table := some (scanRecord s.smp first k) } }

theorem published_work (first : Bool) (k : ScanCodes) (s : State) : Work s (s.published first k) := by
  refine sampler_work ⟨Or.inl rfl, Or.inl rfl, Or.inr ?_⟩
  simp only [scanRecord, countUp]
  split <;> omega

theorem completeScan_work (start : Nat) (first : Bool) (k : ScanCodes) (s : State) :
    Work (receiveScan (scanRecord s.smp first k) (s.published first k)) (completeScan start first k s) :=
  Work.trans (sampler_work (autoZero_move _ _ _ _)) (scheduleScan_work _ _)

end Sys2Proof.Machine
end

section
/-! PROOFS. Every command but POWER_ON is made of acts, of the weighing of the head's current at a scan, and of the advance of record
generations; so what these keep, every step keeps. -/

namespace Sys2Proof.Machine

/-! ## Soft reset, shelf entry, wake (10 R180, R181, R183) -/

theorem shelveCharger_work (s : State) : Work s (shelveCharger s) := by
  have leaves : Work s (reformOrder { s with chg := { s.chg with state := .absent } }) := reform_work rfl (Or.inl rfl)
  refine leaves.trans ?_
  have absent : (reformOrder { s with chg := { s.chg with state := .absent } }).chg.state = .absent := by
    rw [reformOrder_state]
  have clears : Work (reformOrder { s with chg := { s.chg with state := .absent } })
      { reformOrder { s with chg := { s.chg with state := .absent } } with
        chg :=
          { (reformOrder { s with chg := { s.chg with state := .absent } }).chg.cleared with
            detach := 0, faultCause := s.chg.faultCause } } :=
    chargerMarks_work ⟨Or.inl rfl, rfl, rfl, rfl, fun h => absurd (absent.symm.trans h) (by decide), Or.inr rfl⟩
  refine clears.trans ?_
  refine Work.trans (account_work (Account.closeSession_move _ _)) ?_
  refine (raiseHandle_work .chargeState _).trans ?_
  unfold shelveCharger
  dsimp only
  split
  · exact Work.refl _
  · exact raiseHandle_work .dockChange _

theorem carryShelf_work (cause : ShelfCause) (s : State) : Work s (carryShelf cause s) := by
  let stopped : State := { s with suc := s.suc.shelve }
  have stops : Work s stopped := (Act.suctionMarks s.suc.shelve rfl (Nat.zero_le _) (Nat.zero_le _)).work
  let closed : State := { stopped with dirt := { s.dirt.leave with count := s.dirt.count } }
  have closes : Work stopped closed := (Act.dirt (s := stopped) _ (DirtMove.leave s.dirt.count le_rfl)).work
  let off : State := shelveCharger (wandPowerOff closed)
  have leaves : Work closed off := (wandPowerOff_work _).trans (shelveCharger_work _)
  let sampled : State := { off with smp := { off.smp with phase := .stopped, run := ⟨0, 0⟩ } }
  have samples : Work off sampled := sampler_work ⟨Or.inl rfl, Or.inr (Nat.zero_le _), Or.inl rfl⟩
  let dropped : State := { sampled with arb := off.arb.dropBoth }
  have drops : Work sampled dropped := pool_work PoolMove.dropBoth
  let rested : State := { dropped with bin := { off.bin with latchTimer := none } }
  have rests : Work dropped rested := bin_work (BinMove.marks none off.bin.lastTry)
  refine stops.trans (closes.trans (leaves.trans (samples.trans (drops.trans (rests.trans (Work.trans ?_
    (recompute_work _)))))))
  exact Work.marks rfl le_rfl

theorem wakeUp_work (cause : WakeInput) (s : State) : Work s (wakeUp cause s) := by
  let awake : State := { s with pwr := { s.pwr with awake := true, wakeCause := some cause } }
  have wakes : Work s awake := Work.marks rfl le_rfl
  let sampled : State := { awake with smp := { s.smp with cadence := .slow, phase := .resting s.now true } }
  have samples : Work awake sampled := sampler_work ⟨Or.inl rfl, Or.inl rfl, Or.inl rfl⟩
  let debounced : State :=
    { sampled with suc := { s.suc with trigTimer := some (s.now + ms 20), speed := 0, lastPulse := none } }
  have debounces : Work sampled debounced := suctionMarks_work rfl rfl rfl
  let latched : State := { debounced with bin := { s.bin with latchTimer := some (s.now + ms 20) } }
  have latches : Work debounced latched := bin_work (BinMove.marks _ s.bin.lastTry)
  let counted : State := { latched with acct := { s.acct with lastI := none, iavg := 0 } }
  have counts : Work latched counted := account_work (AccountMove.marks _ rfl rfl rfl rfl)
  let charged : State := { counted with chg := { s.chg with latest := none, attach := 0, detach := 0 } }
  have charges : Work counted charged :=
    chargerMarks_work ⟨Or.inl rfl, rfl, rfl, rfl, fun _ => ⟨rfl, rfl⟩, Or.inl rfl⟩
  have publishes : Work charged (wakeUp cause s) :=
    (Act.recompute (s := charged) { s.alw with pallow := 0, cause := .initial, snapshot := none, episode := false }
      s.head ⟨Or.inl rfl, Or.inl rfl, Or.inl rfl⟩ (Or.inl rfl)).work
  exact wakes.trans (samples.trans (debounces.trans (latches.trans (counts.trans (charges.trans publishes)))))

/-! ## Ports: what an arrival does -/

theorem shelfDelivered_work (s : State) : Work s (shelfDelivered s) := by
  unfold shelfDelivered
  split
  · exact Work.marks rfl le_rfl
  · exact Work.refl s

theorem replaceAnswer_work (s : State) : Work s (replaceAnswer s) := by
  unfold replaceAnswer
  split
  · exact shelfDelivered_work s
  · exact Work.refl s

theorem handleServe_work (r : Request) (s : State) : Work s (handleServe r s) :=
  (serve_work .handle r s).trans (Work.marks rfl le_rfl)

theorem setWire_work (w : Wire) (p : WirePort) (s : State) : Work s (s.setWire w p) := by
  cases w <;> exact Work.marks rfl le_rfl

theorem hear_work (w : Wire) (s : State) : Work s (hear w s) := by
  unfold hear
  split
  · rename_i h; exact head_work (HeadMove.heard _ h.2)
  · exact Work.refl s

theorem wireServe_work (w : Wire) (r : Request) (s : State) : Work s (wireServe w r s) :=
  (hear_work w s).trans ((serve_work _ r _).trans (setWire_work _ _ _))

/-! ## Runs: acts, and the advance of record generations -/

/-- An act, or the note an event makes of itself: generations, and the moment of a switch change (09 R169; 01 R15). -/
inductive Deed (s : State) : State → Prop
  | act {t : State} (h : Act s t) : Deed s t
  | note (g : Generations) (m : Option Nat) : Deed s { s with gens := g, smp := { s.smp with lastSwitch := m } }

/-- `t` is reached from `s` by acts and notes. -/
def Run : State → State → Prop := Relation.ReflTransGen Deed

theorem Run.refl (s : State) : Run s s := Relation.ReflTransGen.refl

theorem Run.trans {s t u : State} (h : Run s t) (k : Run t u) : Run s u := Relation.ReflTransGen.trans h k

theorem Work.run {s t : State} (h : Work s t) : Run s t := by
  induction h with
  | refl => exact Run.refl s
  | tail _ act ih => exact Run.trans ih (Relation.ReflTransGen.single (Deed.act act))

/-- What acts and notes keep, every run keeps. -/
theorem Run.keeps {P : State → Prop} (act : ∀ s t, Act s t → P s → P t)
    (note : ∀ s g m, P s → P { s with gens := g, smp := { s.smp with lastSwitch := m } }) {s t : State} (h : Run s t)
    (p : P s) : P t := by
  induction h with
  | refl => exact p
  | tail _ deed ih =>
    cases deed with
    | act h => exact act _ _ h ih
    | note g m => exact note _ g m ih

theorem note_run (g : Generations) (m : Option Nat) (s : State) :
    Run s { s with gens := g, smp := { s.smp with lastSwitch := m } } := Relation.ReflTransGen.single (Deed.note g m)

theorem event_run {f : State → State} {s t : State} (h : Run s t) (k : Work t (f t)) : Run s (event f t) :=
  h.trans (k.run.trans (note_run _ _ _))

theorem bleedEvent_run (before : Bleeds) (s : State) : Run s (bleedEvent before s) := by
  unfold bleedEvent
  split
  · exact Run.refl s
  · exact note_run { s.gens with cells := s.gens.cells + 1#8 } s.smp.lastSwitch s

theorem handleArrive_run (r : Request) (s : State) : Run s (handleArrive r s) := by
  unfold handleArrive
  split
  · exact Work.run (Work.marks rfl le_rfl)
  · exact event_run (event_run (Run.refl s) (replaceAnswer_work s)) (handleServe_work r _)

theorem answerReady_run (s : State) : Run s (answerReady s) := by
  have readies : Run s
      { s with ports := { s.ports with handle := { s.ports.handle with slot := .answerReady } } } :=
    Work.run (Work.marks rfl le_rfl)
  unfold answerReady
  dsimp only
  split
  · exact readies
  · refine readies.trans (Run.trans ?_ (handleArrive_run _ _))
    exact Work.run (Work.marks rfl le_rfl)

theorem shiftOut_run (n : Nat) (s : State) : Run s (shiftOut n s) := by
  unfold shiftOut
  dsimp only
  split
  · exact event_run (Work.run (Work.marks rfl le_rfl)) (shelfDelivered_work _)
  · exact Work.run (Work.marks rfl le_rfl)

theorem shiftIn_run (mosi : List Byte) (s : State) : Run s (shiftIn mosi s) := by
  unfold shiftIn
  split
  · exact Run.refl s
  · split
    · exact Run.refl s
    · split
      · exact handleArrive_run _ s
      · exact Run.refl s

theorem wakeByLink_run (n : Nat) (s : State) : Run s (wakeByLink n s) :=
  event_run (Work.run (Work.marks rfl le_rfl)) (wakeUp_work .link _)

theorem wireByte_run (w : Wire) (s : State) (b : Byte) : Run s (wireByte w s b) := by
  unfold wireByte
  dsimp only
  split
  · exact Run.refl s
  split
  · exact (setWire_work w _ s).run
  split
  · exact event_run (Run.refl s) (wireServe_work w _ s)
  · exact (setWire_work w _ s).run
  · exact (setWire_work w _ s).run
  · exact (setWire_work w _ s).run

theorem wireReceive_run (w : Wire) (bytes : List Byte) (s : State) : Run s (wireReceive w bytes s) := by
  induction bytes generalizing s with
  | nil => exact Run.refl s
  | cons b rest ih => exact (wireByte_run w s b).trans (ih _)

theorem wireArrive_run (w : Wire) (r : Request) (s : State) : Run s (wireArrive w r s) := by
  unfold wireArrive
  dsimp only
  split
  · exact Run.refl s
  split
  · exact (setWire_work w _ s).run
  · exact event_run (Run.refl s) (wireServe_work w r s)

theorem arrive_run (link : Link) (r : Request) (s : State) : Run s (arrive link r s) := by
  unfold arrive
  split
  · cases link with
    | handle =>
      dsimp only
      split
      · exact Run.refl s
      · exact handleArrive_run r s
    | wand => exact wireArrive_run .wand r s
    | dock => exact wireArrive_run .dock r s
  · cases link with
    | handle => exact event_run (Run.refl s) (wakeUp_work .link s)
    | wand => exact Run.refl s
    | dock => exact Run.refl s

/-! ## The commands that are not requests -/

theorem takeTrigger_work (s : State) : Work s (takeTrigger s) := by
  unfold takeTrigger
  split
  · exact Work.refl s
  · refine Work.trans ?_ (runChanged_work _ _)
    exact suctionMarks_work rfl rfl rfl

theorem stallExpires_work (s : State) : Work s (stallExpires s) := by
  unfold stallExpires
  split
  · exact enterFault_work .stall s
  · exact suctionMarks_work rfl rfl rfl

theorem stopExpires_work (s : State) : Work s (stopExpires s) := by
  unfold stopExpires
  split
  · rename_i h; exact endStopping_work s (by simp [h])
  · exact suctionMarks_work rfl rfl rfl

theorem speedUpdate_work (speed : Nat) (s : State) : Work s (speedUpdate speed s) := by
  have updates : Work s { s with suc := { s.suc with speed := speed } } := suctionMarks_work rfl rfl rfl
  unfold speedUpdate
  dsimp only
  split
  · rename_i h
    split
    · exact updates.trans (enterRunning_work _ h)
    · exact updates
  · rename_i h
    split
    · exact updates.trans (endStopping_work _ (by simp [h]))
    · exact updates
  · exact updates

theorem tachPulse_work (s : State) : Work s (tachPulse s) := by
  have refers : Work s { s with suc := { s.suc with lastPulse := some s.now } } := suctionMarks_work rfl rfl rfl
  unfold tachPulse
  split
  · exact refers
  · split
    · exact Work.refl s
    · exact refers.trans (speedUpdate_work _ _)

theorem tachQuiet_work (s : State) : Work s (tachQuiet s) := by
  have quiets : Work s { s with suc := { s.suc with lastPulse := none } } := suctionMarks_work rfl rfl rfl
  exact quiets.trans (speedUpdate_work 0 _)

theorem raiseIf_work (b : Bool) (n : HandleNotice) (s : State) : Work s (if b then raiseHandle n s else s) := by
  split
  · exact raiseHandle_work n s
  · exact Work.refl s

/-- What the dirt monitor does by itself is work. -/
theorem dirt_work {s : State} {d : Dirt} (h : DirtMove s.settings s.now s.dirt d) : Work s { s with dirt := d } :=
  (Act.dirt d h).work

theorem windowExpires_work (s : State) (w : Window) (isOpen : s.dirt.window = some w) : Work s (windowExpires s) := by
  have expires : Work s { s with dirt := (s.dirt.expire s.settings s.now).1 } := dirt_work (DirtMove.expire w isOpen)
  have raises := expires.trans (raiseIf_work (s.dirt.expire s.settings s.now).2 .heavyDirt _)
  by_cases same : (s.dirt.expire s.settings s.now).1.eff = s.dirt.eff
  · simpa only [windowExpires, if_pos same] using raises
  · simpa only [windowExpires, if_neg same] using raises.trans (recompute_work _)

theorem latchOpens_work (s : State) : Work s (latchOpens s) := by
  refine (abortMeasurement_work s).trans ?_
  have lands : (abortMeasurement s).bin.meas = none := by
    unfold abortMeasurement
    split
    · rfl
    · rename_i h; simpa using h
  have opens := (bin_work (BinMove.opens lands)).trans (recompute_work _)
  refine opens.trans ?_
  unfold latchOpens
  dsimp only
  split
  · exact Work.refl _
  · exact binDetached_work _

theorem latchCloses_work (s : State) (h : s.bin.closed = false) : Work s (latchCloses s) :=
  (bin_work (BinMove.close h)).trans ((recompute_work _).trans (autoMeasure_work _))

theorem takeLatch_work (s : State) : Work s (takeLatch s) := by
  unfold takeLatch
  split
  · rename_i h; exact latchCloses_work s h
  · exact latchOpens_work s
  · exact Work.refl s

/-- A measurement in flight that completes GOOD: the working step, the sequence number and the applied count are one act. -/
theorem completeGood_work (m : Measurement) (count : Nat) (s : State) (flies : s.bin.meas = some m) (live : 0 < count) :
    Work s (completeGood count { s with bin := { s.bin with workStep := m.step } }) := by
  let ended : State := completeMeasurement .good { s with bin := { s.bin with workStep := m.step } }
  have raises : Work s { s with ports := ended.ports } := Work.marks rfl le_rfl
  have applies : Work { s with ports := ended.ports }
      { ended with bin := (ended.bin.applyGood ended.settings count).1 } :=
    (Act.bin (s := { s with ports := ended.ports }) _ (BinMove.good m count flies live)).work
  have good := raises.trans (applies.trans (raiseIfFull_work (ended.bin.applyGood ended.settings count).2 _))
  unfold completeGood
  dsimp only
  split
  · exact good
  · exact good.trans (recompute_work _)

theorem tryCompleted_work (m : Measurement) (h1 h2 : Nat) (s : State) (flies : s.bin.meas = some m) :
    Work s (tryCompleted m h1 h2 s) := by
  have tried : Work s { s with bin := { s.bin with lastTry := some ⟨h1, h2⟩ } } :=
    bin_work (BinMove.marks s.bin.latchTimer _)
  refine tried.trans ?_
  unfold tryCompleted
  dsimp only
  split
  · exact completeMeasurement_work _ _
  · rename_i live
    split
    · split
      · rename_i more
        simp only [Bool.and_eq_true, decide_eq_true_eq] at more
        exact bin_work (BinMove.hop m flies more.2)
      · exact completeMeasurement_work _ _
    · exact completeGood_work m _ _ flies (by split <;> omega)

theorem silenceExpires_work (s : State) : Work s (silenceExpires s) :=
  (head_work HeadMove.quiet).trans (headAbsent_work _)

/-- A mark of the charger's timers and counts. -/
theorem helloExpires_work (s : State) : Work s (helloExpires s) := by
  have stops : Work s { s with chg := { s.chg with helloTimer := none } } :=
    chargerMarks_work ⟨Or.inl rfl, rfl, rfl, rfl, fun _ => ⟨rfl, rfl⟩, Or.inl rfl⟩
  unfold helloExpires
  dsimp only
  split
  · exact stops.trans (enterChargeFault_work _ _)
  · exact stops

theorem prechargeExpires_work (s : State) : Work s (prechargeExpires s) := by
  have stops : Work s { s with chg := { s.chg with preTimer := none } } :=
    chargerMarks_work ⟨Or.inl rfl, rfl, rfl, rfl, fun _ => ⟨rfl, rfl⟩, Or.inl rfl⟩
  unfold prechargeExpires
  dsimp only
  split
  · exact stops.trans (enterChargeFault_work _ _)
  · exact stops

theorem balanceExpires_work (s : State) : Work s (balanceExpires s) := by
  have stops : Work s { s with chg := { s.chg with balTimer := none } } :=
    chargerMarks_work ⟨Or.inl rfl, rfl, rfl, rfl, fun _ => ⟨rfl, rfl⟩, Or.inl rfl⟩
  unfold balanceExpires
  dsimp only
  split
  · exact stops.trans (enterDone_work _)
  · exact stops

/-- The completion of the computation in flight: the empty mark, the publish with its recomputation, GRANT_CUT (02 R30, R36). -/
theorem completeBudget_work (c : Computation) (s : State) (flies : s.alw.inflight = some c) :
    Work s (completeBudget (figures c.inputs) s) := by
  unfold completeBudget
  extract_lets opens t
  let marked : State := { s with acct := if opens then s.acct.emptyMark else s.acct }
  have marks : Work s marked := by
    refine account_work ?_
    split
    · exact AccountMove.emptyMark
    · exact AccountMove.marks _ rfl rfl rfl rfl
  have publishes : Work marked (recompute t) :=
    (Act.recompute (s := marked) _ s.head
      ⟨Or.inr (Or.inr ⟨c, flies, rfl⟩), Or.inr (Or.inl rfl), Or.inr (Or.inl rfl)⟩ (Or.inl rfl)).work
  refine marks.trans (publishes.trans ?_)
  unfold recomputeCompletion
  extract_lets u
  split
  · exact raiseHandle_work .grantCut u
  · exact Work.refl u

/-! ## Every command -/

/-- A request row is the arrival of its request, which always completes. -/
theorem exec_row_run (k : ReqKind) (dt : Nat) (link : Link) (tag : Byte) (p : List Byte) (s : State) :
    ∃ t, exec (k.row dt link tag p) s = .next t ∧ Run s t :=
  ⟨_, exec_row k dt link tag p s, (elapse_work s dt).run.trans (arrive_run link _ _)⟩

theorem execShelfEntry_run (txn : Option (List Byte)) (s : State) : ∃ t, execShelfEntry txn s = .next t ∧ Run s t := by
  have cuts : Run s (cutTransaction txn s) := by
    unfold cutTransaction
    split
    · exact Run.refl s
    · exact shiftOut_run _ s
  unfold execShelfEntry
  extract_lets t
  split
  · exact ⟨_, rfl, event_run cuts (carryShelf_work _ t)⟩
  · exact ⟨_, rfl, Run.refl s⟩

theorem execWake_run (dt : Nat) (input : WakeInput) (s : State) : ∃ t, execWake dt input s = .next t ∧ Run s t := by
  have passes : Run s (s.elapse dt) := (elapse_work s dt).run
  have wakes (cause : WakeInput) : Run s (event (wakeUp cause) (s.elapse dt)) := event_run passes (wakeUp_work cause _)
  unfold execWake
  cases input with
  | trig =>
    dsimp only
    split
    · exact ⟨_, rfl, passes⟩
    · have rises : Run s { s.elapse dt with trigLine := true } := passes.trans (Work.run (Work.marks rfl le_rfl))
      split
      · refine ⟨_, rfl, rises.trans (Work.run ?_)⟩
        exact suctionMarks_work rfl rfl rfl
      · exact ⟨_, rfl, event_run rises (wakeUp_work .trig _)⟩
  | dock =>
    dsimp only
    split
    · exact ⟨_, rfl, passes⟩
    · exact ⟨_, rfl, wakes .dock⟩
  | link =>
    dsimp only
    split
    · exact ⟨_, rfl, passes⟩
    · exact ⟨_, rfl, wakes .link⟩

theorem execTrigEdge_run (dt : Nat) (s : State) : ∃ t, execTrigEdge dt s = .next t ∧ Run s t := by
  have turns (level : Bool) : Run s { s.elapse dt with trigLine := level } :=
    (elapse_work s dt).run.trans (Work.run (Work.marks rfl le_rfl))
  unfold execTrigEdge
  dsimp only
  split
  · refine ⟨_, rfl, (turns (!s.trigLine)).trans (Work.run ?_)⟩
    exact suctionMarks_work rfl rfl rfl
  · split
    · exact ⟨_, rfl, turns false⟩
    · exact ⟨_, rfl, event_run (turns true) (wakeUp_work .trig _)⟩

theorem execBinlatchEdge_run (dt : Nat) (s : State) : ∃ t, execBinlatchEdge dt s = .next t ∧ Run s t := by
  have turns : Run s { s.elapse dt with latchLine := !s.latchLine } :=
    (elapse_work s dt).run.trans (Work.run (Work.marks rfl le_rfl))
  unfold execBinlatchEdge
  dsimp only
  split
  · refine ⟨_, rfl, turns.trans (Work.run ?_)⟩
    exact bin_work (BinMove.marks _ s.bin.lastTry)
  · exact ⟨_, rfl, turns⟩

/-- An event at a deadline is a run, where what happens there is work. -/
theorem expiry_run {f : State → State} (s : State) (d : Nat) (h : Work (s.reach d) (f (s.reach d))) :
    Run s (event f (s.reach d)) := event_run (reach_work s d).run h

/-- Every command but POWER_ON and SCAN_COMPLETION completes, and is made of acts and notes. -/
theorem exec_run (c : Instr) (s : State) (power : c ≠ .powerOn) (scan : ∀ k, c ≠ .scanCompletion k) :
    ∃ t, exec c s = .next t ∧ Run s t := by
  cases c with
  | powerOn => exact absurd rfl power
  | scanCompletion k => exact absurd rfl (scan k)
  | softReset dt link tag p => exact exec_row_run .softReset dt link tag p s
  | ident dt link tag p => exact exec_row_run .ident dt link tag p s
  | readRec dt link tag p => exact exec_row_run .readRec dt link tag p s
  | clearNote dt link tag p => exact exec_row_run .clearNote dt link tag p s
  | writeSet dt link tag p => exact exec_row_run .writeSet dt link tag p s
  | clearSticky dt link tag p => exact exec_row_run .clearSticky dt link tag p s
  | shelfEnter dt link tag p => exact exec_row_run .shelfEnter dt link tag p s
  | claimPush dt link tag p => exact exec_row_run .claimPush dt link tag p s
  | claimPop dt link tag p => exact exec_row_run .claimPop dt link tag p s
  | claimReplace dt link tag p => exact exec_row_run .claimReplace dt link tag p s
  | claimDrop dt link tag p => exact exec_row_run .claimDrop dt link tag p s
  | lockOn dt link tag p => exact exec_row_run .lockOn dt link tag p s
  | lockOff dt link tag p => exact exec_row_run .lockOff dt link tag p s
  | binMeasure dt link tag p => exact exec_row_run .binMeasure dt link tag p s
  | binCalEmpty dt link tag p => exact exec_row_run .binCalEmpty dt link tag p s
  | headHello dt link tag p => exact exec_row_run .headHello dt link tag p s
  | floorReport dt link tag p => exact exec_row_run .floorReport dt link tag p s
  | dockHello dt link tag p => exact exec_row_run .dockHello dt link tag p s
  | orderRead dt link tag p => exact exec_row_run .orderRead dt link tag p s
  | shelfEntry txn => exact execShelfEntry_run txn s
  | wake dt input => exact execWake_run dt input s
  | trigEdge dt => exact execTrigEdge_run dt s
  | binlatchEdge dt => exact execBinlatchEdge_run dt s
  | scanStart =>
    change ∃ t, execScanStart s = .next t ∧ Run s t
    unfold execScanStart
    split
    · rename_i due first _
      have starts : Work (s.reach due) (startScan first (s.reach due)) :=
        sampler_work ⟨Or.inl rfl, Or.inl rfl, Or.inl rfl⟩
      exact ⟨_, rfl, ((reach_work s due).trans starts).run⟩
    · exact ⟨_, rfl, Run.refl s⟩
  | allowanceCompletion =>
    change ∃ t, execAllowanceCompletion s = .next t ∧ Run s t
    unfold execAllowanceCompletion
    split
    · rename_i c flies; exact ⟨_, rfl, expiry_run s _ (completeBudget_work c _ flies)⟩
    · exact ⟨_, rfl, Run.refl s⟩
  | triggerDebounceCompletion =>
    change ∃ t, execTriggerDebounceCompletion s = .next t ∧ Run s t
    unfold execTriggerDebounceCompletion
    split
    · rename_i d _
      have settles : Work (s.reach d) { s.reach d with suc := { (s.reach d).suc with trigTimer := none } } :=
        suctionMarks_work rfl rfl rfl
      exact ⟨_, rfl, event_run ((reach_work s d).trans settles).run (takeTrigger_work _)⟩
    · exact ⟨_, rfl, Run.refl s⟩
  | stallTimerExpiry =>
    change ∃ t, execStallTimerExpiry s = .next t ∧ Run s t
    unfold execStallTimerExpiry
    split
    · exact ⟨_, rfl, expiry_run s _ (stallExpires_work _)⟩
    · exact ⟨_, rfl, Run.refl s⟩
  | stopTimerExpiry =>
    change ∃ t, execStopTimerExpiry s = .next t ∧ Run s t
    unfold execStopTimerExpiry
    split
    · exact ⟨_, rfl, expiry_run s _ (stopExpires_work _)⟩
    · exact ⟨_, rfl, Run.refl s⟩
  | tachPulse dt =>
    change ∃ t, execTachPulse dt s = .next t ∧ Run s t
    unfold execTachPulse
    dsimp only
    split
    · exact ⟨_, rfl, event_run (elapse_work s dt).run (tachPulse_work _)⟩
    · exact ⟨_, rfl, (elapse_work s dt).run⟩
  | tachTimeout =>
    change ∃ t, execTachTimeout s = .next t ∧ Run s t
    unfold execTachTimeout
    split
    · exact ⟨_, rfl, expiry_run s _ (tachQuiet_work _)⟩
    · exact ⟨_, rfl, Run.refl s⟩
  | piezoEdge dt => exact ⟨_, rfl, event_run (elapse_work s dt).run (dirt_work DirtMove.edge)⟩
  | windowExpiry =>
    change ∃ t, execWindowExpiry s = .next t ∧ Run s t
    unfold execWindowExpiry
    split
    · rename_i w isOpen; exact ⟨_, rfl, expiry_run s _ (windowExpires_work _ w isOpen)⟩
    · exact ⟨_, rfl, Run.refl s⟩
  | latchDebounceCompletion =>
    change ∃ t, execLatchDebounceCompletion s = .next t ∧ Run s t
    unfold execLatchDebounceCompletion
    split
    · rename_i d _
      have settles : Work (s.reach d) { s.reach d with bin := { (s.reach d).bin with latchTimer := none } } :=
        bin_work (BinMove.marks none s.bin.lastTry)
      exact ⟨_, rfl, event_run ((reach_work s d).trans settles).run (takeLatch_work _)⟩
    · exact ⟨_, rfl, Run.refl s⟩
  | tryCompletion dt h1 h2 =>
    change ∃ t, execTryCompletion dt h1 h2 s = .next t ∧ Run s t
    unfold execTryCompletion
    dsimp only
    split
    · rename_i m flies; exact ⟨_, rfl, event_run (elapse_work s dt).run (tryCompleted_work m _ _ _ flies)⟩
    · exact ⟨_, rfl, (elapse_work s dt).run⟩
  | silenceExpiry =>
    change ∃ t, execSilenceExpiry s = .next t ∧ Run s t
    unfold execSilenceExpiry
    split
    · exact ⟨_, rfl, expiry_run s _ (silenceExpires_work _)⟩
    · exact ⟨_, rfl, Run.refl s⟩
  | wandOffTimerExpiry =>
    change ∃ t, execWandOffTimerExpiry s = .next t ∧ Run s t
    unfold execWandOffTimerExpiry
    split
    · exact ⟨_, rfl, expiry_run s _ (wandPowerOff_work _)⟩
    · exact ⟨_, rfl, Run.refl s⟩
  | helloTimerExpiry =>
    change ∃ t, execHelloTimerExpiry s = .next t ∧ Run s t
    unfold execHelloTimerExpiry
    split
    · exact ⟨_, rfl, expiry_run s _ (helloExpires_work _)⟩
    · exact ⟨_, rfl, Run.refl s⟩
  | prechargeTimerExpiry =>
    change ∃ t, execPrechargeTimerExpiry s = .next t ∧ Run s t
    unfold execPrechargeTimerExpiry
    split
    · exact ⟨_, rfl, expiry_run s _ (prechargeExpires_work _)⟩
    · exact ⟨_, rfl, Run.refl s⟩
  | balanceTimerExpiry =>
    change ∃ t, execBalanceTimerExpiry s = .next t ∧ Run s t
    unfold execBalanceTimerExpiry
    split
    · exact ⟨_, rfl, expiry_run s _ (balanceExpires_work _)⟩
    · exact ⟨_, rfl, Run.refl s⟩
  | deepDischargeTimerExpiry =>
    change ∃ t, execDeepDischargeTimerExpiry s = .next t ∧ Run s t
    unfold execDeepDischargeTimerExpiry
    split
    · exact ⟨_, rfl, expiry_run s _ (Work.marks rfl le_rfl)⟩
    · exact ⟨_, rfl, Run.refl s⟩
  | frameArrival dt wire bytes =>
    change ∃ t, execFrameArrival dt wire bytes s = .next t ∧ Run s t
    unfold execFrameArrival
    dsimp only
    split
    · exact ⟨_, rfl, (elapse_work s dt).run.trans (wireReceive_run wire bytes _)⟩
    · exact ⟨_, rfl, (elapse_work s dt).run⟩
  | frameStartBit dt wire =>
    change ∃ t, execFrameStartBit dt wire s = .next t ∧ Run s t
    unfold execFrameStartBit
    dsimp only
    split
    · exact ⟨_, rfl, ((elapse_work s dt).trans (setWire_work wire _ _)).run⟩
    · exact ⟨_, rfl, (elapse_work s dt).run⟩
  | gapTimerExpiry dt wire =>
    change ∃ t, execGapTimerExpiry dt wire s = .next t ∧ Run s t
    unfold execGapTimerExpiry
    dsimp only
    split
    · exact ⟨_, rfl, ((elapse_work s dt).trans ((reach_work _ _).trans (setWire_work wire _ _))).run⟩
    · exact ⟨_, rfl, (elapse_work s dt).run⟩
  | responseDelivered dt wire =>
    change ∃ t, execResponseDelivered dt wire s = .next t ∧ Run s t
    unfold execResponseDelivered
    dsimp only
    split
    · exact ⟨_, rfl, ((elapse_work s dt).trans (setWire_work wire _ _)).run⟩
    · exact ⟨_, rfl, (elapse_work s dt).run⟩
  | handleTransaction dt mosi =>
    change ∃ t, execHandleTransaction dt mosi s = .next t ∧ Run s t
    unfold execHandleTransaction
    dsimp only
    split
    · exact ⟨_, rfl, (elapse_work s dt).run.trans ((shiftOut_run _ _).trans (shiftIn_run mosi _))⟩
    · exact ⟨_, rfl, (elapse_work s dt).run.trans (wakeByLink_run _ _)⟩
  | handleAnswerReady dt =>
    change ∃ t, execHandleAnswerReady dt s = .next t ∧ Run s t
    unfold execHandleAnswerReady
    dsimp only
    split
    · exact ⟨_, rfl, (elapse_work s dt).run.trans (answerReady_run _)⟩
    · exact ⟨_, rfl, (elapse_work s dt).run⟩

/-- A scan that completes: acts up to its record, the receivers' own work around the weighing of the head's current, and acts and
notes after the hand-offs. -/
theorem exec_scan_run (k : ScanCodes) (s : State) :
    ∃ t, exec (.scanCompletion k) s = .next t
      ∧ (t = s ∨ ∃ p r, Run s p ∧ Run (handedOff r p) t) := by
  cases phase : s.smp.phase with
  | running start first =>
    refine ⟨_, exec_scanCompletion k s start first phase, Or.inr
      ⟨(s.reach (start + ms 2)).published first k, scanRecord s.smp first k, ?_, ?_⟩⟩
    · exact ((reach_work s _).trans (published_work first k _)).run
    · refine Run.trans ?_ (bleedEvent_run _ _)
      refine Run.trans ?_ (note_run _ _ _)
      exact ((receiveScan_work _ _).trans (completeScan_work start first k _)).run
  | stopped => exact ⟨s, exec_scanCompletion_idle k s (by simp [phase]), Or.inl rfl⟩
  | resting due first => exact ⟨s, exec_scanCompletion_idle k s (by simp [phase]), Or.inl rfl⟩

/-- A condition that every act keeps, and that reads neither generations nor the moment of a switch change, the overload count, the
queue, and that the power-on values meet, is kept by every step. -/
theorem step_keeps {P : State → Prop} (act : ∀ s t, Act s t → P s → P t)
    (note : ∀ s g m, P s → P { s with gens := g, smp := { s.smp with lastSwitch := m } })
    (weigh : ∀ r s, P s → P (State.weighed r s)) (queue : ∀ s l, P s → P { s with pending := l })
    (power : ∀ s, P s → P (State.atPowerOn s.now s.trigLine s.latchLine s.choices s.pending)) :
    ∀ s t, P s → step s = .next t → P t := by
  have runs : ∀ c s t, P s → exec c s = .next t → P t := by
    intro c s t p e
    by_cases on : c = .powerOn
    · subst on
      cases e
      exact power s p
    · by_cases scan : ∃ k, c = .scanCompletion k
      · obtain ⟨k, rfl⟩ := scan
        obtain ⟨u, e', same | ⟨q, r, before, after⟩⟩ := exec_scan_run k s
        · rw [e'] at e; cases e; exact same ▸ p
        · rw [e'] at e
          cases e
          have judged : P (q.judged r) := (judged_work r q).keeps act (before.keeps act note p)
          exact after.keeps act note ((handedOff_work r q).keeps act (weigh r _ judged))
      · obtain ⟨u, e', run⟩ := exec_run c s on (fun k h => scan ⟨k, h⟩)
        rw [e'] at e
        cases e
        exact run.keeps act note p
  intro s t p e
  unfold step at e
  split at e
  · cases e; exact p
  · exact runs _ _ _ (queue s _ p) e

end Sys2Proof.Machine
end

section
/-! PROOFS. The claim pool, the grants and the charge account: what every act keeps. -/

namespace Sys2Proof.Machine

/-! ## One tunable at a time (10 R175) -/

theorem setNumeric_depthSuction (id : Nat) (v : Int) (t : Settings) (h : id ≠ 11) :
    (t.setNumeric id v).depthSuction = t.depthSuction := by
  unfold Settings.setNumeric
  split <;> try rfl
  exact absurd rfl h

theorem setNumeric_depthBrush (id : Nat) (v : Int) (t : Settings) (h : id ≠ 12) :
    (t.setNumeric id v).depthBrush = t.depthBrush := by
  unfold Settings.setNumeric
  split <;> try rfl
  exact absurd rfl h

theorem setNumeric_headShare (id : Nat) (v : Int) (t : Settings) (h : id ≠ 13) :
    (t.setNumeric id v).headShare = t.headShare := by
  unfold Settings.setNumeric
  split <;> try rfl
  exact absurd rfl h

theorem setNumeric_designCap (id : Nat) (v : Int) (t : Settings) (h : id ≠ 40) :
    (t.setNumeric id v).designCap = t.designCap := by
  unfold Settings.setNumeric
  split <;> try rfl
  exact absurd rfl h

theorem setNumeric_rInit (id : Nat) (v : Int) (t : Settings) (h : id ≠ 9) : (t.setNumeric id v).rInit = t.rInit := by
  unfold Settings.setNumeric
  split <;> try rfl
  exact absurd rfl h

theorem setNumeric_fullRatio (id : Nat) (v : Int) (t : Settings) (h : id ≠ 38) :
    (t.setNumeric id v).fullRatio = t.fullRatio := by
  unfold Settings.setNumeric
  split <;> try rfl
  exact absurd rfl h

theorem setNumeric_chgI (id : Nat) (v : Int) (t : Settings) (h : id ≠ 41) : (t.setNumeric id v).chgI = t.chgI := by
  unfold Settings.setNumeric
  split <;> try rfl
  exact absurd rfl h

theorem setNumeric_chgVcell (id : Nat) (v : Int) (t : Settings) (h : id ≠ 42) :
    (t.setNumeric id v).chgVcell = t.chgVcell := by
  unfold Settings.setNumeric
  split <;> try rfl
  exact absurd rfl h

/-! ## The wand power switched off, for conditions that do not read the floor-head unit -/

/-- A condition that reads neither the floor-head unit nor the ports, and that a recomputation and a drop of the brush stack keep, stands
when the wand power goes off (05 R90). -/
theorem powerOff_keeps {P : State → Prop} (again : ∀ s, P s → P (recompute s))
    (head : ∀ s hd, P s → P { s with head := hd }) (ports : ∀ s q, P s → P { s with ports := q })
    (drop : ∀ s, P s → P { s with arb := s.arb.dropBrush }) (s : State) (p : P s) : P (wandPowerOff s) := by
  have off : P (recompute { s with head := { s.head with wand := false, wandOff := none } }) :=
    again _ (head s { s.head with wand := false, wandOff := none } p)
  unfold wandPowerOff headAbsent
  split
  · exact again _ (drop _ (ports _ _ (head _ _ off)))
  · exact off

/-! ## The claim pool (03 R42 to R51) -/

/-- Every index of the pool: the free list, the suction stack, the brush stack. -/
def Arbiter.indices (a : Arbiter) : List (Fin 10) := a.free ++ a.suction.map (·.index) ++ a.brush.map (·.index)

/-- The pool moves its indices about and loses none. -/
theorem PoolMove.indices {t : Settings} {info : Option HeadInfo} {a b : Arbiter} (h : PoolMove t info a b)
    (ten : a.indices.length = 10) (once : a.indices.Nodup) : b.indices.length = 10 ∧ b.indices.Nodup := by
  have moved {c : Arbiter} (perm : ∀ i, c.indices.count i = a.indices.count i) :
      c.indices.length = 10 ∧ c.indices.Nodup := by
    have p : c.indices.Perm a.indices := List.perm_iff_count.2 perm
    exact ⟨p.length_eq.trans ten, p.nodup_iff.2 once⟩
  cases h with
  | pushSuction k label =>
    cases free : a.free with
    | nil => rw [Arbiter.pushSuction, free]; exact ⟨ten, once⟩
    | cons i rest =>
      refine moved fun j => ?_
      simp only [Arbiter.indices, Arbiter.pushSuction, free, List.count_append, List.count_cons, List.map_cons]
      omega
  | pushBrush k label =>
    cases free : a.free with
    | nil => rw [Arbiter.pushBrush, free]; exact ⟨ten, once⟩
    | cons i rest =>
      refine moved fun j => ?_
      simp only [Arbiter.indices, Arbiter.pushBrush, free, List.count_append, List.count_cons, List.map_cons]
      omega
  | popSuction =>
    cases stack : a.suction with
    | nil => rw [Arbiter.popSuction, stack]; exact ⟨ten, once⟩
    | cons c rest =>
      refine moved fun j => ?_
      simp only [Arbiter.indices, Arbiter.popSuction, stack, List.count_append, List.count_cons, List.map_cons]
      omega
  | popBrush =>
    cases stack : a.brush with
    | nil => rw [Arbiter.popBrush, stack]; exact ⟨ten, once⟩
    | cons c rest =>
      refine moved fun j => ?_
      simp only [Arbiter.indices, Arbiter.popBrush, stack, List.count_append, List.count_cons, List.map_cons]
      omega
  | replaceSuction k =>
    cases stack : a.suction with
    | nil => rw [Arbiter.replaceSuction, stack]; exact ⟨ten, once⟩
    | cons c rest => exact moved fun j => by simp only [Arbiter.indices, Arbiter.replaceSuction, stack, List.map_cons]
  | replaceBrush k =>
    cases stack : a.brush with
    | nil => rw [Arbiter.replaceBrush, stack]; exact ⟨ten, once⟩
    | cons c rest => exact moved fun j => by simp only [Arbiter.indices, Arbiter.replaceBrush, stack, List.map_cons]
  | dropSuction =>
    refine moved fun j => ?_
    simp only [Arbiter.indices, Arbiter.dropSuction, List.map_reverse, List.count_append, List.count_reverse, List.map_nil,
      List.count_nil]
    omega
  | dropBrush =>
    refine moved fun j => ?_
    simp only [Arbiter.indices, Arbiter.dropBrush, List.map_reverse, List.count_append, List.count_reverse, List.map_nil,
      List.count_nil]
    omega
  | dropBoth => exact ⟨rfl, by simp only [Arbiter.indices, Arbiter.dropBoth]; decide⟩

/-- Each stack within its depth and with claims it may hold (03 R42 to R45). -/
structure StacksOk (t : Settings) (a : Arbiter) : Prop where
  suction : a.suction.length ≤ t.depthSuction
  brush : a.brush.length ≤ t.depthBrush
  values : (a.suction.all fun c => c.kind.inRange) = true
  kinds : (a.brush.all fun c => c.kind.inRange && !c.kind.isCurve) = true

theorem StacksOk.empty (t : Settings) (a : Arbiter) : StacksOk t a.dropBoth :=
  ⟨Nat.zero_le _, Nat.zero_le _, rfl, rfl⟩

theorem PoolMove.stacks {t : Settings} {info : Option HeadInfo} {a b : Arbiter} (h : PoolMove t info a b)
    (ok : StacksOk t a) : StacksOk t b := by
  obtain ⟨suction, brush, values, kinds⟩ := ok
  cases h with
  | pushSuction k label value room =>
    unfold Arbiter.pushSuction
    split
    · exact ⟨suction, brush, values, kinds⟩
    · exact ⟨room, brush, by simp only [List.all_cons, value, values, Bool.and_self], kinds⟩
  | pushBrush k label value kind room =>
    unfold Arbiter.pushBrush
    split
    · exact ⟨suction, brush, values, kinds⟩
    · exact ⟨suction, room, values, by simp only [List.all_cons, value, kind, kinds, Bool.not_false, Bool.and_self]⟩
  | popSuction =>
    unfold Arbiter.popSuction
    split
    · exact ⟨suction, brush, values, kinds⟩
    · rename_i top
      rw [top, List.length_cons] at suction
      rw [top, List.all_cons, Bool.and_eq_true] at values
      exact ⟨Nat.le_of_succ_le suction, brush, values.2, kinds⟩
  | popBrush =>
    unfold Arbiter.popBrush
    split
    · exact ⟨suction, brush, values, kinds⟩
    · rename_i top
      rw [top, List.length_cons] at brush
      rw [top, List.all_cons, Bool.and_eq_true] at kinds
      exact ⟨suction, Nat.le_of_succ_le brush, values, kinds.2⟩
  | replaceSuction k value =>
    unfold Arbiter.replaceSuction
    split
    · exact ⟨suction, brush, values, kinds⟩
    · rename_i top
      rw [top] at suction
      rw [top, List.all_cons, Bool.and_eq_true] at values
      exact ⟨suction, brush, by simp only [List.all_cons, value, values.2, Bool.and_self], kinds⟩
  | replaceBrush k value kind =>
    unfold Arbiter.replaceBrush
    split
    · exact ⟨suction, brush, values, kinds⟩
    · rename_i top
      rw [top] at brush
      rw [top, List.all_cons, Bool.and_eq_true] at kinds
      exact ⟨suction, brush, values, by
        simp only [List.all_cons, value, kind, kinds.2, Bool.not_false, Bool.and_self]⟩
  | dropSuction => exact ⟨Nat.zero_le _, brush, rfl, kinds⟩
  | dropBrush => exact ⟨suction, Nat.zero_le _, values, rfl⟩
  | dropBoth => exact StacksOk.empty t a

/-- The condition on the claim pool in its parts: the indices, the stacks, the depths set. -/
theorem poolOk_iff (s : State) :
    PoolOk s
      ↔ (s.arb.indices.Nodup ∧ s.arb.indices.length = 10) ∧ StacksOk s.settings s.arb
        ∧ (1 ≤ s.settings.depthSuction ∧ s.settings.depthSuction ≤ 4)
        ∧ (1 ≤ s.settings.depthBrush ∧ s.settings.depthBrush ≤ 4) := by
  have length : s.arb.indices.length = s.arb.free.length + s.arb.suction.length + s.arb.brush.length := by
    simp only [Arbiter.indices, List.length_append, List.length_map]
  rw [length]
  constructor
  · rintro ⟨once, ten, suction, brush, lowS, highS, lowH, highH, values, kinds⟩
    exact ⟨⟨once, ten⟩, ⟨suction, brush, values, kinds⟩, ⟨lowS, highS⟩, lowH, highH⟩
  · rintro ⟨⟨once, ten⟩, ⟨suction, brush, values, kinds⟩, ⟨lowS, highS⟩, lowH, highH⟩
    exact ⟨once, ten, suction, brush, lowS, highS, lowH, highH, values, kinds⟩

/-- The condition reads the free list, the stacks and the two depths alone. -/
theorem PoolOk.congr {s t : State} (free : t.arb.free = s.arb.free) (suction : t.arb.suction = s.arb.suction)
    (brush : t.arb.brush = s.arb.brush) (settings : t.settings = s.settings) (p : PoolOk s) : PoolOk t := by
  unfold PoolOk at p ⊢
  rw [free, suction, brush, settings]
  exact p

theorem PoolOk.recompute {s : State} (p : PoolOk s) : PoolOk (recompute s) := by
  obtain ⟨suction, brush, free, -⟩ := recompute_stacks s
  exact p.congr free suction brush (recompute_core s).2.2.2.2.2.1

theorem PoolOk.pool {s : State} {info : Option HeadInfo} {a : Arbiter} (h : PoolMove s.settings info s.arb a)
    (p : PoolOk s) : PoolOk { s with arb := a } := by
  obtain ⟨⟨once, ten⟩, piles, depths⟩ := (poolOk_iff s).1 p
  obtain ⟨ten', once'⟩ := h.indices ten once
  exact (poolOk_iff _).2 ⟨⟨once', ten'⟩, h.stacks piles, depths⟩

/-- A settings move leaves each depth over its stack and within 1..4. -/
theorem SettingsMove.depths {t u : Settings} {a : Arbiter} (h : SettingsMove a.suction.length a.brush.length t u)
    (suction : a.suction.length ≤ t.depthSuction ∧ 1 ≤ t.depthSuction ∧ t.depthSuction ≤ 4)
    (brush : a.brush.length ≤ t.depthBrush ∧ 1 ≤ t.depthBrush ∧ t.depthBrush ≤ 4) :
    (a.suction.length ≤ u.depthSuction ∧ 1 ≤ u.depthSuction ∧ u.depthSuction ≤ 4)
      ∧ (a.brush.length ≤ u.depthBrush ∧ 1 ≤ u.depthBrush ∧ u.depthBrush ≤ 4) := by
  cases h with
  | numeric id lo hi v range low high vcut vstop overS overH own =>
    constructor
    · by_cases mine : id = 11
      · subst mine
        have bound := overS rfl
        simp only [settingRange, Option.some.injEq, Prod.mk.injEq] at range
        simp only [Settings.setNumeric]
        omega
      · rw [setNumeric_depthSuction id v t mine]; exact suction
    · by_cases mine : id = 12
      · subst mine
        have bound := overH rfl
        simp only [settingRange, Option.some.injEq, Prod.mk.injEq] at range
        simp only [Settings.setNumeric]
        omega
      · rw [setNumeric_depthBrush id v t mine]; exact brush
  | choice => exact ⟨suction, brush⟩
  | derate => exact ⟨suction, brush⟩
  | hard => exact ⟨suction, brush⟩
  | carpet => exact ⟨suction, brush⟩

theorem Act.poolOk {s t : State} (h : Act s t) (p : PoolOk s) : PoolOk t := by
  cases h with
  | recompute => exact PoolOk.recompute p
  | headGone => exact PoolOk.pool (info := none) PoolMove.dropBrush p
  | powerOff =>
    exact powerOff_keeps (P := PoolOk) (fun _ => PoolOk.recompute) (fun _ _ q => q) (fun _ _ q => q)
      (fun _ q => PoolOk.pool (info := none) PoolMove.dropBrush q) s p
  | pool a h => exact PoolOk.pool h p
  | settings t h =>
    obtain ⟨indices, piles, depthS, depthH⟩ := (poolOk_iff s).1 p
    obtain ⟨suction, brush⟩ := h.depths ⟨piles.suction, depthS⟩ ⟨piles.brush, depthH⟩
    exact (poolOk_iff _).2
      ⟨indices, ⟨suction.1, brush.1, piles.values, piles.kinds⟩, suction.2, brush.2⟩
  | reform => exact p.congr (by simp) (by simp) (by simp) (by simp)
  | lower => exact p.congr (by simp) (by simp) (by simp) (by simp)
  | chgI => unfold PoolOk at p ⊢; simpa only [reformOrder_arb, reformOrder_settings] using p
  | chgVcell => unfold PoolOk at p ⊢; simpa only [reformOrder_arb, reformOrder_settings] using p
  | softReset =>
    rw [PoolOk]
    simp only [Sys2Proof.Machine.softReset, raiseIfFull_arb, raiseIfFull_settings, recompute_arb, recompute_settings]
    simp only [State.formGrants, Arbiter.dropBoth]
    decide
  | _ => exact p

/-! ## Grants, target and duty (03 R55 to R58; 04 R78, R80) -/

/-- After a recomputation the grants stand as they must, whatever they were: the duty must stand within its bound, and target and duty
at rest where the regulator is not steered. -/
theorem recompute_grantsOk (s : State) (share : s.settings.headShare ≤ 256) (duty : s.suc.duty ≤ 1000)
    (rest : s.suc.state.steered = false → s.suc.target = 0 ∧ s.suc.duty = 0) : GrantsOk (recompute s) := by
  have target : (takeGrant s.settings.pfull s.grantS s.suc).target ≤ s.grantS := by
    rw [takeGrant_target]; exact Nat.min_le_right _ _
  have bounded : (takeGrant s.settings.pfull s.grantS s.suc).duty ≤ 1000 := by
    unfold takeGrant
    split
    · exact dutyFor_le _ _ _ _
    · exact duty
  have rests (h : s.suc.state.steered = false) : takeGrant s.settings.pfull s.grantS s.suc = s.suc := by
    simp only [takeGrant, (rest h).1, Nat.not_lt_zero, if_false]
  rw [recompute_spec]
  refine ⟨share, grants_within s share, target, bounded, fun h => ?_⟩
  have h' : s.suc.state.steered = false := by simpa using h
  rw [rests h']
  exact rest h'

/-- The condition reads the head's share, the arbiter, the allowance and the regulator alone. -/
theorem GrantsOk.congr {s t : State} (share : t.settings.headShare = s.settings.headShare) (arb : t.arb = s.arb)
    (alw : t.alw = s.alw) (suc : t.suc = s.suc) (p : GrantsOk s) : GrantsOk t := by
  unfold GrantsOk at p ⊢
  rw [share, arb, alw, suc]
  exact p

theorem GrantsOk.recompute {s : State} (p : GrantsOk s) : GrantsOk (recompute s) := by
  obtain ⟨share, -, -, duty, rest⟩ := p
  exact recompute_grantsOk s share duty rest

theorem SettingsMove.headShare {depthS depthH : Nat} {t u : Settings} (h : SettingsMove depthS depthH t u)
    (p : t.headShare ≤ 256) : u.headShare ≤ 256 := by
  cases h with
  | numeric id lo hi v range low high =>
    by_cases mine : id = 13
    · subst mine
      simp only [settingRange, Option.some.injEq, Prod.mk.injEq] at range
      simp only [Settings.setNumeric]
      omega
    · rw [setNumeric_headShare id v t mine]; exact p
  | choice => exact p
  | derate => exact p
  | hard => exact p
  | carpet => exact p

theorem PoolMove.grants {t : Settings} {info : Option HeadInfo} {a b : Arbiter} (h : PoolMove t info a b) :
    b.gs = a.gs ∧ b.gh = a.gh := by
  cases h with
  | pushSuction => unfold Arbiter.pushSuction; split <;> exact ⟨rfl, rfl⟩
  | pushBrush => unfold Arbiter.pushBrush; split <;> exact ⟨rfl, rfl⟩
  | popSuction => unfold Arbiter.popSuction; split <;> exact ⟨rfl, rfl⟩
  | popBrush => unfold Arbiter.popBrush; split <;> exact ⟨rfl, rfl⟩
  | replaceSuction => unfold Arbiter.replaceSuction; split <;> exact ⟨rfl, rfl⟩
  | replaceBrush => unfold Arbiter.replaceBrush; split <;> exact ⟨rfl, rfl⟩
  | dropSuction => exact ⟨rfl, rfl⟩
  | dropBrush => exact ⟨rfl, rfl⟩
  | dropBoth => exact ⟨rfl, rfl⟩

theorem Act.grantsOk {s t : State} (h : Act s t) (p : GrantsOk s) : GrantsOk t := by
  obtain ⟨share, within, target, duty, rest⟩ := id p
  cases h with
  | allowance a h same => exact ⟨share, same ▸ within, target, duty, rest⟩
  | recompute a hd h k => exact recompute_grantsOk { s with alw := a, head := hd } share duty rest
  | powerOff =>
    exact powerOff_keeps (P := GrantsOk) (fun _ => GrantsOk.recompute) (fun _ _ q => q) (fun _ _ q => q) (fun _ q => q) s p
  | pool a h =>
    obtain ⟨gs, gh⟩ := h.grants
    exact ⟨share, by rw [gs, gh]; exact within, by rw [gs]; exact target, duty, rest⟩
  | suctionMarks u state less slower =>
    refine ⟨share, within, less.trans target, slower.trans duty, fun h => ?_⟩
    obtain ⟨still, off⟩ := rest (state ▸ h)
    exact ⟨Nat.le_zero.1 (still ▸ less), Nat.le_zero.1 (off ▸ slower)⟩
  | suctionSteers u state steered ramped bounded =>
    exact ⟨share, within, ramped target, bounded, fun h => by simp [state, steered] at h⟩
  | suctionRests u state dirt at_ =>
    have rested : u.target = 0 ∧ u.duty = 0 := by
      rcases at_ with at_ | ⟨idle, less, slower⟩
      · exact at_
      · obtain ⟨still, off⟩ := rest idle
        exact ⟨Nat.le_zero.1 (still ▸ less), Nat.le_zero.1 (off ▸ slower)⟩
    exact ⟨share, within, by rw [rested.1]; exact Nat.zero_le _, by rw [rested.2]; exact Nat.zero_le _, fun _ => rested⟩
  | suctionRuns from_ => exact ⟨share, within, target, duty, fun h => by simp [SuctionState.steered] at h⟩
  | settings t h => exact ⟨h.headShare share, within, target, duty, rest⟩
  | reform => exact p.congr (by simp) (by simp) (by simp) (by simp)
  | lower => exact p.congr (by simp) (by simp) (by simp) (by simp)
  | chgI => exact p.congr (by simp) (by simp) (by simp) (by simp)
  | chgVcell => exact p.congr (by simp) (by simp) (by simp) (by simp)
  | softReset =>
    have fresh (u : State) (ok : GrantsOk u) (raised : Bool) : GrantsOk (raiseIfFull raised u) := by
      unfold raiseIfFull; split <;> exact ok
    exact fresh _ (recompute_grantsOk _ (by simp [Settings.defaults]) (by simp [Suction.softReset])
      (fun _ => ⟨rfl, rfl⟩)) _
  | _ => exact p

end Sys2Proof.Machine
end

section
/-! PROOFS. The charge account, the settings, the estimates and the dirt monitor: what every act keeps. -/

namespace Sys2Proof.Machine

/-! ## The charge account (07) -/

/-- The account within its bounds under a design capacity (07 R124, R126, R127). -/
structure Account.Ok (cap : Nat) (a : Account) : Prop where
  q : a.q ≤ a.fcc
  least : cap / 2 ≤ a.fcc
  most : a.fcc ≤ cap * 11 / 10
  out : a.discharged < a.fcc
  acc : a.acc.natAbs < 3600000

theorem accountOk_iff (s : State) : AccountOk s ↔ 1000 ≤ s.settings.designCap ∧ s.acct.Ok s.settings.designCap := by
  constructor
  · rintro ⟨cap, q, least, most, out, acc⟩; exact ⟨cap, ⟨q, least, most, out, acc⟩⟩
  · rintro ⟨cap, ⟨q, least, most, out, acc⟩⟩; exact ⟨cap, q, least, most, out, acc⟩

theorem Account.Ok.congr {cap : Nat} {a b : Account} (ok : a.Ok cap) (q : b.q = a.q) (acc : b.acc = a.acc)
    (fcc : b.fcc = a.fcc) (out : b.discharged = a.discharged) : b.Ok cap :=
  ⟨by rw [q, fcc]; exact ok.q, by rw [fcc]; exact ok.least, by rw [fcc]; exact ok.most, by rw [out, fcc]; exact ok.out,
    by rw [acc]; exact ok.acc⟩

/-- The cycle comparison brings the discharged count below a capacity that is not 0. -/
theorem Account.countCycles_ok {cap : Nat} {a : Account} (q : a.q ≤ a.fcc) (least : cap / 2 ≤ a.fcc)
    (most : a.fcc ≤ cap * 11 / 10) (acc : a.acc.natAbs < 3600000) (some_ : 0 < a.fcc) : a.countCycles.Ok cap := by
  rw [Account.countCycles, if_neg (by omega)]
  exact ⟨q, least, most, Nat.mod_lt _ some_, acc⟩

theorem Account.Ok.removeOne {cap : Nat} {a : Account} (ok : a.Ok cap) : a.removeOne.Ok cap := by
  obtain ⟨q, least, most, out, acc⟩ := ok
  unfold Account.removeOne
  dsimp only
  split
  · exact Account.countCycles_ok q least most acc (Nat.zero_lt_of_lt out)
  · exact Account.countCycles_ok (by dsimp only; omega) least most acc (Nat.zero_lt_of_lt out)

theorem Account.Ok.addOne {cap : Nat} {a : Account} (ok : a.Ok cap) : a.addOne.Ok cap := by
  obtain ⟨q, least, most, out, acc⟩ := ok
  unfold Account.addOne
  dsimp only
  split
  · split <;> exact ⟨q, least, most, out, acc⟩
  · split <;> exact ⟨by dsimp only; omega, least, most, out, acc⟩

theorem Account.Ok.removeMany {cap : Nat} (n : Nat) : ∀ {a : Account}, a.Ok cap → (a.removeMany n).Ok cap := by
  induction n with
  | zero => exact fun ok => ok
  | succ n ih => exact fun ok => ih ok.removeOne

theorem Account.Ok.addMany {cap : Nat} (n : Nat) : ∀ {a : Account}, a.Ok cap → (a.addMany n).Ok cap := by
  induction n with
  | zero => exact fun ok => ok
  | succ n ih => exact fun ok => ih ok.addOne

theorem Account.Ok.integrate {cap : Nat} (x : Int) {a : Account} (ok : a.Ok cap) : (a.integrate x).Ok cap := by
  have resolved : ({ a with acc := Int.tmod (a.acc + x) mAh } : Account).Ok cap := by
    refine ⟨ok.q, ok.least, ok.most, ok.out, ?_⟩
    simp only [Int.natAbs_tmod]
    exact Nat.mod_lt _ (by decide)
  unfold Account.integrate
  dsimp only
  split
  · exact resolved.removeMany _
  · exact resolved.addMany _

theorem ocvWalk_le : ∀ (v : Nat), ocvPercent v ≤ 100 := by
  intro v
  unfold ocvPercent
  split
  · exact Nat.zero_le _
  · rename_i above
    simp only [ocvTable, ocvWalk]
    repeat' split
    all_goals omega

theorem Account.Ok.estimate {cap : Nat} (r : ScanRecord) {a : Account} (ok : a.Ok cap) : (a.estimate r).Ok cap := by
  unfold Account.estimate
  split
  · refine ⟨?_, ok.least, ok.most, ok.out, ok.acc⟩
    have percent := Nat.mul_le_mul_left a.fcc (ocvWalk_le r.cells.vmean)
    dsimp only
    omega
  · exact ok

theorem Account.Ok.integrateScan {cap : Nat} (r : ScanRecord) {a : Account} (ok : a.Ok cap) :
    (a.integrateScan r).Ok cap := by
  have kept : (if r.first then a else a.integrate (r.i * (r.interval : Int))).Ok cap := by
    split
    · exact ok
    · exact ok.integrate _
  unfold Account.integrateScan
  split
  · exact kept.congr rfl rfl rfl rfl
  · split
    · exact ok
    · split
      · exact ok
      · rename_i i _; exact (ok.integrate (i * (r.interval : Int))).congr rfl rfl rfl rfl

theorem Account.Ok.average {cap : Nat} (r : ScanRecord) {a : Account} (ok : a.Ok cap) : (a.average r).Ok cap := by
  unfold Account.average
  split
  · exact ok.congr rfl rfl rfl rfl
  · split
    · exact ok.congr rfl rfl rfl rfl
    · exact ok

/-- FCC held lies within its bounds. -/
theorem holdFcc_bounds (cap : Nat) (x : Int) : cap / 2 ≤ holdFcc cap x ∧ holdFcc cap x ≤ cap * 11 / 10 := by
  unfold holdFcc clampInt
  omega

/-- An empty accumulator is short of a whole mAh. -/
theorem zero_natAbs_lt : (0 : Int).natAbs < 3600000 := by decide

theorem Account.Ok.emptyMark {cap : Nat} {a : Account} (ok : a.Ok cap) : a.emptyMark.Ok cap :=
  ⟨Nat.zero_le _, ok.least, ok.most, ok.out, zero_natAbs_lt⟩

/-- Of a learning step the capacity, the discharged count and the accumulator are kept within their bounds; Q is set after it. -/
theorem Account.Ok.fullMark {cap : Nat} (big : 1000 ≤ cap) {a : Account} (ok : a.Ok cap) : (a.fullMark cap).Ok cap := by
  unfold Account.fullMark Account.learn
  dsimp only
  split
  · obtain ⟨least, most⟩ := holdFcc_bounds cap ((a.fcc : Int) + Int.tdiv ((a.charged : Int) - a.fcc) 4)
    have some_ : ¬holdFcc cap ((a.fcc : Int) + Int.tdiv ((a.charged : Int) - a.fcc) 4) = 0 := by omega
    simp only [Account.countCycles, if_neg some_]
    exact ⟨le_rfl, least, most, Nat.mod_lt _ (by omega), zero_natAbs_lt⟩
  · exact ⟨le_rfl, ok.least, ok.most, ok.out, zero_natAbs_lt⟩

theorem Account.applyDesignCap_ok {cap : Nat} (big : 1000 ≤ cap) {a : Account} (acc : a.acc.natAbs < 3600000) :
    (a.applyDesignCap cap).Ok cap := by
  obtain ⟨least, most⟩ := holdFcc_bounds cap a.fcc
  exact Account.countCycles_ok (Nat.min_le_right _ _) least most acc (by dsimp only; omega)

theorem AccountMove.ok {cap : Nat} {a b : Account} (h : AccountMove cap a b) (big : 1000 ≤ cap) (ok : a.Ok cap) :
    b.Ok cap := by
  cases h with
  | marks _ q acc fcc out => exact ok.congr q acc fcc out
  | scan r => exact ((ok.estimate r).integrateScan r).average r
  | emptyMark => exact ok.emptyMark
  | fullMark => exact ok.fullMark big

theorem SettingsMove.designCap {depthS depthH : Nat} {t u : Settings} (h : SettingsMove depthS depthH t u) :
    u.designCap = t.designCap := by
  cases h with
  | numeric id lo hi v range low high vcut vstop suction brush own => exact setNumeric_designCap id v t own.1
  | choice => rfl
  | derate => rfl
  | hard => rfl
  | carpet => rfl

/-- The condition reads the design capacity and the account alone. -/
theorem AccountOk.congr {s t : State} (cap : t.settings.designCap = s.settings.designCap) (acct : t.acct = s.acct)
    (p : AccountOk s) : AccountOk t := by
  unfold AccountOk at p ⊢
  rw [cap, acct]
  exact p

theorem Act.accountOk {s t : State} (h : Act s t) (p : AccountOk s) : AccountOk t := by
  have again (u : State) (q : AccountOk u) : AccountOk (Machine.recompute u) :=
    q.congr (by simp) (by simp)
  cases h with
  | recompute => exact again _ p
  | powerOff =>
    exact powerOff_keeps (P := AccountOk) again (fun _ _ q => q) (fun _ _ q => q) (fun _ q => q) s p
  | account a h =>
    obtain ⟨big, ok⟩ := (accountOk_iff s).1 p
    exact (accountOk_iff _).2 ⟨big, h.ok big ok⟩
  | settings t h => exact p.congr h.designCap rfl
  | reform => exact p.congr (by simp) (by simp)
  | lower => exact p.congr (by simp) (by simp)
  | designCap v low high =>
    obtain ⟨-, ok⟩ := (accountOk_iff s).1 p
    exact (accountOk_iff _).2 ⟨low, Account.applyDesignCap_ok low ok.acc⟩
  | chgI => exact p.congr (by simp) (by simp)
  | chgVcell => exact p.congr (by simp) (by simp)
  | softReset =>
    obtain ⟨-, ok⟩ := (accountOk_iff s).1 p
    have fresh : (s.acct.softReset).Ok Settings.defaults.designCap := by
      refine Account.applyDesignCap_ok (by decide) ?_
      unfold Account.closeSession
      split <;> exact ok.acc
    refine (accountOk_iff _).2 ?_
    simp only [Sys2Proof.Machine.softReset, raiseIfFull_acct, raiseIfFull_settings, recompute_acct, recompute_settings]
    exact ⟨by decide, fresh⟩
  | _ => exact p

/-! ## The settings (10, section 10.1) -/

/-- The settings table's condition, as a condition on the table. -/
structure Settings.Ok (t : Settings) : Prop where
  nat : ∀ r ∈ natRanges t, r.1 ≤ r.2.1 ∧ r.2.1 ≤ r.2.2
  int : ∀ r ∈ intRanges t, r.1 ≤ r.2.1 ∧ r.2.1 ≤ r.2.2
  stop : t.vstop + 100 ≤ t.vcut
  derate : derateOk t.derate = true
  eight : t.derate.length = 8
  hard : t.hard.ok = true
  carpet : t.carpet.ok = true

theorem settingsOk_iff (s : State) : SettingsOk s ↔ s.settings.Ok := by
  constructor
  · rintro ⟨nat, int, stop, derate, eight, hard, carpet⟩; exact ⟨nat, int, stop, derate, eight, hard, carpet⟩
  · rintro ⟨nat, int, stop, derate, eight, hard, carpet⟩; exact ⟨nat, int, stop, derate, eight, hard, carpet⟩

theorem Settings.defaults_ok : Settings.defaults.Ok := by
  refine ⟨?_, ?_, ?_, ?_, ?_, ?_, ?_⟩ <;> decide

/-- The whole-number settings other than VCUT and VSTOP, in identifier order. -/
theorem natRanges_iff (t : Settings) :
    (∀ r ∈ natRanges t, r.1 ≤ r.2.1 ∧ r.2.1 ≤ r.2.2)
      ↔ ((2800 ≤ t.vcut ∧ t.vcut ≤ 3400) ∧ (2500 ≤ t.vstop ∧ t.vstop ≤ 3200) ∧ (100 ≤ t.prated ∧ t.prated ≤ 600)
        ∧ (1 ≤ t.riseStep ∧ t.riseStep ≤ 50) ∧ (1000 ≤ t.stepMin ∧ t.stepMin ≤ 10000)
        ∧ (50 ≤ t.rInit ∧ t.rInit ≤ 2000) ∧ (1 ≤ t.depthSuction ∧ t.depthSuction ≤ 4)
        ∧ (1 ≤ t.depthBrush ∧ t.depthBrush ≤ 4) ∧ t.headShare ≤ 256 ∧ t.binCap ≤ 300
        ∧ (1 ≤ t.rampUp ∧ t.rampUp ≤ 50) ∧ t.ki ≤ 15 ∧ (200 ≤ t.pfull ∧ t.pfull ≤ 700) ∧ t.clogMinP ≤ 600
        ∧ (60000 ≤ t.clogRpm ∧ t.clogRpm ≤ 130000) ∧ (1 ≤ t.clogLock ∧ t.clogLock ≤ 255)
        ∧ (1 ≤ t.clogUnlock ∧ t.clogUnlock ≤ 1023) ∧ t.clogCap ≤ 200)
      ∧ (16 ≤ t.win ∧ t.win ≤ 250) ∧ t.noiseManual ≤ 1023 ∧ t.offset ≤ 255 ∧ (1 ≤ t.gain ∧ t.gain ≤ 63)
        ∧ t.heavyThr ≤ 255 ∧ (1 ≤ t.heavyLock ∧ t.heavyLock ≤ 15) ∧ (1 ≤ t.heavyUnlock ∧ t.heavyUnlock ≤ 15)
        ∧ t.heavyFloor ≤ 255 ∧ (256 ≤ t.refwin ∧ t.refwin ≤ 4095) ∧ t.hopTol ≤ 255
        ∧ (64 ≤ t.fullRatio ∧ t.fullRatio ≤ 240) ∧ (50 ≤ t.fullPct ∧ t.fullPct ≤ 100)
        ∧ (1000 ≤ t.designCap ∧ t.designCap ≤ 6000) ∧ (500 ≤ t.chgI ∧ t.chgI ≤ 4000)
        ∧ (4000 ≤ t.chgVcell ∧ t.chgVcell ≤ 4250) ∧ (50 ≤ t.termI ∧ t.termI ≤ 500)
        ∧ (10 ≤ t.balDelta ∧ t.balDelta ≤ 100) ∧ (50 ≤ t.rechargeDrop ∧ t.rechargeDrop ≤ 300) := by
  simp [natRanges, and_assoc]

theorem intRanges_iff (t : Settings) :
    (∀ r ∈ intRanges t, r.1 ≤ r.2.1 ∧ r.2.1 ≤ r.2.2)
      ↔ (-30 ≤ t.tdisLo ∧ t.tdisLo ≤ 10) ∧ (40 ≤ t.tdisHi ∧ t.tdisHi ≤ 80) ∧ (0 ≤ t.chgTlo ∧ t.chgTlo ≤ 15)
        ∧ 35 ≤ t.chgThi ∧ t.chgThi ≤ 55 := by
  simp [intRanges]

/-- A tunable taken in its range keeps every whole-number setting in its range. -/
theorem setNumeric_natRanges {id : Nat} {lo hi v : Int} {t : Settings} (range : settingRange id = some (lo, hi))
    (low : lo ≤ v) (high : v ≤ hi) (ok : ∀ r ∈ natRanges t, r.1 ≤ r.2.1 ∧ r.2.1 ≤ r.2.2) :
    ∀ r ∈ natRanges (t.setNumeric id v), r.1 ≤ r.2.1 ∧ r.2.1 ≤ r.2.2 := by
  rw [natRanges_iff] at ok ⊢
  unfold settingRange at range
  split at range <;> cases range <;> simp only [Settings.setNumeric, ok, and_self, and_true, true_and] <;> omega

/-- A tunable taken in its range keeps every signed setting in its range. -/
theorem setNumeric_intRanges {id : Nat} {lo hi v : Int} {t : Settings} (range : settingRange id = some (lo, hi))
    (low : lo ≤ v) (high : v ≤ hi) (ok : ∀ r ∈ intRanges t, r.1 ≤ r.2.1 ∧ r.2.1 ≤ r.2.2) :
    ∀ r ∈ intRanges (t.setNumeric id v), r.1 ≤ r.2.1 ∧ r.2.1 ≤ r.2.2 := by
  rw [intRanges_iff] at ok ⊢
  unfold settingRange at range
  split at range <;> cases range <;> simp only [Settings.setNumeric, ok, and_self, and_true, true_and] <;> omega

/-- A tunable taken past the owners' checks keeps VSTOP 100 below VCUT. -/
theorem setNumeric_stop {id : Nat} {lo hi v : Int} {t : Settings} (range : settingRange id = some (lo, hi)) (low : lo ≤ v)
    (vcut : id = 2 → (t.vstop : Int) + 100 ≤ v) (vstop : id = 3 → v + 100 ≤ t.vcut) (ok : t.vstop + 100 ≤ t.vcut) :
    (t.setNumeric id v).vstop + 100 ≤ (t.setNumeric id v).vcut := by
  by_cases cut : id = 2
  · subst cut
    have bound := vcut rfl
    simp only [Settings.setNumeric]
    omega
  · by_cases stop : id = 3
    · subst stop
      have bound := vstop rfl
      cases range
      simp only [Settings.setNumeric]
      omega
    · have same : (t.setNumeric id v).vstop = t.vstop ∧ (t.setNumeric id v).vcut = t.vcut := by
        unfold Settings.setNumeric
        split <;> first | exact ⟨rfl, rfl⟩ | contradiction
      rw [same.1, same.2]
      exact ok

/-- The structural groups stand at a write of a tunable. -/
theorem setNumeric_groups (id : Nat) (v : Int) (t : Settings) :
    (t.setNumeric id v).derate = t.derate ∧ (t.setNumeric id v).hard = t.hard ∧ (t.setNumeric id v).carpet = t.carpet := by
  unfold Settings.setNumeric
  split <;> exact ⟨rfl, rfl, rfl⟩

theorem setNumeric_ok {id : Nat} {lo hi v : Int} {t : Settings} (range : settingRange id = some (lo, hi)) (low : lo ≤ v)
    (high : v ≤ hi) (vcut : id = 2 → (t.vstop : Int) + 100 ≤ v) (vstop : id = 3 → v + 100 ≤ t.vcut) (ok : t.Ok) :
    (t.setNumeric id v).Ok := by
  obtain ⟨derate, hard, carpet⟩ := setNumeric_groups id v t
  exact ⟨setNumeric_natRanges range low high ok.nat, setNumeric_intRanges range low high ok.int,
    setNumeric_stop range low vcut vstop ok.stop, by rw [derate]; exact ok.derate, by rw [derate]; exact ok.eight,
    by rw [hard]; exact ok.hard, by rw [carpet]; exact ok.carpet⟩

theorem SettingsMove.ok {depthS depthH : Nat} {t u : Settings} (h : SettingsMove depthS depthH t u) (ok : t.Ok) :
    u.Ok := by
  obtain ⟨nat, int, stop, derate, eight, hard, carpet⟩ := id ok
  cases h with
  | numeric id lo hi v range low high vcut vstop => exact setNumeric_ok range low high vcut vstop ok
  | choice => exact ⟨nat, int, stop, derate, eight, hard, carpet⟩
  | derate points fits length => exact ⟨nat, int, stop, fits, length, hard, carpet⟩
  | hard c fits => exact ⟨nat, int, stop, derate, eight, fits, carpet⟩
  | carpet c fits => exact ⟨nat, int, stop, derate, eight, hard, fits⟩

theorem Act.settingsOk {s t : State} (h : Act s t) (p : SettingsOk s) : SettingsOk t := by
  have congr {u v : State} (e : v.settings = u.settings) (q : SettingsOk u) : SettingsOk v := by
    rw [settingsOk_iff] at q ⊢; rw [e]; exact q
  have ok := (settingsOk_iff s).1 p
  cases h with
  | recompute => exact congr (by simp) p
  | powerOff =>
    exact powerOff_keeps (P := SettingsOk) (fun _ => congr (by simp)) (fun _ _ q => q) (fun _ _ q => q) (fun _ q => q) s p
  | settings t h => exact (settingsOk_iff _).2 (h.ok ok)
  | reform => exact congr (by simp) p
  | lower => exact congr (by simp) p
  | designCap v low high =>
    exact (settingsOk_iff _).2 (setNumeric_ok (id := 40) (v := v) rfl (by omega) (by omega) nofun nofun ok)
  | chgI v low high =>
    refine (settingsOk_iff _).2 ?_
    rw [reformOrder_settings]
    exact setNumeric_ok (id := 41) (v := v) rfl (by omega) (by omega) nofun nofun ok
  | chgVcell v low high =>
    refine (settingsOk_iff _).2 ?_
    rw [reformOrder_settings]
    exact setNumeric_ok (id := 42) (v := v) rfl (by omega) (by omega) nofun nofun ok
  | softReset =>
    refine (settingsOk_iff _).2 ?_
    simp only [Sys2Proof.Machine.softReset, raiseIfFull_settings, recompute_settings]
    exact Settings.defaults_ok
  | _ => exact p

/-! ## What the part has learned (01 R14 to R18; 02 R26 to R28) -/

/-- A cell resistance the estimate may hold (02 R27). -/
def ResistanceOk (n : Nat) : Prop := 50 ≤ n ∧ n ≤ 2000

/-- A step of an eighth between two resistances stays between them (02 R27). -/
theorem stepRcell_ok {rcell : Nat} (rnew : Int) (ok : ResistanceOk rcell) : ResistanceOk (stepRcell rcell rnew) := by
  obtain ⟨low, high⟩ := ok
  have target : 50 ≤ clampInt 50 2000 rnew ∧ clampInt 50 2000 rnew ≤ 2000 := by unfold clampInt; omega
  unfold ResistanceOk stepRcell
  generalize clampInt 50 2000 rnew = x at target
  have sign : Int.sign 8 = 1 := rfl
  rw [Int.tdiv_eq_ediv, sign]
  split <;> omega

theorem figures_rcell (c : Capture) : (figures c).rcellAfter = (stage0 c).rcell := by
  unfold figures
  dsimp only
  split
  · rfl
  · split <;> rfl

theorem figures_rcell_ok {c : Capture} (ok : ResistanceOk c.rcell) : ResistanceOk (figures c).rcellAfter := by
  rw [figures_rcell]
  unfold stage0
  split
  · exact ok
  · split
    · exact ok
    · dsimp only
      split
      · exact ok
      · exact stepRcell_ok _ ok

/-- The resistances the allowance unit holds: the estimate, a capture's, a pending R_INIT. -/
structure Allowance.Ok (a : Allowance) : Prop where
  rcell : ResistanceOk a.rcell
  inflight : ∀ c, a.inflight = some c → ResistanceOk c.inputs.rcell
  pending : ∀ r, a.pendingRInit = some r → ResistanceOk r

/-- The sampler's own figures within their bounds (01 R14, R17, R18). -/
structure Sampler.Ok (m : Sampler) : Prop where
  offset : m.offset.natAbs ≤ 500
  run : m.run.count ≤ 63
  invalid : m.invalidCount ≤ 255

theorem estimatesOk_iff (s : State) : EstimatesOk s ↔ s.alw.Ok ∧ ResistanceOk s.settings.rInit ∧ s.smp.Ok := by
  unfold EstimatesOk
  rw [Option.all_eq_true, Option.all_eq_true]
  simp only [decide_eq_true_eq]
  constructor
  · rintro ⟨rcell, inflight, pending, rInit, offset, run, invalid⟩
    exact ⟨⟨rcell, inflight, pending⟩, rInit, ⟨offset, run, invalid⟩⟩
  · rintro ⟨⟨rcell, inflight, pending⟩, rInit, ⟨offset, run, invalid⟩⟩
    exact ⟨rcell, inflight, pending, rInit, offset, run, invalid⟩

theorem AllowanceMove.ok {rInit : Nat} {a b : Allowance} (h : AllowanceMove rInit a b) (init : ResistanceOk rInit)
    (ok : a.Ok) : b.Ok := by
  refine ⟨?_, ?_, ?_⟩
  · rcases h.rcell with e | e | ⟨c, flies, e⟩ <;> rw [e]
    · exact ok.rcell
    · exact init
    · cases pending : a.pendingRInit with
      | none => exact figures_rcell_ok (ok.inflight c flies)
      | some r => exact ok.pending r pending
  · intro c flies
    rcases h.inflight with e | e | ⟨d, e, same⟩ <;> rw [e] at flies
    · exact ok.inflight c flies
    · cases flies
    · cases flies; rw [same]; exact ok.rcell
  · intro r waits
    rcases h.pending with e | e | e <;> rw [e] at waits
    · exact ok.pending r waits
    · cases waits
    · cases waits; exact init

theorem SamplerMove.ok {m n : Sampler} (h : SamplerMove m n) (ok : m.Ok) : n.Ok := by
  obtain ⟨offset, run, invalid⟩ := h
  obtain ⟨offset', run', invalid'⟩ := ok
  exact ⟨offset.elim (fun e => e ▸ offset') id, run.elim (fun e => e ▸ run') id, invalid.elim (fun e => e ▸ invalid') id⟩

theorem SettingsMove.rInit {depthS depthH : Nat} {t u : Settings} (h : SettingsMove depthS depthH t u)
    (ok : ResistanceOk t.rInit) : ResistanceOk u.rInit := by
  cases h with
  | numeric id lo hi v range low high =>
    by_cases mine : id = 9
    · subst mine
      cases range
      simp only [Settings.setNumeric, ResistanceOk]
      omega
    · rw [setNumeric_rInit id v t mine]; exact ok
  | choice => exact ok
  | derate => exact ok
  | hard => exact ok
  | carpet => exact ok

/-- The condition reads the allowance unit, R_INIT and the sampler alone. -/
theorem EstimatesOk.congr {s t : State} (alw : t.alw = s.alw) (rInit : t.settings.rInit = s.settings.rInit)
    (smp : t.smp = s.smp) (p : EstimatesOk s) : EstimatesOk t := by
  unfold EstimatesOk at p ⊢
  rw [alw, rInit, smp]
  exact p

theorem Act.estimatesOk {s t : State} (h : Act s t) (p : EstimatesOk s) : EstimatesOk t := by
  have again (u : State) (q : EstimatesOk u) : EstimatesOk (Machine.recompute u) := q.congr (by simp) (by simp) (by simp)
  obtain ⟨alw, init, smp⟩ := (estimatesOk_iff s).1 p
  cases h with
  | sampler m h => exact (estimatesOk_iff _).2 ⟨alw, init, h.ok smp⟩
  | allowance a h => exact (estimatesOk_iff _).2 ⟨h.ok init alw, init, smp⟩
  | recompute a hd h =>
    exact again { s with alw := a, head := hd } ((estimatesOk_iff _).2 ⟨h.ok init alw, init, smp⟩)
  | powerOff =>
    exact powerOff_keeps (P := EstimatesOk) again (fun _ _ q => q) (fun _ _ q => q) (fun _ q => q) s p
  | settings t h => exact (estimatesOk_iff _).2 ⟨alw, h.rInit init, smp⟩
  | reform => exact p.congr (by simp) (by simp) (by simp)
  | lower => exact p.congr (by simp) (by simp) (by simp)
  | chgI => exact p.congr (by simp) (by simp) (by simp)
  | chgVcell => exact p.congr (by simp) (by simp) (by simp)
  | softReset =>
    refine (estimatesOk_iff _).2 ?_
    simp only [Sys2Proof.Machine.softReset, raiseIfFull_alw, raiseIfFull_settings, raiseIfFull_smp, recompute_alw,
      recompute_settings, recompute_smp]
    exact ⟨⟨alw.rcell, nofun, nofun⟩, ⟨by decide, by decide⟩, ⟨Nat.zero_le _, Nat.zero_le _, Nat.zero_le _⟩⟩
  | _ => exact p

/-! ## The dirt monitor (06, section 6.1) -/

/-- The ring holds at most 16 counts and the open window at most 1023. -/
structure Dirt.Bounded (d : Dirt) : Prop where
  ring : d.ring.length ≤ 16
  count : d.count ≤ 1023

theorem dirtOk_iff (s : State) : DirtOk s ↔ (s.suc.state ≠ .running → s.dirt.AtRest) ∧ s.dirt.Bounded := by
  constructor
  · rintro ⟨rest, ring, count⟩; exact ⟨rest, ⟨ring, count⟩⟩
  · rintro ⟨rest, ⟨ring, count⟩⟩; exact ⟨rest, ring, count⟩

/-- The ring never grows past 16 (06 R102). -/
theorem joinRing_length_le {ring : List Nat} (count : Nat) (h : ring.length ≤ 16) : (joinRing ring count).length ≤ 16 := by
  unfold joinRing
  split
  · simp only [List.length_append, List.length_tail, List.length_singleton]; omega
  · simp only [List.length_append, List.length_singleton]; omega

/-- The heavy detector touches its own figures alone. -/
theorem judgeHeavy_frame (thr lock unlock : Nat) (d : Dirt) :
    ∃ heavy l u, (Dirt.judgeHeavy thr lock unlock d).1 = { d with heavy := heavy, lockCount := l, unlockCount := u } := by
  unfold Dirt.judgeHeavy
  split
  · extract_lets n; split <;> exact ⟨_, _, _, rfl⟩
  · extract_lets n; split <;> exact ⟨_, _, _, rfl⟩

theorem Dirt.expire_bounded (t : Settings) (now : Nat) {d : Dirt} (ok : d.Bounded) : (d.expire t now).1.Bounded := by
  obtain ⟨heavy, l, u, e⟩ := judgeHeavy_frame t.heavyThr t.heavyLock t.heavyUnlock
    { d with
      ring := joinRing d.ring d.count
      floorN := some (noiseFloor t.noiseMode t.noiseManual (joinRing d.ring d.count))
      raw := rawIndex d.count (noiseFloor t.noiseMode t.noiseManual (joinRing d.ring d.count)) t.offset t.gain }
  unfold Dirt.expire
  dsimp only
  refine ⟨?_, Nat.zero_le _⟩
  rw [e]
  exact joinRing_length_le d.count ok.ring

theorem DirtMove.bounded {t : Settings} {now : Nat} {d e : Dirt} (h : DirtMove t now d e) (ok : d.Bounded) :
    e.Bounded := by
  cases h with
  | leave count kept => exact ⟨ok.ring, kept.trans ok.count⟩
  | edge =>
    unfold Dirt.edge
    split
    · exact ok
    · split
      · exact ⟨ok.ring, Nat.min_le_left _ _⟩
      · exact ok
  | expire w isOpen => exact Dirt.expire_bounded t now ok

/-- A monitor at rest stays at rest: an edge finds its window CLOSED, and no window expires. -/
theorem DirtMove.atRest {t : Settings} {now : Nat} {d e : Dirt} (h : DirtMove t now d e) (rest : d.AtRest) : e.AtRest := by
  cases h with
  | leave count kept => exact ⟨rfl, rfl, rfl, rfl, rfl, rfl⟩
  | edge =>
    unfold Dirt.edge
    rw [rest.1]
    exact rest
  | expire w isOpen => exact absurd (isOpen.symm.trans rest.1) nofun

/-- The condition reads the suction state and the dirt monitor alone. -/
theorem DirtOk.congr {s t : State} (state : t.suc.state = s.suc.state) (dirt : t.dirt = s.dirt) (p : DirtOk s) :
    DirtOk t := by
  unfold DirtOk at p ⊢
  rw [state, dirt]
  exact p

theorem Act.dirtOk {s t : State} (h : Act s t) (p : DirtOk s) : DirtOk t := by
  have again (u : State) (q : DirtOk u) : DirtOk (Machine.recompute u) := q.congr (by simp) (by simp)
  obtain ⟨rest, bounded⟩ := (dirtOk_iff s).1 p
  cases h with
  | recompute => exact again _ p
  | powerOff => exact powerOff_keeps (P := DirtOk) again (fun _ _ q => q) (fun _ _ q => q) (fun _ q => q) s p
  | suctionMarks u state => exact p.congr state rfl
  | suctionSteers u state => exact p.congr state rfl
  | suctionRests u state dirt =>
    refine (dirtOk_iff _).2 ⟨fun _ => ?_, bounded⟩
    by_cases running : s.suc.state = .running
    · exact dirt running
    · exact rest running
  | suctionRuns => exact (dirtOk_iff _).2 ⟨fun h => absurd rfl h, ⟨Nat.zero_le _, Nat.zero_le _⟩⟩
  | dirt d h => exact (dirtOk_iff _).2 ⟨fun other => h.atRest (rest other), h.bounded bounded⟩
  | reform => exact p.congr (by simp) (by simp)
  | lower => exact p.congr (by simp) (by simp)
  | chgI => exact p.congr (by simp) (by simp)
  | chgVcell => exact p.congr (by simp) (by simp)
  | softReset =>
    refine (dirtOk_iff _).2 ?_
    simp only [Sys2Proof.Machine.softReset, raiseIfFull_dirt, raiseIfFull_suc, recompute_dirt]
    exact ⟨fun _ => ⟨rfl, rfl, rfl, rfl, rfl, rfl⟩, ⟨Nat.zero_le _, Nat.zero_le _⟩⟩
  | _ => exact p

end Sys2Proof.Machine
end

section
/-! PROOFS. Every command completes; the pool, the grants, the account, the settings, the estimates and the dirt monitor are kept by every
step. -/

namespace Sys2Proof.Machine

/-! ## Time and queue -/

/-- Time does not run back and the queue stands. -/
def Later (s t : State) : Prop := t.pending = s.pending ∧ s.now ≤ t.now

theorem Later.trans {s t u : State} (h : Later s t) (k : Later t u) : Later s u := ⟨k.1.trans h.1, h.2.trans k.2⟩

theorem Run.later {s t : State} (h : Run s t) : Later s t := by
  induction h with
  | refl => exact ⟨rfl, le_rfl⟩
  | tail _ deed ih =>
    cases deed with
    | act h => exact ih.trans ⟨h.onward.2.2, h.onward.1⟩
    | note => exact ih

/-- Settles O2: every command is made of acts and notes, which leave the queue alone and never turn the clock back. -/
theorem everyCommandRuns : Obligations.EveryCommandRuns := by
  intro c s
  by_cases power : c = .powerOn
  · subst power; exact ⟨_, rfl, rfl, le_rfl⟩
  · by_cases scan : ∃ k, c = .scanCompletion k
    · obtain ⟨k, rfl⟩ := scan
      obtain ⟨t, e, same | ⟨p, r, before, after⟩⟩ := exec_scan_run k s
      · exact ⟨t, e, same ▸ ⟨rfl, le_rfl⟩⟩
      · have weighed : Later (p.judged r) ((p.judged r).weighed r) := ⟨rfl, le_rfl⟩
        exact ⟨t, e, before.later.trans ((judged_work r p).run.later.trans
          (weighed.trans ((handedOff_work r p).run.later.trans after.later)))⟩
    · obtain ⟨t, e, run⟩ := exec_run c s power (fun k h => scan ⟨k, h⟩)
      exact ⟨t, e, run.later⟩

/-! ## What every step keeps -/

/-- The power-on values meet every condition, whatever the clock, the lines, the choices and the queue: none of them reads these. -/
theorem atPowerOn_safe (s : State) : SafeState (State.atPowerOn s.now s.trigLine s.latchLine s.choices s.pending) := by
  obtain ⟨pool, -, -, account, settings, estimates, -, -, head, charge⟩ := resetIsSafe
  have grants : GrantsOk (State.atPowerOn s.now s.trigLine s.latchLine s.choices s.pending) := by
    simp [GrantsOk, State.atPowerOn, Settings.defaults]
  have path : PathOk (State.atPowerOn s.now s.trigLine s.latchLine s.choices s.pending) := by
    simp [PathOk, State.atPowerOn, State.runRequest, SuctionState.driving, ChargeState.charging]
  have dirt : DirtOk (State.atPowerOn s.now s.trigLine s.latchLine s.choices s.pending) := by
    simp [DirtOk, State.atPowerOn]
  have bin : BinOk (State.atPowerOn s.now s.trigLine s.latchLine s.choices s.pending) := by
    simp [BinOk, State.atPowerOn, Settings.defaults]
  exact ⟨pool, grants, path, account, settings, estimates, dirt, bin, head, charge⟩

/-- Settles O5: every act keeps the claim pool. -/
theorem poolKept : Obligations.PoolKept :=
  step_keeps (fun _ _ => Act.poolOk) (fun _ _ _ p => p) (fun _ _ p => p) (fun _ _ p => p)
    (fun s _ => by obtain ⟨pool, -⟩ := atPowerOn_safe s; exact pool)

/-- Settles O6: every act keeps the grants. -/
theorem grantsKept : Obligations.GrantsKept :=
  step_keeps (fun _ _ => Act.grantsOk) (fun _ _ _ p => p) (fun _ _ p => p) (fun _ _ p => p)
    (fun s _ => by obtain ⟨-, grants, -⟩ := atPowerOn_safe s; exact grants)

/-- Settles O9: every act keeps the charge account. -/
theorem accountKept : Obligations.AccountKept :=
  step_keeps (fun _ _ => Act.accountOk) (fun _ _ _ p => p) (fun _ _ p => p) (fun _ _ p => p)
    (fun s _ => by obtain ⟨-, -, -, account, -⟩ := atPowerOn_safe s; exact account)

/-- Settles O10: every act keeps the settings, and every act keeps the estimates. -/
theorem settingsKept : Obligations.SettingsKept :=
  ⟨step_keeps (fun _ _ => Act.settingsOk) (fun _ _ _ p => p) (fun _ _ p => p) (fun _ _ p => p)
      (fun s _ => by obtain ⟨-, -, -, -, settings, -⟩ := atPowerOn_safe s; exact settings),
    step_keeps (fun _ _ => Act.estimatesOk) (fun _ _ _ p => p) (fun _ _ p => p) (fun _ _ p => p)
      (fun s _ => by obtain ⟨-, -, -, -, -, estimates, -⟩ := atPowerOn_safe s; exact estimates)⟩

/-- Settles O11: every act keeps the dirt monitor. -/
theorem dirtKept : Obligations.DirtKept :=
  step_keeps (fun _ _ => Act.dirtOk) (fun _ _ _ p => p) (fun _ _ p => p) (fun _ _ p => p)
    (fun s _ => by obtain ⟨-, -, -, -, -, -, dirt, -⟩ := atPowerOn_safe s; exact dirt)

end Sys2Proof.Machine
end

section
/-! PROOFS. The floor head, the bin gauge and the charge order: what every act keeps, and what the hand-offs of a scan restore. -/

namespace Sys2Proof.Machine

/-! ## The floor-head unit (05) -/

/-- With a PRESENT head the wand power goes off with it; with an ABSENT one the switch alone goes off (05 R90). -/
theorem wandPowerOff_cases (s : State) :
    (s.head.info.isSome = true ∧ (wandPowerOff s).head = Head.unpowered ∧ (wandPowerOff s).arb.brush = [])
      ∨ (s.head.info = none ∧ (wandPowerOff s).head = { s.head with wand := false, wandOff := none }
        ∧ (wandPowerOff s).arb.brush = s.arb.brush) := by
  cases info : s.head.info with
  | some h =>
    refine Or.inl ⟨rfl, ?_, ?_⟩ <;>
      simp [wandPowerOff, headAbsent, info, dropBrushStack, State.formGrants, Arbiter.dropBrush, Head.unpowered]
  | none =>
    refine Or.inr ⟨rfl, ?_, ?_⟩ <;> simp [wandPowerOff, headAbsent, info, State.formGrants]

/-- The floor-head unit's condition but for the overload count: what every act keeps, and the weighing of a scan too. -/
structure HeadHolds (s : State) : Prop where
  unpowered : s.head.wand = false → s.head.info = none ∧ s.head.wandOff = none
  absent : s.head.info = none → s.arb.brush = [] ∧ s.head.silence = none ∧ s.head.floor = .unknown ∧ s.head.overload = 0
  rating : ∀ i, s.head.info = some i → i.rating ≤ 120

theorem headOk_iff (s : State) : HeadOk s ↔ HeadHolds s ∧ s.head.overload ≤ 9 := by
  unfold HeadOk
  rw [Option.all_eq_true]
  simp only [decide_eq_true_eq]
  constructor
  · rintro ⟨unpowered, absent, rating, overload⟩; exact ⟨⟨unpowered, absent, rating⟩, overload⟩
  · rintro ⟨⟨unpowered, absent, rating⟩, overload⟩; exact ⟨unpowered, absent, rating, overload⟩

/-- The condition reads the floor-head unit and the brush stack alone. -/
theorem HeadHolds.congr {s t : State} (head : t.head = s.head) (brush : t.arb.brush = s.arb.brush) (p : HeadHolds s) :
    HeadHolds t := by
  obtain ⟨unpowered, absent, rating⟩ := p
  exact ⟨by rw [head]; exact unpowered, by rw [head, brush]; exact absent, by rw [head]; exact rating⟩

theorem HeadHolds.recompute {s : State} (p : HeadHolds s) : HeadHolds (recompute s) :=
  p.congr (by simp) (recompute_stacks s).2.1

theorem isSome_ne_none {α : Type} {o : Option α} (h : o.isSome = true) : o ≠ none := fun e => by simp [e] at h

theorem HeadMove.holds {s : State} {h : Head} (k : HeadMove s.now s.bin.state s.head h) (p : HeadHolds s) :
    HeadHolds { s with head := h } := by
  obtain ⟨unpowered, absent, rating⟩ := p
  cases k with
  | arrive =>
    refine ⟨fun off => ?_, absent, rating⟩
    simp only [Head.arrive, Bool.or_eq_false_iff] at off
    exact ⟨(unpowered off.1).1, rfl⟩
  | runEnd =>
    unfold Head.runEnd
    split
    · rename_i on
      exact ⟨fun off => absurd (on.symm.trans off) (by decide), absent, rating⟩
    · exact ⟨unpowered, absent, rating⟩
  | quiet =>
    refine ⟨unpowered, fun gone => ?_, rating⟩
    obtain ⟨brush, -, floor, overload⟩ := absent gone
    exact ⟨brush, rfl, floor, overload⟩
  | heard until_ present => exact ⟨unpowered, fun gone => absurd gone (isSome_ne_none present), rating⟩
  | hello info until_ powered rated =>
    exact ⟨fun off => absurd (powered.symm.trans off) (by decide), nofun, fun i e => by cases e; exact rated⟩
  | again info f present rated =>
    exact ⟨fun off => absurd (unpowered off).1 (isSome_ne_none present), nofun, fun i e => by cases e; exact rated⟩
  | floor f present => exact ⟨unpowered, fun gone => absurd gone (isSome_ne_none present), rating⟩

theorem HeadMove.overload {now : Nat} {bin : BinState} {h k : Head} (m : HeadMove now bin h k) :
    k.overload ≤ h.overload := by
  cases m with
  | runEnd => unfold Head.runEnd; split <;> exact le_rfl
  | hello => exact Nat.zero_le _
  | _ => exact le_rfl

/-- With an ABSENT head the brush stack stays empty: a push needs a PRESENT one. -/
theorem PoolMove.brush_empty {t : Settings} {info : Option HeadInfo} {a b : Arbiter} (h : PoolMove t info a b)
    (gone : info = none) (empty : a.brush = []) : b.brush = [] := by
  cases h with
  | pushSuction => unfold Arbiter.pushSuction; split <;> exact empty
  | pushBrush k label value kind room present => exact absurd gone (isSome_ne_none present)
  | popSuction => unfold Arbiter.popSuction; split <;> exact empty
  | popBrush => unfold Arbiter.popBrush; rw [empty]; exact empty
  | replaceSuction => unfold Arbiter.replaceSuction; split <;> exact empty
  | replaceBrush => unfold Arbiter.replaceBrush; rw [empty]; exact empty
  | dropSuction => exact empty
  | dropBrush => rfl
  | dropBoth => rfl

theorem Act.headHolds {s t : State} (h : Act s t) (p : HeadHolds s) : HeadHolds t := by
  obtain ⟨unpowered, absent, rating⟩ := id p
  cases h with
  | recompute a hd h k =>
    refine HeadHolds.recompute (s := { s with alw := a, head := hd }) ?_
    rcases k with k | k <;> subst k
    · exact HeadHolds.congr (s := s) rfl rfl p
    · exact HeadHolds.congr (s := { s with head := s.head.runEnd s.now }) rfl rfl (HeadMove.runEnd.holds p)
  | head hd h => exact h.holds p
  | headGone => exact ⟨fun off => ⟨rfl, (unpowered off).2⟩, fun _ => ⟨rfl, rfl, rfl, rfl⟩, nofun⟩
  | powerOff =>
    rcases wandPowerOff_cases s with ⟨-, head, brush⟩ | ⟨none_, head, brush⟩
    · exact ⟨by rw [head]; exact fun _ => ⟨rfl, rfl⟩, by rw [head, brush]; exact fun _ => ⟨rfl, rfl, rfl, rfl⟩,
        by rw [head]; exact nofun⟩
    · exact ⟨by rw [head]; exact fun _ => ⟨none_, rfl⟩, by rw [head, brush]; exact absent, by rw [head]; exact rating⟩
  | path => exact ⟨unpowered, absent, rating⟩
  | pool a h =>
    refine ⟨unpowered, fun gone => ?_, rating⟩
    obtain ⟨brush, rest⟩ := absent gone
    exact ⟨h.brush_empty gone brush, rest⟩
  | reform => exact p.congr (by simp) (by simp)
  | lower => exact p.congr (by simp) (by simp)
  | chgI => exact p.congr (by simp) (by simp)
  | chgVcell => exact p.congr (by simp) (by simp)
  | softReset =>
    have head : (Machine.softReset s).head = Head.unpowered := by simp [Machine.softReset]
    have brush : (Machine.softReset s).arb.brush = [] := by simp [Machine.softReset, State.formGrants, Arbiter.dropBoth]
    exact ⟨by rw [head]; exact fun _ => ⟨rfl, rfl⟩, by rw [head, brush]; exact fun _ => ⟨rfl, rfl, rfl, rfl⟩,
      by rw [head]; exact nofun⟩
  | _ => exact ⟨unpowered, absent, rating⟩

/-- No act raises the overload count. -/
theorem Act.overload {s t : State} (h : Act s t) : t.head.overload ≤ s.head.overload := by
  cases h with
  | recompute a hd h k =>
    rw [recompute_head]
    rcases k with k | k <;> subst k
    · exact le_rfl
    · exact HeadMove.runEnd (bin := s.bin.state).overload
  | head hd h => exact h.overload
  | headGone => exact Nat.zero_le _
  | powerOff =>
    rcases wandPowerOff_cases s with ⟨-, head, -⟩ | ⟨-, head, -⟩ <;> rw [head]
    · exact Nat.zero_le _
  | reform => exact le_of_eq (by simp)
  | lower => exact le_of_eq (by simp)
  | chgI => exact le_of_eq (by simp)
  | chgVcell => exact le_of_eq (by simp)
  | softReset => simp [Machine.softReset, Head.unpowered]
  | _ => exact le_rfl

theorem Act.headOk {s t : State} (h : Act s t) (p : HeadOk s) : HeadOk t := by
  obtain ⟨holds, overload⟩ := (headOk_iff s).1 p
  exact (headOk_iff t).2 ⟨h.headHolds holds, h.overload.trans overload⟩

/-- The weighing of a scan touches the overload count alone; it counts up a PRESENT head's, and holds it at 10 (05 R97). -/
theorem headScan_cases (gh : Nat) (r : ScanRecord) (h : Head) :
    h.scan gh r = h
      ∨ (h.info.isSome = true ∧ ∃ n, n ≤ 10 ∧ h.scan gh r = { h with overload := n }) := by
  unfold Head.scan
  split
  · rename_i counts
    have present : h.info.isSome = true := by
      simp only [Head.counts, Bool.and_eq_true] at counts
      exact counts.2
    split
    · exact Or.inr ⟨present, _, Nat.min_le_left _ _, rfl⟩
    · exact Or.inr ⟨present, 0, Nat.zero_le _, rfl⟩
  · exact Or.inl rfl

theorem HeadHolds.weighed {s : State} (r : ScanRecord) (p : HeadHolds s) : HeadHolds (s.weighed r) := by
  obtain ⟨unpowered, absent, rating⟩ := id p
  unfold State.weighed
  rcases headScan_cases s.arb.gh r s.head with e | ⟨present, n, -, e⟩ <;> rw [e]
  · exact p
  · exact ⟨unpowered, fun gone => absurd gone (isSome_ne_none present), rating⟩

/-- The floor-head unit stands at the motor's and the allowance unit's own work on a scan. -/
theorem motorScan_head (r : ScanRecord) (s : State) : (allowanceScan r (suctionScan r s)).head = s.head := by
  have motor : (suctionScan r s).head = s.head := by
    obtain ⟨_, _, _, e⟩ := suctionScan_frame r s
    rw [e]
  unfold allowanceScan
  split
  · exact motor
  · split
    · simpa using motor
    · exact motor

/-- Ten counts of the head's overload end in its going ABSENT at the hand-offs, so the count stands below 10 after them (05 R98). -/
theorem handedOff_overload (r : ScanRecord) (q : State) (s : State) (before : q.head.overload ≤ 9)
    (weighed : s.head = q.head ∨ q.head.info.isSome = true ∧ ∃ n, n ≤ 10 ∧ s.head = { q.head with overload := n }) :
    (scanHandOffs r q s).head.overload ≤ 9 := by
  have ended : (handOffHead q s).head.overload = s.head.overload ∧ (handOffHead q s).head.info = s.head.info := by
    rcases handOffHead_cases q s with e | e <;> rw [e]
    · exact ⟨rfl, rfl⟩
    · unfold Head.runEnd
      split <;> exact ⟨rfl, rfl⟩
  have granted : (handOffGrants r q (handOffHead q s)).head = (handOffHead q s).head := by
    unfold handOffGrants
    split
    · exact recompute_head _
    · rfl
  rw [scanHandOffs_eq]
  generalize handOffGrants r q (handOffHead q s) = u at granted
  unfold handOffOverload
  split
  · rename_i trips
    rw [granted, ended.1] at trips
    have present : u.head.info.isSome = true := by
      rw [granted, ended.2]
      rcases weighed with e | ⟨present, n, -, e⟩
      · rw [e] at trips; omega
      · rw [e]; exact present
    rcases wandPowerOff_cases (raiseHandle .headOverload u) with ⟨-, head, -⟩ | ⟨gone, -, -⟩
    · unfold headOverload; rw [head]; exact Nat.zero_le _
    · exact absurd gone (isSome_ne_none present)
  · rename_i calm
    rw [granted, ended.1] at calm ⊢
    omega

theorem handedOff_headOk (r : ScanRecord) (s : State) (p : HeadOk s) : HeadOk (handedOff r s) := by
  obtain ⟨holds, overload⟩ := (headOk_iff s).1 p
  have judged : (s.judged r).head = s.head := by
    unfold State.judged judgeDeep
    split <;> rfl
  refine (headOk_iff _).2 ⟨?_, ?_⟩
  · exact (handedOff_work r s).keeps (fun _ _ => Act.headHolds)
      (HeadHolds.weighed r ((judged_work r s).keeps (fun _ _ => Act.headHolds) holds))
  · refine handedOff_overload r s _ overload ?_
    rw [motorScan_head, ← judged]
    exact headScan_cases _ r _

/-- Settles O13: every act keeps the floor-head unit, and the hand-offs of a scan bring the overload count below 10 again. -/
theorem headKept : Obligations.HeadKept := by
  have keeps {u v : State} (run : Run u v) (p : HeadOk u) : HeadOk v :=
    run.keeps (fun _ _ => Act.headOk) (fun _ _ _ q => q) p
  have runs : ∀ c s t, HeadOk s → exec c s = .next t → HeadOk t := by
    intro c s t p e
    by_cases on : c = .powerOn
    · subst on
      cases e
      obtain ⟨-, -, -, -, -, -, -, -, head, -⟩ := atPowerOn_safe s
      exact head
    · by_cases scan : ∃ k, c = .scanCompletion k
      · obtain ⟨k, rfl⟩ := scan
        obtain ⟨u, e', same | ⟨q, r, before, after⟩⟩ := exec_scan_run k s
        · rw [e'] at e; cases e; exact same ▸ p
        · rw [e'] at e
          cases e
          exact keeps after (handedOff_headOk r q (keeps before p))
      · obtain ⟨u, e', run⟩ := exec_run c s on (fun k h => scan ⟨k, h⟩)
        rw [e'] at e
        cases e
        exact keeps run p
  intro s t p e
  unfold step at e
  split at e
  · cases e; exact p
  · rename_i c rest _
    exact runs c { s with pending := rest } t p e

/-! ## The bin gauge (06, section 6.2) -/

/-- The gauge's own conditions, apart from the motor (06 R111, R112, R119 to R121). -/
structure Bin.Ok (b : Bin) : Prop where
  latch : b.closed = false ↔ b.state = .detached
  cal : b.cal.isSome = true ↔ (b.state = .ready ∨ b.state = .full)
  calOk : ∀ c, b.cal = some c → c.full < c.baseline ∧ c.fill ≤ 100
  fitted : b.meas.isSome = true → b.state ≠ .detached
  measOk : ∀ m, b.meas = some m → 1 ≤ m.tryNo ∧ m.tryNo ≤ 4 ∧ m.step ≤ 3
  step : b.workStep ≤ 3
  seq : b.seq ≤ 255

/-- No measurement is in flight while MEN is on (06 R117). -/
def MeasOff (s : State) : Prop := s.bin.meas.isSome = true → s.men = false

theorem binOk_iff (s : State) : BinOk s ↔ (s.settings.fullRatio ≤ 240 ∧ s.bin.Ok) ∧ MeasOff s := by
  unfold BinOk MeasOff
  rw [Option.all_eq_true, Option.all_eq_true]
  simp only [Calibration.ok, Measurement.ok, decide_eq_true_eq]
  constructor
  · rintro ⟨ratio, latch, cal, calOk, flies, measOk, step, seq⟩
    exact ⟨⟨ratio, ⟨latch, cal, calOk, fun h => (flies h).2, measOk, step, seq⟩⟩, fun h => (flies h).1⟩
  · rintro ⟨⟨ratio, ⟨latch, cal, calOk, fitted, measOk, step, seq⟩⟩, off⟩
    exact ⟨ratio, latch, cal, calOk, fun h => ⟨off h, fitted h⟩, measOk, step, seq⟩

/-- A judgement on a fill moves between READY and FULL alone (06 R121). -/
theorem judgeFill_state (pct fill : Nat) (b : BinState) :
    ((judgeFill pct fill b).1 = .detached ↔ b = .detached)
      ∧ ((judgeFill pct fill b).1 = .ready ∨ (judgeFill pct fill b).1 = .full ↔ b = .ready ∨ b = .full) := by
  cases b with
  | detached => simp [judgeFill]
  | uncal => simp [judgeFill]
  | ready => by_cases reached : pct ≤ fill <;> simp [judgeFill, reached]
  | full => by_cases below : fill + 10 < pct <;> simp [judgeFill, below]

theorem fillOf_le (baseline full last : Nat) : fillOf baseline full last ≤ 100 := by
  unfold fillOf
  split
  · exact Nat.zero_le _
  · exact Nat.min_le_left _ _

/-- The full count of a baseline lies below it (06 R119). -/
theorem fullCount_lt {baseline ratio : Nat} (some_ : 0 < baseline) (h : ratio ≤ 240) : fullCount baseline ratio < baseline := by
  have product : baseline * ratio ≤ baseline * 240 := Nat.mul_le_mul_left _ h
  unfold fullCount
  omega

/-- A gauge that keeps its latch, state and calibration, with measurement, working step and sequence number in bounds. -/
theorem Bin.Ok.frame {b c : Bin} (ok : b.Ok) (closed : c.closed = b.closed) (state : c.state = b.state)
    (cal : c.cal = b.cal) (fitted : c.meas.isSome = true → b.state ≠ .detached)
    (measOk : ∀ m, c.meas = some m → 1 ≤ m.tryNo ∧ m.tryNo ≤ 4 ∧ m.step ≤ 3) (step : c.workStep ≤ 3)
    (seq : c.seq ≤ 255) : c.Ok :=
  ⟨by rw [closed, state]; exact ok.latch, by rw [cal, state]; exact ok.cal, by rw [cal]; exact ok.calOk,
    by rw [state]; exact fitted, measOk, step, seq⟩

/-- A gauge whose state is judged on a fill within 100 of a calibration in order stays in order. -/
theorem Bin.Ok.judged {b : Bin} (ok : b.Ok) {c d : Calibration} (was : b.cal = some c) (full : d.full < d.baseline)
    (fill : d.fill ≤ 100) (pct n : Nat) (last : Option Nat) :
    ({ b with cal := some d, state := (judgeFill pct n b.state).1, lastCount := last } : Bin).Ok := by
  obtain ⟨detached, calibrated⟩ := judgeFill_state pct n b.state
  refine ⟨ok.latch.trans detached.symm, ?_, ?_, fun h => mt detached.1 (ok.fitted h), ok.measOk, ok.step, ok.seq⟩
  · rw [calibrated, ← ok.cal, was]; simp
  · intro e same; cases same; exact ⟨full, fill⟩

/-- A GOOD count applied to a fitted gauge keeps it in order (06 R119 to R121). -/
theorem Bin.Ok.applyGood {b : Bin} (ok : b.Ok) (t : Settings) {count : Nat} (ratio : t.fullRatio ≤ 240)
    (live : 0 < count) (fitted : b.state ≠ .detached) : (b.applyGood t count).1.Ok := by
  unfold Bin.applyGood
  split
  · refine ⟨?_, ?_, ?_, ?_, ok.measOk, ok.step, ok.seq⟩
    · rw [ok.latch]; simp [fitted]
    · simp
    · intro c same; cases same; exact ⟨fullCount_lt live ratio, Nat.zero_le _⟩
    · simp
  · split
    · exact ok.frame rfl rfl rfl ok.fitted ok.measOk ok.step ok.seq
    · rename_i c was
      exact ok.judged was (d := { c with fill := fillOf c.baseline c.full count }) (ok.calOk c was).1 
        (fillOf_le c.baseline c.full count) _ _ _

theorem Bin.Ok.reform {b : Bin} (ok : b.Ok) {ratio : Nat} (pct : Nat) (h : ratio ≤ 240) : (b.reform ratio pct).1.Ok := by
  unfold Bin.reform
  split
  · exact ok
  · rename_i c was
    obtain ⟨full, fill⟩ := ok.calOk c was
    dsimp only
    split
    · rename_i n _
      exact ok.judged was (d := ⟨c.baseline, _, _⟩) (fullCount_lt (Nat.zero_lt_of_lt full) h) (fillOf_le _ _ _) pct _ _
    · exact ok.judged was (d := ⟨c.baseline, _, _⟩) (fullCount_lt (Nat.zero_lt_of_lt full) h) fill pct _ _

theorem Bin.Ok.rejudge {b : Bin} (ok : b.Ok) (pct : Nat) : (b.rejudge pct).1.Ok := by
  unfold Bin.rejudge
  split
  · exact ok
  · rename_i c was
    obtain ⟨full, fill⟩ := ok.calOk c was
    obtain ⟨detached, calibrated⟩ := judgeFill_state pct c.fill b.state
    exact ⟨ok.latch.trans detached.symm, ok.cal.trans calibrated.symm, ok.calOk,
      fun h => mt detached.1 (ok.fitted h), ok.measOk, ok.step, ok.seq⟩

theorem Bin.Ok.uncalibrate {b : Bin} (ok : b.Ok) : b.uncalibrate.Ok := by
  unfold Bin.uncalibrate
  refine ⟨?_, ?_, nofun, fun h => ?_, ok.measOk, ok.step, ok.seq⟩
  · rw [ok.latch]; dsimp only; split <;> simp_all
  · dsimp only; split <;> simp
  · have fitted := ok.fitted h
    simp [fitted]

/-- A calibration in flight of a gauge that is cancelled: measurement and pending calibration are gone. -/
theorem Bin.Ok.cancel {b : Bin} (ok : b.Ok) (timer : Option Nat) (last : Option Halves) :
    ({ b with meas := none, lastTry := last, calPending := false, latchTimer := timer } : Bin).Ok :=
  ok.frame rfl rfl rfl nofun nofun ok.step ok.seq

theorem BinMove.ok {t : Settings} {b c : Bin} (h : BinMove t b c) (ratio : t.fullRatio ≤ 240) (ok : b.Ok) : c.Ok := by
  cases h with
  | marks timer last => exact ok.frame rfl rfl rfl ok.fitted ok.measOk ok.step ok.seq
  | start pend fitted =>
    refine ok.frame rfl rfl rfl (fun _ => fitted) (fun m e => ?_) ok.step ok.seq
    cases e
    exact ⟨le_rfl, (by dsimp only; omega), ok.step⟩
  | ended r => exact ok.frame rfl rfl rfl nofun nofun ok.step (Nat.le_of_lt_succ (Nat.mod_lt _ (by decide)))
  | hop m flies more =>
    refine ok.frame rfl rfl rfl (fun _ => ok.fitted (by rw [flies]; rfl)) (fun n e => ?_) ok.step ok.seq
    cases e
    obtain ⟨low, -, -⟩ := ok.measOk m flies
    exact ⟨by dsimp only; omega, by dsimp only; omega, by dsimp only; omega⟩
  | good m count flies live =>
    have fitted : b.state ≠ .detached := ok.fitted (by rw [flies]; rfl)
    obtain ⟨-, -, step⟩ := ok.measOk m flies
    refine Bin.Ok.applyGood ?_ t ratio live fitted
    exact ok.frame rfl rfl rfl nofun nofun step (Nat.le_of_lt_succ (Nat.mod_lt _ (by decide)))
  | close was =>
    have detached := ok.latch.1 was
    have blank : b.cal.isSome = false := by
      rw [Bool.eq_false_iff, Ne, ok.cal, detached]; simp
    refine ⟨by simp, by simp [blank], ok.calOk, by simp, ok.measOk, ok.step, ok.seq⟩
  | opens still => exact ⟨by simp, by simp, nofun, fun h => by simp [still] at h, ok.measOk, ok.step, ok.seq⟩
  | reform pct => exact ok.reform pct ratio
  | rejudge pct => exact ok.rejudge pct
  | uncalibrate => exact ok.uncalibrate
  | cancel timer last => exact ok.cancel timer last

theorem SettingsMove.fullRatio {depthS depthH : Nat} {t u : Settings} (h : SettingsMove depthS depthH t u)
    (p : t.fullRatio ≤ 240) : u.fullRatio ≤ 240 := by
  cases h with
  | numeric id lo hi v range low high =>
    by_cases mine : id = 38
    · subst mine
      cases range
      simp only [Settings.setNumeric]
      omega
    · rw [setNumeric_fullRatio id v t mine]; exact p
  | choice => exact p
  | derate => exact p
  | hard => exact p
  | carpet => exact p

/-- The gauge's conditions apart from the motor, with the FULL_RATIO they need. -/
def BinHolds (s : State) : Prop := s.settings.fullRatio ≤ 240 ∧ s.bin.Ok

theorem BinHolds.congr {s t : State} (ratio : t.settings.fullRatio = s.settings.fullRatio) (bin : t.bin = s.bin)
    (p : BinHolds s) : BinHolds t := by
  unfold BinHolds at p ⊢
  rw [ratio, bin]
  exact p

theorem Bin.Ok.softReset {b : Bin} (ok : b.Ok) (now : Nat) (old : Settings) : (b.softReset now old).1.Ok := by
  have cancelled := ok.cancel (some (now + ms 20)) b.tryBefore
  unfold Bin.softReset Bin.toDefaults
  split
  · exact cancelled.reform _ (by decide)
  · exact cancelled.uncalibrate

theorem Act.binHolds {s t : State} (h : Act s t) (p : BinHolds s) : BinHolds t := by
  have again (u : State) (q : BinHolds u) : BinHolds (Machine.recompute u) := q.congr (by simp) (by simp)
  cases h with
  | recompute => exact again _ p
  | powerOff => exact powerOff_keeps (P := BinHolds) again (fun _ _ q => q) (fun _ _ q => q) (fun _ q => q) s p
  | bin b h => exact ⟨p.1, h.ok p.1 p.2⟩
  | settings t h => exact ⟨h.fullRatio p.1, p.2⟩
  | reform => exact p.congr (by simp) (by simp)
  | lower => exact p.congr (by simp) (by simp)
  | chgI => exact p.congr (by simp) (by simp)
  | chgVcell => exact p.congr (by simp) (by simp)
  | softReset =>
    unfold BinHolds
    simp only [Sys2Proof.Machine.softReset, raiseIfFull_bin, raiseIfFull_settings, recompute_bin, recompute_settings]
    exact ⟨by decide, p.2.softReset s.now s.settings⟩
  | _ => exact p

/-! ## The charge order (08 R145, R155) -/

/-- The order as the charge state forms it, its number within 255, no two neighbours bleeding. -/
structure OrderHolds (s : State) : Prop where
  cur : s.chg.orderCur = s.formedCurrent
  ceil : s.chg.orderCeil = s.settings.chgVcell
  num : s.chg.orderNum ≤ 255
  apart : noNeighbours s.chg.bleeds.toList = true

/-- None bleeds outside TOPOFF and BALANCE (08 R155). -/
def BleedsRest (s : State) : Prop := s.chg.state ≠ .topoff → s.chg.state ≠ .balance → s.chg.bleeds = Bleeds.off

theorem chargeOk_iff (s : State) : ChargeOk s ↔ OrderHolds s ∧ BleedsRest s := by
  constructor
  · rintro ⟨cur, ceil, num, apart, rest⟩; exact ⟨⟨cur, ceil, num, apart⟩, rest⟩
  · rintro ⟨⟨cur, ceil, num, apart⟩, rest⟩; exact ⟨cur, ceil, num, apart, rest⟩

/-- The current a charge state forms is read off the state, the capability, COLD, CHG_I, and in TOPOFF off the order itself. -/
theorem formedCurrent_congr {s t : State} (state : t.chg.state = s.chg.state)
    (bulk : s.chg.state = .bulk → t.chg.cap = s.chg.cap ∧ t.chg.cold = s.chg.cold ∧ t.settings.chgI = s.settings.chgI)
    (topoff : s.chg.state = .topoff → t.chg.orderCur = s.chg.orderCur) : t.formedCurrent = s.formedCurrent := by
  unfold State.formedCurrent State.bulkCurrent
  rw [state]
  cases h : s.chg.state with
  | bulk => obtain ⟨cap, cold, chgI⟩ := bulk h; simp only [cap, cold, chgI]
  | topoff => simp only [topoff h]
  | _ => rfl

/-- The condition reads the charge controller, CHG_I and CHG_VCELL alone. -/
theorem OrderHolds.congr {s t : State} (chg : t.chg = s.chg) (chgI : t.settings.chgI = s.settings.chgI)
    (chgVcell : t.settings.chgVcell = s.settings.chgVcell) (p : OrderHolds s) : OrderHolds t := by
  have formed : t.formedCurrent = s.formedCurrent :=
    formedCurrent_congr (by rw [chg]) (fun _ => ⟨by rw [chg], by rw [chg], chgI⟩) (fun _ => by rw [chg])
  exact ⟨by rw [chg, formed]; exact p.cur, by rw [chg, chgVcell]; exact p.ceil, by rw [chg]; exact p.num,
    by rw [chg]; exact p.apart⟩

/-- The order's number stays within 255 at a change of the order, and the bleeds stand. -/
theorem putOrder_num (current ceil : Nat) (s : State) (num : s.chg.orderNum ≤ 255) :
    (putOrder current ceil s).chg.orderNum ≤ 255 ∧ (putOrder current ceil s).chg.bleeds = s.chg.bleeds
      ∧ (putOrder current ceil s).chg.cap = s.chg.cap ∧ (putOrder current ceil s).chg.cold = s.chg.cold := by
  rcases putOrder_cases current ceil s with ⟨-, -, e⟩ | ⟨-, e⟩ <;> rw [e]
  · exact ⟨num, rfl, rfl, rfl⟩
  · exact ⟨Nat.le_of_lt_succ (Nat.mod_lt _ (by decide)), rfl, rfl, rfl⟩

/-- A re-formed order stands as its state forms it. -/
theorem reformOrder_holds (s : State) (num : s.chg.orderNum ≤ 255) (apart : noNeighbours s.chg.bleeds.toList = true) :
    OrderHolds (reformOrder s) := by
  obtain ⟨cur, ceil, state⟩ := putOrder_order s.formedCurrent s.settings.chgVcell s
  obtain ⟨num', bleeds, cap, cold⟩ := putOrder_num s.formedCurrent s.settings.chgVcell s num
  have formed : (reformOrder s).formedCurrent = s.formedCurrent := by
    refine formedCurrent_congr state (fun _ => ⟨cap, cold, by rw [reformOrder_settings]⟩) (fun topoff => ?_)
    change (putOrder _ _ s).chg.orderCur = _
    rw [cur, State.formedCurrent, topoff]
  exact ⟨cur.trans formed.symm, by rw [reformOrder_settings]; exact ceil, num', by
    change noNeighbours (putOrder _ _ s).chg.bleeds.toList = true
    rw [bleeds]; exact apart⟩

theorem ChargerMove.holds {s : State} {c : Charger} (h : ChargerMove s.chg c) (p : OrderHolds s) :
    OrderHolds { s with chg := c } := by
  refine ⟨?_, h.ceil.trans p.ceil, h.num.trans_le p.num, ?_⟩
  · rcases h.state with same | ⟨absent, qualify⟩
    · have formed : ({ s with chg := c } : State).formedCurrent = s.formedCurrent :=
        formedCurrent_congr same
          (fun bulk => ⟨(h.bulk (same.trans bulk)).1, (h.bulk (same.trans bulk)).2, rfl⟩) (fun _ => h.cur)
      exact h.cur.trans (p.cur.trans formed.symm)
    · have was := p.cur
      simp only [State.formedCurrent, absent] at was
      change c.orderCur = _
      simp only [State.formedCurrent, qualify]
      exact h.cur.trans was
  · rcases h.bleeds with same | apart
    · change noNeighbours c.bleeds.toList = true
      rw [same]; exact p.apart
    · exact apart

theorem SettingsMove.charge {depthS depthH : Nat} {t u : Settings} (h : SettingsMove depthS depthH t u) :
    u.chgI = t.chgI ∧ u.chgVcell = t.chgVcell := by
  cases h with
  | numeric id lo hi v range low high vcut vstop suction brush own =>
    exact ⟨setNumeric_chgI id v t own.2.1, setNumeric_chgVcell id v t own.2.2⟩
  | choice => exact ⟨rfl, rfl⟩
  | derate => exact ⟨rfl, rfl⟩
  | hard => exact ⟨rfl, rfl⟩
  | carpet => exact ⟨rfl, rfl⟩

theorem Act.orderHolds {s t : State} (h : Act s t) (p : OrderHolds s) : OrderHolds t := by
  have again (u : State) (q : OrderHolds u) : OrderHolds (Machine.recompute u) := q.congr (by simp) (by simp) (by simp)
  cases h with
  | recompute => exact again _ (OrderHolds.congr (s := s) rfl rfl rfl p)
  | powerOff =>
    exact powerOff_keeps (P := OrderHolds) again (fun u _ q => OrderHolds.congr (s := u) rfl rfl rfl q)
      (fun u _ q => OrderHolds.congr (s := u) rfl rfl rfl q) (fun u q => OrderHolds.congr (s := u) rfl rfl rfl q) s p
  | charger c h => exact h.holds p
  | reform c num bleeds =>
    refine reformOrder_holds _ (num.trans_le p.num) ?_
    rcases bleeds with e | e
    · change noNeighbours c.bleeds.toList = true
      rw [e]; exact p.apart
    · change noNeighbours c.bleeds.toList = true
      rw [e]; rfl
  | lower current topoff =>
    obtain ⟨cur, ceil, state⟩ := putOrder_order current s.settings.chgVcell s
    obtain ⟨num, bleeds, -⟩ := putOrder_num current s.settings.chgVcell s p.num
    refine ⟨?_, by rw [putOrder_settings]; exact ceil, num, by rw [bleeds]; exact p.apart⟩
    simp only [State.formedCurrent, state, topoff]
  | settings t h => exact OrderHolds.congr (s := s) rfl h.charge.1 h.charge.2 p
  | chgI => exact reformOrder_holds _ p.num p.apart
  | chgVcell => exact reformOrder_holds _ p.num p.apart
  | softReset =>
    have chg : (Machine.softReset s).chg = s.chg.softReset := by simp [Machine.softReset]
    have settings : (Machine.softReset s).settings = Settings.defaults := by simp [Machine.softReset]
    refine ⟨?_, ?_, ?_, ?_⟩
    · simp only [State.formedCurrent, chg, Charger.softReset]
    · rw [chg, settings]; rfl
    · rw [chg]
      simp only [Charger.softReset]
      split
      · exact p.num
      · omega
    · rw [chg]; rfl
  | _ => exact OrderHolds.congr (s := s) rfl rfl rfl p

end Sys2Proof.Machine
end

section
/-! PROOFS. The power path: what the path, the suction state and the charge state say of each other, as a view of the state, and what
each exchange over the path does to that view. -/

namespace Sys2Proof.Machine

/-! ## The view -/

/-- What of the gauge and of the bleeds is watched besides the path. -/
structure Watch where
  gauge : Bool
  bleeds : Bool

/-- What the power path and its two sides say of each other. A measurement is seen where the gauge is watched, a lit bleed where the
bleeds are. -/
structure PathView where
  path : Path
  waiting : Option Side
  suc : SuctionState
  asked : Bool
  pressed : Bool
  lock : Bool
  chg : ChargeState
  pend : Bool
  deep : Bool
  meas : Bool
  dark : Bool

def PathView.run (v : PathView) : Bool := v.pressed || v.lock

def State.view (w : Watch) (s : State) : PathView where
  path := s.arb.path
  waiting := s.arb.waiting
  suc := s.suc.state
  asked := s.suc.enableAsked
  pressed := s.suc.pressed
  lock := s.suc.lock
  chg := s.chg.state
  pend := decide (s.pwr.entry ≠ .none)
  deep := s.pwr.deepTimer.isSome
  meas := w.gauge && s.bin.meas.isSome
  dark := !w.bleeds || decide (s.chg.bleeds = Bleeds.off)

/-- Where an exchange over the path stands: a side has left its state and not yet released the path, or has been given the path and
not yet taken it (03 R59 to R61). -/
inductive Late where
  | settled
  | suctionLeft
  | suctionGiven
  | chargerLeft
  | chargerGiven

/-- Path, suction state and charge state agree, but for the exchange that is under way. -/
structure Agrees (l : Late) (v : PathView) : Prop where
  drives : v.path = .discharge ↔ v.suc.driving = true ∨ l = .suctionLeft ∨ l = .suctionGiven
  charges : v.path = .charge ↔ v.chg.charging = true ∨ l = .chargerLeft ∨ l = .chargerGiven
  suctionWaits : v.waiting = some .suction ↔ v.suc = .waitPath ∧ l ≠ .suctionGiven
  chargerWaits : v.waiting = some .charger ↔ v.chg = .waitIdle ∧ l ≠ .chargerGiven
  behindCharge : v.waiting = some .suction → v.path = .charge
  behindRun : v.waiting = some .charger → v.path = .discharge
  asked : v.asked = v.suc.driving
  requested : v.suc = .waitPath ∨ v.suc = .starting ∨ v.suc = .running → v.run = true
  locked : v.lock = true → v.suc = .running
  entry : v.pend = true → v.path = .idle ∧ v.run = false
  deep : v.deep = true → v.path = .idle ∧ v.run = false
  gauge : v.meas = true → v.suc.driving = false
  bleeds : v.dark = false → v.chg = .topoff ∨ v.chg = .balance
  suctionLeft : l = .suctionLeft → v.suc = .stopped ∨ v.suc = .fault
  suctionGiven : l = .suctionGiven → v.waiting = none ∧ (v.suc = .stopped ∨ v.suc = .waitPath)
  chargerLeft : l = .chargerLeft → v.chg.charging = false ∧ v.chg ≠ .waitIdle
  chargerGiven : l = .chargerGiven → v.waiting = none ∧ v.chg.charging = false

/-- The conditions as one formula, for the decision procedure. -/
theorem agrees_iff (l : Late) (v : PathView) :
    Agrees l v
      ↔ ((v.path = .discharge ↔ v.suc.driving = true ∨ l = .suctionLeft ∨ l = .suctionGiven)
        ∧ (v.path = .charge ↔ v.chg.charging = true ∨ l = .chargerLeft ∨ l = .chargerGiven)
        ∧ (v.waiting = some .suction ↔ v.suc = .waitPath ∧ l ≠ .suctionGiven)
        ∧ (v.waiting = some .charger ↔ v.chg = .waitIdle ∧ l ≠ .chargerGiven)
        ∧ (v.waiting = some .suction → v.path = .charge)
        ∧ (v.waiting = some .charger → v.path = .discharge)
        ∧ (v.asked = v.suc.driving)
        ∧ (v.suc = .waitPath ∨ v.suc = .starting ∨ v.suc = .running → v.run = true)
        ∧ (v.lock = true → v.suc = .running)
        ∧ (v.pend = true → v.path = .idle ∧ v.run = false)
        ∧ (v.deep = true → v.path = .idle ∧ v.run = false)
        ∧ (v.meas = true → v.suc.driving = false)
        ∧ (v.dark = false → v.chg = .topoff ∨ v.chg = .balance)
        ∧ (l = .suctionLeft → v.suc = .stopped ∨ v.suc = .fault)
        ∧ (l = .suctionGiven → v.waiting = none ∧ (v.suc = .stopped ∨ v.suc = .waitPath))
        ∧ (l = .chargerLeft → v.chg.charging = false ∧ v.chg ≠ .waitIdle)
        ∧ (l = .chargerGiven → v.waiting = none ∧ v.chg.charging = false)) := by
  constructor
  · rintro ⟨a, b, c, d, e, f, g, h, i, j, k, m, n, o, p, q, r⟩
    exact ⟨a, b, c, d, e, f, g, h, i, j, k, m, n, o, p, q, r⟩
  · rintro ⟨a, b, c, d, e, f, g, h, i, j, k, m, n, o, p, q, r⟩
    exact ⟨a, b, c, d, e, f, g, h, i, j, k, m, n, o, p, q, r⟩

/-- The invariant of the path, with what is watched besides. -/
def Settled (w : Watch) (s : State) : Prop := Agrees .settled (s.view w)

/-- The path itself reads neither the gauge nor the bleeds. -/
theorem Agrees.rewatch {l : Late} {w x : Watch} {s : State} (h : Agrees l (s.view w))
    (gauge : (s.view x).meas = true → s.suc.state.driving = false)
    (bleeds : (s.view x).dark = false → s.chg.state = .topoff ∨ s.chg.state = .balance) : Agrees l (s.view x) :=
  ⟨h.drives, h.charges, h.suctionWaits, h.chargerWaits, h.behindCharge, h.behindRun, h.asked, h.requested, h.locked,
    h.entry, h.deep, gauge, bleeds, h.suctionLeft, h.suctionGiven, h.chargerLeft, h.chargerGiven⟩

theorem pathOk_iff (s : State) : PathOk s ↔ Settled ⟨false, false⟩ s := by
  have entered : (s.view ⟨false, false⟩).pend = true ↔ s.pwr.entry ≠ .none := decide_eq_true_iff
  constructor
  · rintro ⟨drives, charges, suctionWaits, chargerWaits, behindCharge, behindRun, asked, requested, locked, entry, deep⟩
    exact ⟨drives.trans (by simp [State.view]), charges.trans (by simp [State.view]),
      suctionWaits.trans (by simp [State.view]), chargerWaits.trans (by simp [State.view]), behindCharge, behindRun, asked,
      requested, locked, fun h => entry (entered.1 h), deep, nofun, nofun, nofun, nofun, nofun, nofun⟩
  · intro h
    exact ⟨h.drives.trans (by simp [State.view]), h.charges.trans (by simp [State.view]),
      h.suctionWaits.trans (by simp [State.view]), h.chargerWaits.trans (by simp [State.view]), h.behindCharge,
      h.behindRun, h.asked, h.requested, h.locked, fun e => h.entry (entered.2 e), h.deep⟩

theorem settled_iff (w : Watch) (s : State) :
    Settled w s ↔ PathOk s ∧ (w.gauge = true → MeasOff s) ∧ (w.bleeds = true → BleedsRest s) := by
  rw [pathOk_iff]
  constructor
  · intro h
    refine ⟨h.rewatch nofun nofun, fun g m => ?_, fun b topoff balance => ?_⟩
    · have rests : s.suc.state.driving = false := h.gauge (by simp [State.view, g, m])
      have asked : s.suc.enableAsked = false := Eq.trans h.asked rests
      simp [State.men, asked]
    · by_contra lit
      rcases h.bleeds (by simp [State.view, b, lit]) with e | e
      · exact topoff e
      · exact balance e
  · rintro ⟨p, gauge, bleeds⟩
    refine p.rewatch (fun m => ?_) (fun dark => ?_)
    · simp only [State.view, Bool.and_eq_true] at m
      have off := gauge m.1 m.2
      by_contra drives
      rw [Bool.not_eq_false] at drives
      have asked : s.suc.enableAsked = true := Eq.trans p.asked drives
      have path : s.arb.path = .discharge := p.drives.2 (Or.inl drives)
      simp [State.men, asked, path] at off
    · simp only [State.view, Bool.or_eq_false_iff, Bool.not_eq_false', decide_eq_false_iff_not] at dark
      by_contra other
      exact dark.2 (bleeds dark.1 (fun e => other (Or.inl e)) (fun e => other (Or.inr e)))

/-! ## What an exchange does to the view -/

/-- The motor starts on the path it has been given. -/
theorem Agrees.starts {v : PathView} (h : Agrees .suctionGiven v) (run : v.run = true) :
    Agrees .settled { v with suc := .starting, asked := true, meas := false } := by
  rw [agrees_iff] at h ⊢
  grind [SuctionState.driving, ChargeState.charging, PathView.run]

/-- An idle path is given to the motor. -/
theorem Agrees.givenSuction {v : PathView} (h : Agrees .settled v) (path : v.path = .idle) (suc : v.suc = .stopped) :
    Agrees .suctionGiven { v with path := .discharge, waiting := none, pend := false, deep := false } := by
  rw [agrees_iff] at h ⊢
  grind [SuctionState.driving, ChargeState.charging, PathView.run]

/-- The motor waits behind the charger. -/
theorem Agrees.waitsSuction {v : PathView} (h : Agrees .settled v) (path : v.path = .charge) (suc : v.suc = .stopped)
    (run : v.run = true) : Agrees .settled { v with waiting := some .suction, suc := .waitPath } := by
  rw [agrees_iff] at h ⊢
  grind [SuctionState.driving, ChargeState.charging, PathView.run]

/-- The motor enters RUNNING. -/
theorem Agrees.runs {v : PathView} (h : Agrees .settled v) (suc : v.suc = .starting) :
    Agrees .settled { v with suc := .running } := by
  rw [agrees_iff] at h ⊢
  grind [SuctionState.driving, ChargeState.charging, PathView.run]

/-- A run whose request has ended, or that the bin turns away, enters STOPPING. -/
theorem Agrees.stopping {v : PathView} (h : Agrees .settled { v with pressed := true }) (lock : v.lock = false)
    (drives : v.suc.driving = true) : Agrees .settled { v with suc := .stopping } := by
  rw [agrees_iff] at h ⊢
  grind [SuctionState.driving, ChargeState.charging, PathView.run]

/-- The motor leaves its state for STOPPED or FAULT with the path still held. -/
theorem Agrees.leavesSuction {v : PathView} (h : Agrees .settled v) (drives : v.suc.driving = true) {st : SuctionState}
    (left : st = .stopped ∨ st = .fault) : Agrees .suctionLeft { v with suc := st, asked := false, lock := false } := by
  rw [agrees_iff] at h ⊢
  grind [SuctionState.driving, ChargeState.charging, PathView.run]

/-- A run that waits gives up. -/
theorem Agrees.givesUp {v : PathView} (h : Agrees .settled { v with pressed := true }) (suc : v.suc = .waitPath) :
    Agrees .settled { v with waiting := none, suc := .stopped } := by
  rw [agrees_iff] at h ⊢
  grind [SuctionState.driving, ChargeState.charging, PathView.run]

/-- FAULT is left. -/
theorem Agrees.recovers {v : PathView} (h : Agrees .settled v) (suc : v.suc = .fault) :
    Agrees .settled { v with suc := .stopped } := by
  rw [agrees_iff] at h ⊢
  grind [SuctionState.driving, ChargeState.charging, PathView.run]

/-- The run request's end is nothing to a motor that neither waits nor is steered. -/
theorem Agrees.released {v : PathView} (h : Agrees .settled { v with pressed := true })
    (rests : v.suc ≠ .waitPath ∧ v.suc ≠ .starting ∧ v.suc ≠ .running) : Agrees .settled v := by
  rw [agrees_iff] at h ⊢
  grind [SuctionState.driving, ChargeState.charging, PathView.run]

/-- A present run request may be the debounced trigger's. -/
theorem Agrees.held {v : PathView} (h : Agrees .settled v) (run : v.run = true) : Agrees .settled { v with pressed := true } := by
  rw [agrees_iff] at h ⊢
  grind [SuctionState.driving, ChargeState.charging, PathView.run]

/-- The run request's arrival ends a pending shelf entry and the deep-discharge timer. -/
theorem Agrees.arrives {v : PathView} (h : Agrees .settled { v with pressed := false }) :
    Agrees .settled { v with pend := false, deep := false } := by
  rw [agrees_iff] at h ⊢
  grind [SuctionState.driving, ChargeState.charging, PathView.run]

/-- The lock latch is set in RUNNING. -/
theorem Agrees.locks {v : PathView} (h : Agrees .settled v) (suc : v.suc = .running) :
    Agrees .settled { v with lock := true } := by
  rw [agrees_iff] at h ⊢
  grind [SuctionState.driving, ChargeState.charging, PathView.run]

/-- The lock latch is cleared where the run request stands without it. -/
theorem Agrees.unlocks {l : Late} {v : PathView} (h : Agrees l v) (rest : v.lock = true → v.pressed = true) :
    Agrees l { v with lock := false } := by
  rw [agrees_iff] at h ⊢
  grind [SuctionState.driving, ChargeState.charging, PathView.run]

/-- With the latch set the debounced trigger alone is nothing to the path. -/
theorem Agrees.latched {v : PathView} (h : Agrees .settled v) (lock : v.lock = true) (b : Bool) :
    Agrees .settled { v with pressed := b } := by
  rw [agrees_iff] at h ⊢
  grind [SuctionState.driving, ChargeState.charging, PathView.run]

/-- The motor's release hands an empty queue the path IDLE. -/
theorem Agrees.idleSuction {v : PathView} (h : Agrees .suctionLeft v) (waiting : v.waiting = none) :
    Agrees .settled { v with path := .idle } := by
  rw [agrees_iff] at h ⊢
  grind [SuctionState.driving, ChargeState.charging, PathView.run]

/-- The motor's release gives the path to the charger that waits. -/
theorem Agrees.handsCharger {v : PathView} (h : Agrees .suctionLeft v) (waiting : v.waiting = some .charger) :
    Agrees .chargerGiven { v with path := .charge, waiting := none } ∧ v.chg = .waitIdle := by
  rw [agrees_iff] at h ⊢
  grind [SuctionState.driving, ChargeState.charging, PathView.run]

/-- An idle path is given to the charger. -/
theorem Agrees.givenCharger {v : PathView} (h : Agrees .settled v) (path : v.path = .idle) :
    Agrees .chargerGiven { v with path := .charge, waiting := none, pend := false, deep := false } := by
  rw [agrees_iff] at h ⊢
  grind [SuctionState.driving, ChargeState.charging, PathView.run]

/-- The charger waits behind the motor. -/
theorem Agrees.waitsCharger {l : Late} {v : PathView} (h : Agrees l v) (path : v.path = .discharge)
    (given : l ≠ .suctionGiven) (dark : v.dark = true) :
    Agrees l { v with waiting := some .charger, chg := .waitIdle } := by
  rw [agrees_iff] at h ⊢
  grind [SuctionState.driving, ChargeState.charging, PathView.run]

/-- The charger takes the path it has been given. -/
theorem Agrees.takesCharge {v : PathView} (h : Agrees .chargerGiven v) (dark : v.dark = true) {st : ChargeState}
    (charging : st.charging = true) : Agrees .settled { v with chg := st } := by
  rw [agrees_iff] at h ⊢
  grind [SuctionState.driving, ChargeState.charging, PathView.run]

/-- The charger refuses the path it has been given. -/
theorem Agrees.pauses {v : PathView} (h : Agrees .chargerGiven v) :
    Agrees .settled { v with chg := .paused, dark := true, path := .idle } := by
  rw [agrees_iff] at h ⊢
  grind [SuctionState.driving, ChargeState.charging, PathView.run]

/-- One charging state follows another. -/
theorem Agrees.recharges {l : Late} {v : PathView} (h : Agrees l v) (was : v.chg.charging = true) {st : ChargeState}
    (charging : st.charging = true) (dark : v.dark = false → st = .topoff) : Agrees l { v with chg := st } := by
  rw [agrees_iff] at h ⊢
  grind [SuctionState.driving, ChargeState.charging, PathView.run]

/-- The charger leaves its state with the path still held. -/
theorem Agrees.leavesCharger {v : PathView} (h : Agrees .settled v) (path : v.path = .charge) {st : ChargeState}
    (idle : st.charging = false) (wait : st ≠ .waitIdle) {d : Bool} (dark : d = true ∨ st = .balance) :
    Agrees .chargerLeft { v with chg := st, dark := d } := by
  rw [agrees_iff] at h ⊢
  grind [SuctionState.driving, ChargeState.charging, PathView.run]

/-- The charger changes its state without the path. -/
theorem Agrees.rests {l : Late} {v : PathView} (h : Agrees l v) (path : v.path ≠ .charge) (was : v.chg ≠ .waitIdle)
    {st : ChargeState} (idle : st.charging = false) (wait : st ≠ .waitIdle) {d : Bool}
    (dark : d = true ∨ st = .balance) : Agrees l { v with chg := st, dark := d } := by
  rw [agrees_iff] at h ⊢
  grind [SuctionState.driving, ChargeState.charging, PathView.run]

/-- The dock is left while the charger waits. -/
theorem Agrees.withdraws {l : Late} {v : PathView} (h : Agrees l v) (was : v.chg = .waitIdle) (given : l ≠ .chargerGiven) :
    Agrees l { v with chg := .absent, dark := true, waiting := none } := by
  rw [agrees_iff] at h ⊢
  grind [SuctionState.driving, ChargeState.charging, PathView.run]

/-- The charger's release hands an empty queue the path IDLE. -/
theorem Agrees.idleCharger {v : PathView} (h : Agrees .chargerLeft v) (waiting : v.waiting = none) :
    Agrees .settled { v with path := .idle } := by
  rw [agrees_iff] at h ⊢
  grind [SuctionState.driving, ChargeState.charging, PathView.run]

/-- The charger's release gives the path to the run that waits. -/
theorem Agrees.handsSuction {v : PathView} (h : Agrees .chargerLeft v) (waiting : v.waiting = some .suction) :
    Agrees .suctionGiven { v with path := .discharge, waiting := none } ∧ v.suc = .waitPath ∧ v.run = true := by
  rw [agrees_iff] at h ⊢
  grind [SuctionState.driving, ChargeState.charging, PathView.run]

/-- A measurement ends. -/
theorem Agrees.measured {l : Late} {v : PathView} (h : Agrees l v) : Agrees l { v with meas := false } := by
  rw [agrees_iff] at h ⊢
  grind [SuctionState.driving, ChargeState.charging, PathView.run]

/-- A measurement is seen while the motor does not drive. -/
theorem Agrees.measures {l : Late} {v : PathView} (h : Agrees l v) (rests : v.suc.driving = false) (b : Bool) :
    Agrees l { v with meas := b } := by
  rw [agrees_iff] at h ⊢
  grind [SuctionState.driving, ChargeState.charging, PathView.run]

/-- The bleeds go off, or light in TOPOFF and BALANCE. -/
theorem Agrees.lights {l : Late} {v : PathView} (h : Agrees l v) {d : Bool}
    (dark : d = true ∨ v.chg = .topoff ∨ v.chg = .balance) : Agrees l { v with dark := d } := by
  rw [agrees_iff] at h ⊢
  grind [SuctionState.driving, ChargeState.charging, PathView.run]

/-- The shelf entry and the deep-discharge timer need an idle path and no run request. -/
theorem Agrees.marks {v : PathView} (h : Agrees .settled v) {p d : Bool} (pend : p = true → v.path = .idle ∧ v.run = false)
    (deep : d = true → v.path = .idle ∧ v.run = false) : Agrees .settled { v with pend := p, deep := d } := by
  rw [agrees_iff] at h ⊢
  grind [SuctionState.driving, ChargeState.charging, PathView.run]

/-- A pending shelf entry is cancelled. -/
theorem Agrees.cancels {l : Late} {v : PathView} (h : Agrees l v) : Agrees l { v with pend := false } := by
  rw [agrees_iff] at h ⊢
  grind [SuctionState.driving, ChargeState.charging, PathView.run]

/-- A shelf entry is carried out. -/
theorem Agrees.shelved {v : PathView} (h : Agrees .settled v) (pend : v.pend = true) :
    Agrees .settled { v with lock := false, asked := false, chg := .absent, pend := false, deep := false, dark := true } := by
  rw [agrees_iff] at h ⊢
  grind [SuctionState.driving, ChargeState.charging, PathView.run]

end Sys2Proof.Machine
end

section
/-! PROOFS. Each exchange over the power path, as it acts on the view: a settled path stays settled. -/

namespace Sys2Proof.Machine

/-! ## What leaves the view alone -/

/-- The view reads the path, the waiting request, five marks of the regulator, the charge state and its bleeds, the entry, the deep
timer and the measurement. -/
theorem view_congr {w : Watch} {s t : State} (path : t.arb.path = s.arb.path) (waiting : t.arb.waiting = s.arb.waiting)
    (suc : t.suc.state = s.suc.state) (asked : t.suc.enableAsked = s.suc.enableAsked)
    (pressed : t.suc.pressed = s.suc.pressed) (lock : t.suc.lock = s.suc.lock) (chg : t.chg.state = s.chg.state)
    (bleeds : t.chg.bleeds = s.chg.bleeds) (pwr : t.pwr = s.pwr) (meas : t.bin.meas = s.bin.meas) :
    t.view w = s.view w := by
  unfold State.view
  rw [path, waiting, suc, asked, pressed, lock, chg, bleeds, pwr, meas]

theorem recompute_view (w : Watch) (s : State) : (recompute s).view w = s.view w :=
  view_congr (by simp [State.formGrants]) (by simp [State.formGrants]) (by simp) (by simp) (by simp) (by simp) (by simp)
    (by simp) (by simp) (by simp)

theorem putOrder_view (w : Watch) (current ceil : Nat) (s : State) : (putOrder current ceil s).view w = s.view w := by
  rw [putOrder_eq]; rfl

theorem reformOrder_view (w : Watch) (s : State) : (reformOrder s).view w = s.view w := putOrder_view w _ _ s

theorem raiseIfFull_view (w : Watch) (b : Bool) (s : State) : (raiseIfFull b s).view w = s.view w := by
  unfold raiseIfFull; split <;> rfl

theorem leaveRunning_view (w : Watch) (s : State) : (leaveRunning s).view w = s.view w := by
  unfold leaveRunning; split <;> rfl

theorem headAbsent_view (w : Watch) (s : State) : (headAbsent s).view w = s.view w := by
  unfold headAbsent
  split
  · exact recompute_view w _
  · rfl

theorem wandPowerOff_view (w : Watch) (s : State) : (wandPowerOff s).view w = s.view w :=
  (headAbsent_view w _).trans (recompute_view w _)

/-! ## What changes a mark of the view -/

theorem cancelShelf_view (w : Watch) (s : State) : (cancelShelf s).view w = { s.view w with pend := false } := by
  rw [cancelShelf_eq]; rfl

theorem setCharge_view (w : Watch) (st : ChargeState) (s : State) :
    (setCharge st s).view w = { s.view w with chg := st } := by
  rw [setCharge_eq]; rfl

theorem completeMeasurement_view (w : Watch) (r : BinResult) (s : State) :
    (completeMeasurement r s).view w = { s.view w with meas := false } := by
  change { s.view w with meas := w.gauge && false } = _
  rw [Bool.and_false]

theorem abortMeasurement_view (w : Watch) (s : State) :
    (abortMeasurement s).view w = { s.view w with meas := false } := by
  unfold abortMeasurement
  split
  · exact completeMeasurement_view w _ s
  · rename_i lands
    simp [State.view, lands]

/-- A change of charge state with the order formed in it shows that state and the bleeds as they are set. -/
theorem reformed_view (w : Watch) (st : ChargeState) (c : Charger) (s : State) (state : c.state = st) :
    (reformOrder { setCharge st s with chg := c }).view w
      = { s.view w with chg := st, dark := !w.bleeds || decide (c.bleeds = Bleeds.off) } := by
  rw [reformOrder_view, setCharge_eq, ← state]
  rfl

theorem pauseCharge_view (w : Watch) (reason : PauseReason) (s : State) :
    (pauseCharge reason s).view w = { s.view w with chg := .paused, dark := true } := by
  have dark : true = (!w.bleeds || decide (Bleeds.off = Bleeds.off)) := by simp
  rw [dark]
  exact reformed_view w .paused _ s (by simp)

theorem beginPrecharge_view (w : Watch) (s : State) :
    (beginPrecharge s).view w = { s.view w with chg := .precharge } := by
  refine (reformed_view w .precharge _ s (by simp)).trans ?_
  simp [State.view]

theorem beginBulk_view (w : Watch) (s : State) : (beginBulk s).view w = { s.view w with chg := .bulk } := by
  refine (reformed_view w .bulk _ s (by simp)).trans ?_
  simp [State.view]

/-! ## Releases and requests -/

/-- Entry selection on the path just given: PAUSED with the path IDLE again, or a charging state. -/
theorem entrySelection_settled {w : Watch} {s : State} (h : Agrees .chargerGiven (s.view w))
    (dark : (s.view w).dark = true) : Settled w (entrySelection s) := by
  unfold Settled
  rcases entrySelection_cases s with ⟨reason, e⟩ | e | e <;> rw [e]
  · have path : (pauseCharge reason s).arb.path = .charge := by
      have charge : s.arb.path = .charge := h.charges.2 (Or.inr (Or.inr rfl))
      simpa [pauseCharge] using charge
    have waiting : (pauseCharge reason s).arb.waiting = none := by
      have none_ : s.arb.waiting = none := (h.chargerGiven rfl).1
      simpa [pauseCharge] using none_
    rcases arbRelease_cases .charger (pauseCharge reason s) with ⟨other, -⟩ | ⟨-, -, e⟩ | ⟨_, -, some_, -⟩
    · exact absurd path other
    · rw [e]
      change Agrees .settled { (pauseCharge reason s).view w with path := .idle }
      rw [pauseCharge_view]
      exact h.pauses
    · rw [waiting] at some_; cases some_
  · rw [beginPrecharge_view]; exact h.takesCharge dark rfl
  · rw [beginBulk_view]; exact h.takesCharge dark rfl

theorem chargeTaken_settled {w : Watch} {s : State} (h : Agrees .chargerGiven (s.view w)) (waits : s.chg.state = .waitIdle) :
    Settled w (chargeTaken s) := by
  have dark : (s.view w).dark = true := by
    by_contra lit
    rcases h.bleeds (by simpa using lit) with e | e <;> exact absurd (waits.symm.trans e) (by decide)
  unfold chargeTaken
  rw [if_neg (by simp [waits])]
  exact entrySelection_settled h dark

/-- A motor that has left its state releases the path. -/
theorem releaseSuction_settled {w : Watch} {s : State} (h : Agrees .suctionLeft (s.view w)) : Settled w (releaseSuction s) := by
  have path : s.arb.path = .discharge := h.drives.2 (Or.inr (Or.inl rfl))
  rcases releaseSuction_cases s with ⟨other, -⟩ | ⟨-, waiting, e⟩ | ⟨-, waiting, -⟩ | ⟨-, waiting, e⟩
  · exact absurd path other
  · rw [e]; exact h.idleSuction waiting
  · exact absurd (path.symm.trans (h.behindCharge waiting)) (by decide)
  · rw [e]
    obtain ⟨given, waits⟩ := h.handsCharger waiting
    exact chargeTaken_settled (s := { s with arb := { s.arb with path := .charge, waiting := none } }) given waits

/-- A motor that does not hold the path releases nothing. -/
theorem releaseSuction_idle {s : State} (h : s.arb.path ≠ .discharge) : releaseSuction s = s := by
  rcases releaseSuction_cases s with ⟨-, e⟩ | ⟨path, -⟩ | ⟨path, -⟩ | ⟨path, -⟩
  · exact e
  · exact absurd path h
  · exact absurd path h
  · exact absurd path h

/-- The motor starts on the path just given; MEN goes on and a measurement in flight is aborted. -/
theorem enterStarting_settled {w : Watch} {s : State} (h : Agrees .suctionGiven (s.view w)) (run : s.runRequest = true) :
    Settled w (enterStarting s) := by
  have path : s.arb.path = .discharge := h.drives.2 (Or.inr (Or.inr rfl))
  have drives : ({ s with suc := s.suc.toStarting s.now } : State).men = true := by
    simp [State.men, Suction.toStarting, path]
  unfold Settled enterStarting
  dsimp only
  rw [if_pos drives, recompute_view, abortMeasurement_view]
  exact h.starts run

theorem suctionTaken_settled {w : Watch} {s : State} (h : Agrees .suctionGiven (s.view w)) (waits : s.suc.state = .waitPath)
    (run : s.runRequest = true) : Settled w (suctionTaken s) := by
  unfold suctionTaken
  simp only [waits]
  exact enterStarting_settled h run

/-- A charger that has left its state releases the path. -/
theorem releaseCharge_settled {w : Watch} {s : State} (h : Agrees .chargerLeft (s.view w)) : Settled w (releaseCharge s) := by
  have path : s.arb.path = .charge := h.charges.2 (Or.inr (Or.inl rfl))
  rcases releaseCharge_cases s with ⟨other, -⟩ | ⟨-, waiting, e⟩ | ⟨-, waiting, -⟩ | ⟨-, waiting, e⟩
  · exact absurd path other
  · rw [e]; exact h.idleCharger waiting
  · exact absurd (path.symm.trans (h.behindRun waiting)) (by decide)
  · rw [e]
    obtain ⟨given, waits, run⟩ := h.handsSuction waiting
    exact suctionTaken_settled (s := { s with arb := { s.arb with path := .discharge, waiting := none } }) given waits run

theorem releaseCharge_idle {s : State} (h : s.arb.path ≠ .charge) : releaseCharge s = s := by
  rcases releaseCharge_cases s with ⟨-, e⟩ | ⟨path, -⟩ | ⟨path, -⟩ | ⟨path, -⟩
  · exact e
  · exact absurd path h
  · exact absurd path h
  · exact absurd path h

/-! ## The charge states

While a motor fault of the same scan still holds the path, the charger works on: the exchange stands as it is (01 R19). -/

/-- Nothing is under way, or a motor fault has left its state and holds the path. -/
def Late.free (l : Late) : Prop := l = .settled ∨ l = .suctionLeft

/-- A charger that changes its state and then releases the path. -/
theorem leavesAndReleases {w : Watch} {l : Late} (free : l.free) {s t : State} {st : ChargeState} {d : Bool}
    (h : Agrees l (s.view w)) (was : s.chg.state ≠ .waitIdle) (idle : st.charging = false) (wait : st ≠ .waitIdle)
    (dark : d = true ∨ st = .balance) (view : t.view w = { s.view w with chg := st, dark := d }) :
    Agrees l ((releaseCharge t).view w) := by
  have same : t.arb.path = s.arb.path := congrArg PathView.path view
  by_cases path : s.arb.path = .charge
  · rcases free with rfl | rfl
    · refine releaseCharge_settled (s := t) ?_
      rw [view]
      exact h.leavesCharger path idle wait dark
    · exact absurd (path.symm.trans (h.drives.2 (Or.inr (Or.inl rfl)))) (by decide)
  · rw [releaseCharge_idle (same ▸ path), view]
    exact h.rests path was idle wait dark

theorem enterPaused_agrees {w : Watch} {l : Late} (free : l.free) (reason : PauseReason) {s : State} (h : Agrees l (s.view w))
    (was : s.chg.state ≠ .waitIdle) : Agrees l ((enterPaused reason s).view w) :=
  leavesAndReleases free h was rfl (by decide) (Or.inl rfl) (pauseCharge_view w reason s)

theorem enterBalance_agrees {w : Watch} {l : Late} (free : l.free) {s : State} (h : Agrees l (s.view w))
    (was : s.chg.state ≠ .waitIdle) : Agrees l ((enterBalance s).view w) :=
  leavesAndReleases (st := .balance) free h was rfl (by decide) (Or.inr rfl) (reformed_view w .balance _ s (by simp))

theorem enterDone_agrees {w : Watch} {l : Late} (free : l.free) {s : State} (h : Agrees l (s.view w))
    (was : s.chg.state ≠ .waitIdle) : Agrees l ((enterDone s).view w) := by
  refine leavesAndReleases (st := .done) free h was rfl (by decide) (Or.inl rfl) ?_
  rw [reformOrder_view, setCharge_eq]
  simp [State.view]

theorem enterChargeFault_agrees {w : Watch} {l : Late} (free : l.free) (cause : ChargeCause) {s : State}
    (h : Agrees l (s.view w)) (was : s.chg.state ≠ .waitIdle) : Agrees l ((enterChargeFault cause s).view w) := by
  refine leavesAndReleases (st := .fault) free h was rfl (by decide) (Or.inl rfl) ?_
  refine (reformOrder_view w _).trans ?_
  rw [setCharge_eq]
  simp [State.view]

/-- The charger requests the path from a state that neither charges nor waits. -/
theorem requestCharge_agrees {w : Watch} {l : Late} (free : l.free) {s : State} (h : Agrees l (s.view w))
    (idle : s.chg.state.charging = false) (dark : (s.view w).dark = true) : Agrees l ((requestCharge s).view w) := by
  rcases requestCharge_cases s with ⟨path, e⟩ | ⟨path, -⟩ | ⟨path, e⟩
  · rcases free with rfl | rfl
    · rw [e]
      refine entrySelection_settled ?_ ?_
      · change Agrees .chargerGiven { (cancelShelf { s with arb := _ }).view w with deep := false }
        rw [cancelShelf_view]
        exact h.givenCharger path
      · change ((cancelShelf { s with arb := _ }).view w).dark = true
        rw [cancelShelf_view]
        exact dark
    · exact absurd (path.symm.trans (h.drives.2 (Or.inr (Or.inl rfl)))) (by decide)
  · rcases h.charges.1 path with charging | left | given
    · exact absurd (idle.symm.trans charging) (by decide)
    · rcases free with rfl | rfl <;> cases left
    · rcases free with rfl | rfl <;> cases given
  · rw [e, reformOrder_view, setCharge_view]
    exact h.waitsCharger path (by rcases free with rfl | rfl <;> exact nofun) dark

/-- Outside TOPOFF and BALANCE the bleeds are off. -/
theorem Agrees.dark {l : Late} {v : PathView} (h : Agrees l v) (other : v.chg ≠ .topoff ∧ v.chg ≠ .balance) : v.dark = true := by
  by_contra lit
  rcases h.bleeds (by simpa using lit) with e | e
  · exact other.1 e
  · exact other.2 e

theorem enterTopoff_view (w : Watch) (s : State) : (enterTopoff s).view w = { s.view w with chg := .topoff } := by
  refine (reformed_view w .topoff _ s (by simp)).trans ?_
  simp [State.view]

/-! ## The suction states -/

theorem autoMeasure_settled {w : Watch} {s : State} (h : Settled w s) : Settled w (autoMeasure s) := by
  unfold autoMeasure
  split
  · rename_i starts
    simp only [Bool.and_eq_true, Bool.not_eq_true'] at starts
    have rests : s.suc.state.driving = false := by
      by_contra drives
      rw [Bool.not_eq_false] at drives
      have asked : s.suc.enableAsked = true := Eq.trans h.asked drives
      have path : s.arb.path = .discharge := h.drives.2 (Or.inl drives)
      simp [State.men, asked, path] at starts
    exact h.measures rests _
  · exact h

/-- The run request arrives, or stands, in STOPPED. -/
theorem arriveStopped_settled {w : Watch} {s : State} (h : Settled w s) (stopped : s.suc.state = .stopped)
    (run : s.runRequest = true) : Settled w (arriveStopped s) := by
  rcases arriveStopped_cases s with ⟨-, e⟩ | ⟨-, path, e⟩ | ⟨-, path, -⟩ | ⟨-, path, e⟩
  · rw [e]; exact h
  · rw [e]
    refine enterStarting_settled ?_ (by simpa [State.runRequest] using run)
    change Agrees .suctionGiven { (cancelShelf { s with arb := _ }).view w with deep := false }
    rw [cancelShelf_view]
    exact h.givenSuction path stopped
  · rcases h.drives.1 path with drives | late | late
    · exact absurd (drives.symm.trans (congrArg SuctionState.driving stopped)) (by decide)
    · cases late
    · cases late
  · rw [e]
    change Agrees .settled ((recompute _).view w)
    rw [recompute_view]
    exact h.waitsSuction path stopped run

theorem afterStopped_settled {w : Watch} {s : State} (h : Settled w s) (stopped : s.suc.state = .stopped) :
    Settled w (afterStopped s) := by
  unfold afterStopped
  split
  · rename_i run
    dsimp only
    split
    · exact arriveStopped_settled (autoMeasure_settled (s := { s with choices := s.choices + 1 }) h) (by simpa using stopped)
        (by simpa [State.runRequest] using run)
    · exact autoMeasure_settled (arriveStopped_settled (s := { s with choices := s.choices + 1 }) h stopped run)
  · exact autoMeasure_settled h

theorem endStopping_settled {w : Watch} {s : State} (h : Settled w s) (drives : s.suc.state.driving = true)
    (lock : s.suc.lock = false) : Settled w (endStopping s) := by
  refine afterStopped_settled ?_ (by simp [Suction.toStopped])
  unfold Settled
  rw [recompute_view]
  refine releaseSuction_settled ?_
  have left := h.leavesSuction drives (Or.inl rfl)
  change Agrees .suctionLeft { s.view w with suc := .stopped, asked := false, lock := s.suc.lock }
  rw [lock]
  exact left

theorem enterStopping_settled {w : Watch} {s : State} (h : Agrees .settled { s.view w with pressed := true })
    (drives : s.suc.state.driving = true) (lock : s.suc.lock = false) : Settled w (enterStopping s) := by
  have stops : Settled w { leaveRunning s with suc := (leaveRunning s).suc.toStopping (leaveRunning s).now } := by
    change Agrees .settled { (leaveRunning s).view w with suc := .stopping }
    rw [leaveRunning_view]
    exact h.stopping lock drives
  unfold enterStopping
  dsimp only
  split
  · exact endStopping_settled stops rfl (by simpa [Suction.toStopping] using lock)
  · unfold Settled
    rw [recompute_view]
    exact stops

theorem giveUpWaiting_settled {w : Watch} {s : State} (h : Agrees .settled { s.view w with pressed := true })
    (waits : s.suc.state = .waitPath) : Settled w (giveUpWaiting s) := by
  have waiting : s.arb.waiting = some .suction := h.suctionWaits.2 ⟨waits, nofun⟩
  have withdrawn : arbWithdraw .suction s = { s with arb := { s.arb with waiting := none } } := by
    rcases arbWithdraw_cases .suction s with ⟨-, e⟩ | ⟨other, -⟩
    · exact e
    · exact absurd waiting other
  unfold Settled giveUpWaiting
  rw [recompute_view, withdrawn]
  exact h.givesUp waits

theorem faultSuction_agrees {w : Watch} (cause : SuctionCause) {s : State} (h : Settled w s)
    (drives : s.suc.state.driving = true) : Agrees .suctionLeft ((faultSuction cause s).view w) := by
  change Agrees .suctionLeft { (leaveRunning s).view w with suc := .fault, asked := false, lock := false }
  rw [leaveRunning_view]
  exact h.leavesSuction drives (Or.inr rfl)

theorem enterFault_settled {w : Watch} (cause : SuctionCause) {s : State} (h : Settled w s)
    (drives : s.suc.state.driving = true) : Settled w (enterFault cause s) := by
  unfold enterFault
  dsimp only
  refine releaseSuction_settled ?_
  rw [recompute_view]
  split
  · exact faultSuction_agrees cause h drives
  · exact faultSuction_agrees cause h drives

/-! ## Arrival and end of the run request -/

theorem runArrives_settled {w : Watch} {s : State} (h : Agrees .settled { s.view w with pressed := false })
    (run : s.runRequest = true) : Settled w (runArrives s) := by
  have powered (hd : Head) : Settled w (recompute { stopDeepTimer (cancelShelf s) with head := hd }) := by
    unfold Settled
    rw [recompute_view]
    change Agrees .settled { (cancelShelf s).view w with deep := false }
    rw [cancelShelf_view]
    exact h.arrives
  unfold runArrives
  dsimp only
  split
  · rename_i stopped
    exact arriveStopped_settled (powered _) stopped (by simpa [State.runRequest] using run)
  · exact powered _

/-- FAULT left for STOPPED. -/
theorem recovers_settled {w : Watch} {s : State} (h : Settled w s) (fault : s.suc.state = .fault) :
    Settled w { s with suc := { s.suc with state := .stopped } } := h.recovers fault

theorem runEnds_settled {w : Watch} {s : State} (h : Agrees .settled { s.view w with pressed := true })
    (lock : s.suc.lock = false) : Settled w (runEnds s) := by
  have view : (recompute { s with head := s.head.runEnd s.now }).view w = s.view w := recompute_view w _
  have lock' : (recompute { s with head := s.head.runEnd s.now }).suc.lock = false := by simpa using lock
  rw [← view] at h
  unfold runEnds
  dsimp only
  generalize recompute { s with head := s.head.runEnd s.now } = t at h lock'
  have rests (st : SuctionState) (state : t.suc.state = st) (rest : st ≠ .waitPath ∧ st ≠ .starting ∧ st ≠ .running) :
      Settled w t := h.released (by change t.suc.state ≠ _ ∧ t.suc.state ≠ _ ∧ t.suc.state ≠ _; rw [state]; exact rest)
  split
  · rename_i state; exact giveUpWaiting_settled h state
  · rename_i state; exact enterStopping_settled h (by rw [state]; rfl) lock'
  · rename_i state; exact enterStopping_settled h (by rw [state]; rfl) lock'
  · rename_i state
    have still := rests _ state (by decide)
    split
    · unfold Settled
      rw [recompute_view]
      exact recovers_settled still state
    · exact still
  · rename_i waits starts runs _
    exact rests _ rfl ⟨waits, starts, runs⟩

/-- The lock latch is cleared; where it alone held the run request, the run ends. -/
theorem clearLock_agrees {w : Watch} {l : Late} (free : l.free) {s : State} (h : Agrees l (s.view w)) :
    Agrees l ((clearLock s).view w) := by
  unfold clearLock runChanged
  cases run : s.runRequest with
  | false =>
    have clear : s.suc.pressed = false ∧ s.suc.lock = false := by simpa [State.runRequest] using run
    have off : ({ s with suc := { s.suc with lock := false } } : State).runRequest = false := by
      simp [State.runRequest, clear.1]
    rw [off]
    exact h.unlocks (fun locked => absurd (clear.2.symm.trans locked) (by decide))
  | true =>
    cases pressed : s.suc.pressed with
    | true =>
      have on : ({ s with suc := { s.suc with lock := false } } : State).runRequest = true := by
        simp [State.runRequest, pressed]
      rw [on]
      exact h.unlocks (fun _ => pressed)
    | false =>
      have off : ({ s with suc := { s.suc with lock := false } } : State).runRequest = false := by
        simp [State.runRequest, pressed]
      have locked : s.suc.lock = true := by simpa [State.runRequest, pressed] using run
      rw [off]
      rcases free with rfl | rfl
      · exact runEnds_settled (s := { s with suc := { s.suc with lock := false } })
          ((h.held run).unlocks (fun _ => rfl)) rfl
      · have runs : s.suc.state = .running := h.locked locked
        rcases h.suctionLeft rfl with e | e <;> exact absurd (runs.symm.trans e) (by decide)

theorem binDetached_settled {w : Watch} {s : State} (h : Settled w s) : Settled w (binDetached s) := by
  have held (state : s.suc.state = .waitPath ∨ s.suc.state = .starting ∨ s.suc.state = .running) :
      Agrees .settled { s.view w with pressed := true } := h.held (h.requested state)
  unfold binDetached
  split
  · rename_i state; exact giveUpWaiting_settled (held (Or.inl state)) state
  · rename_i state
    have lock : s.suc.lock = false := by
      by_contra locked
      rw [Bool.not_eq_false] at locked
      exact absurd (state.symm.trans (h.locked locked)) (by decide)
    exact enterStopping_settled (s := raiseHandle .binOpen s) (held (Or.inr (Or.inl state)))
      (by rw [raiseHandle_suc, state]; rfl) lock
  · exact h

/-! ## The dock -/

theorem attachDock_agrees {w : Watch} {l : Late} (free : l.free) {s : State} (h : Agrees l (s.view w))
    (absent : s.chg.state = .absent) : Agrees l ((attachDock s).view w) := by
  have dark : (s.view w).dark = true := h.dark (by
    change s.chg.state ≠ _ ∧ s.chg.state ≠ _
    rw [absent]; decide)
  have path : s.arb.path ≠ .charge := fun charge => by
    rcases h.charges.1 charge with charging | late | late
    · exact absurd ((congrArg ChargeState.charging absent).symm.trans charging) (by decide)
    · rcases free with rfl | rfl <;> cases late
    · rcases free with rfl | rfl <;> cases late
  have seen : Agrees l { { s.view w with pend := false } with chg := .qualify, dark := (s.view w).dark } :=
    h.cancels.rests path (by change s.chg.state ≠ _; rw [absent]; decide) rfl (by decide) (Or.inl dark)
  refine clearLock_agrees free ?_
  rw [← cancelShelf_view] at seen
  simpa [State.view] using seen

/-- The charger stands where the path is released to the motor. -/
theorem releaseCharge_chg (s : State) : (releaseCharge s).chg = s.chg := by
  have starts (u : State) : (enterStarting u).chg = u.chg := by
    unfold enterStarting; dsimp only; split <;> simp
  have passes (u : State) : (passThrough u).chg = u.chg := by
    unfold passThrough; dsimp only; split <;> simp
  rcases releaseCharge_cases s with ⟨-, e⟩ | ⟨-, -, e⟩ | ⟨-, -, e⟩ | ⟨-, -, e⟩ <;> rw [e]
  unfold suctionTaken
  split
  · exact starts _
  · split
    · exact starts _
    · exact passes _
  · rfl

theorem detachDock_agrees {w : Watch} {l : Late} (free : l.free) {s : State} (h : Agrees l (s.view w)) :
    Agrees l ((detachDock s).view w) := by
  let left : State := reformOrder (setCharge .absent s)
  let t : State := raiseHandle .dockChange { left with chg := left.chg.cleared, acct := left.acct.closeSession }
  have state : t.chg.state = .absent := (reformOrder_state _).trans (by simp)
  have view : t.view w = { s.view w with chg := .absent, dark := true } := by
    have before : left.view w = { s.view w with chg := .absent } := (reformOrder_view w _).trans (setCharge_view w _ s)
    change { left.view w with dark := !w.bleeds || decide (Bleeds.off = Bleeds.off) } = _
    rw [before]
    simp
  change Agrees l ((arbWithdraw .charger (releaseCharge t)).view w)
  by_cases waits : s.chg.state = .waitIdle
  · have given : l ≠ .chargerGiven := by rcases free with rfl | rfl <;> exact nofun
    have waiting : s.arb.waiting = some .charger := h.chargerWaits.2 ⟨waits, given⟩
    have path : t.arb.path ≠ .charge := by
      have discharge : t.arb.path = .discharge := (congrArg PathView.path view).trans (h.behindRun waiting)
      rw [discharge]; decide
    rw [releaseCharge_idle path]
    rcases arbWithdraw_cases .charger t with ⟨-, e⟩ | ⟨other, -⟩
    · rw [e]
      change Agrees l { t.view w with waiting := none }
      rw [view]
      exact h.withdraws waits given
    · exact absurd ((congrArg PathView.waiting view).trans waiting) other
  · have released : Agrees l ((releaseCharge t).view w) :=
      leavesAndReleases free h waits rfl (by decide) (Or.inl rfl) view
    rcases arbWithdraw_cases .charger (releaseCharge t) with ⟨waiting, -⟩ | ⟨-, e⟩
    · have charge : (releaseCharge t).chg.state = .waitIdle := (released.chargerWaits.1 waiting).1
      rw [releaseCharge_chg, state] at charge
      cases charge
    · rw [e]; exact released

end Sys2Proof.Machine
end

section
/-! PROOFS. The power path over every command: a scan, the timers and edges, the requests. -/

namespace Sys2Proof.Machine

/-! ## The charge controller at a scan -/

/-- A charging state does not wait for the path. -/
theorem charging_ne_waitIdle {st : ChargeState} (h : st.charging = true) : st ≠ .waitIdle := by
  rintro rfl; cases h

theorem windowed_ne_waitIdle {st : ChargeState} (h : st.windowed = true) : st ≠ .waitIdle := by
  rintro rfl; cases h

theorem topoffScan_agrees {w : Watch} {l : Late} (free : l.free) (r : ScanRecord) {s : State} (h : Agrees l (s.view w))
    (topoff : s.chg.state = .topoff) : Agrees l ((topoffScan r s).view w) := by
  unfold topoffScan
  extract_lets t
  have view : t.view w = s.view w := by
    change (if _ then _ else _ : State).view w = _
    split
    · exact putOrder_view w _ _ s
    · rfl
  have state : t.chg.state ≠ .waitIdle := by
    have same : t.chg.state = .topoff := (congrArg PathView.chg view).trans topoff
    rw [same]; decide
  rw [← view] at h
  clear_value t
  split
  · split
    · exact enterBalance_agrees free h state
    · exact enterDone_agrees free h state
  · exact h

theorem chargeTransition_agrees {w : Watch} {l : Late} (free : l.free) (r : ScanRecord) {s : State}
    (h : Agrees l (s.view w)) : Agrees l ((chargeTransition r s).view w) := by
  have dark (st : ChargeState) (state : s.chg.state = st) (other : st ≠ .topoff ∧ st ≠ .balance) : (s.view w).dark = true :=
    h.dark (by change s.chg.state ≠ _ ∧ s.chg.state ≠ _; rw [state]; exact other)
  unfold chargeTransition
  split
  · rename_i state
    split
    · rw [beginBulk_view]
      refine h.recharges (by change s.chg.state.charging = _; rw [state]; rfl) rfl (fun lit => ?_)
      exact absurd ((dark _ state (by decide)).symm.trans lit) (by decide)
    · exact h
  · rename_i state
    split
    · rw [enterTopoff_view]
      exact h.recharges (by change s.chg.state.charging = _; rw [state]; rfl) rfl (fun _ => rfl)
    · exact h
  · rename_i state; exact topoffScan_agrees free r h state
  · rename_i state
    split
    · exact enterDone_agrees free h (by rw [state]; decide)
    · exact h
  · rename_i state
    split
    · exact requestCharge_agrees free h (by rw [state]; rfl) (dark _ state (by decide))
    · exact h
  · rename_i state
    split
    · exact requestCharge_agrees (s := { s with chg := { s.chg with pauseReason := .none } }) free h
        (by dsimp only; rw [state]; rfl) (dark _ state (by decide))
    · exact h
  · exact h

theorem chargeSteps_agrees {w : Watch} {l : Late} (free : l.free) (r : ScanRecord) {s : State} (h : Agrees l (s.view w)) :
    Agrees l ((chargeSteps r s).view w) := by
  unfold chargeSteps
  split
  · rename_i charging
    simp only [Bool.and_eq_true] at charging
    exact enterChargeFault_agrees free _ h (charging_ne_waitIdle charging.1)
  split
  · rename_i windowed
    simp only [Bool.and_eq_true] at windowed
    exact enterPaused_agrees free _ h (windowed_ne_waitIdle windowed.1)
  split
  · rename_i windowed
    simp only [Bool.and_eq_true] at windowed
    exact enterPaused_agrees free _ h (windowed_ne_waitIdle windowed.1)
  split
  · rename_i charging
    have counted : Agrees l
        (({ s with chg := { s.chg with excess := excessAfter s.chg.orderCur r.i s.chg.excess } } : State).view w) := h
    dsimp only
    split
    · exact chargeTransition_agrees free r counted
    · exact enterChargeFault_agrees free _ counted (charging_ne_waitIdle charging)
  · exact chargeTransition_agrees free r h

theorem bleedScan_agrees {w : Watch} {l : Late} (r : ScanRecord) {s : State} (h : Agrees l (s.view w)) :
    Agrees l ((bleedScan r s).view w) := by
  unfold bleedScan
  split
  · rename_i state; exact h.lights (Or.inr (Or.inl state))
  · rename_i state; exact h.lights (Or.inr (Or.inr state))
  · exact h

theorem storeLatest_view (w : Watch) (r : ScanRecord) (s : State) : (storeLatest r s).view w = s.view w := by
  unfold storeLatest
  extract_lets cold c t
  split
  · rfl
  · exact reformOrder_view w t

theorem chargeJudge_agrees {w : Watch} {l : Late} (free : l.free) (r : ScanRecord) {s : State} (h : Agrees l (s.view w)) :
    Agrees l ((chargeJudge r s).view w) := by
  unfold chargeJudge
  split
  · rw [← storeLatest_view w r s] at h
    exact bleedScan_agrees r (chargeSteps_agrees free r h)
  · have darkens : Agrees l (({ s with chg := { s.chg with bleeds := Bleeds.off } } : State).view w) :=
      h.lights (d := !w.bleeds || decide (Bleeds.off = Bleeds.off)) (Or.inl (by simp))
    dsimp only
    split
    · rename_i windowed
      simp only [Bool.and_eq_true] at windowed
      exact enterPaused_agrees free _ darkens (windowed_ne_waitIdle windowed.1)
    · exact darkens

theorem chargeScan_agrees {w : Watch} {l : Late} (free : l.free) (r : ScanRecord) {s : State} (h : Agrees l (s.view w)) :
    Agrees l ((chargeScan r s).view w) := by
  unfold chargeScan
  split
  · rename_i absent
    extract_lets n c t
    have same : Agrees l (t.view w) := h
    split
    · exact attachDock_agrees free same absent
    · exact chargeJudge_agrees free r same
  · extract_lets n c t
    have same : Agrees l (t.view w) := h
    split
    · exact detachDock_agrees free same
    · exact chargeJudge_agrees free r same

/-! ## The motor at a scan -/

/-- The motor's own work leaves the path settled, or faults and holds it: then it has left another state for FAULT. -/
def MotorLeaves (w : Watch) (before : SuctionState) (s : State) : Prop :=
  (Settled w s ∧ (s.suc.state = .fault → before = .fault))
    ∨ (Agrees .suctionLeft (s.view w) ∧ s.suc.state = .fault ∧ before ≠ .fault)

theorem faultSuction_leaves {w : Watch} (cause : SuctionCause) {s : State} (h : Settled w s)
    (drives : s.suc.state.driving = true) : MotorLeaves w s.suc.state (faultSuction cause s) := by
  refine Or.inr ⟨faultSuction_agrees cause h drives, rfl, ?_⟩
  intro fault
  rw [fault] at drives
  cases drives

/-- A change of the regulator that keeps its five marks is not seen. -/
theorem suc_view (w : Watch) (s : State) {u : Suction} (state : u.state = s.suc.state)
    (asked : u.enableAsked = s.suc.enableAsked) (pressed : u.pressed = s.suc.pressed) (lock : u.lock = s.suc.lock) :
    ({ s with suc := u } : State).view w = s.view w :=
  view_congr rfl rfl state asked pressed lock rfl rfl rfl rfl

theorem steer_view (w : Watch) (r : ScanRecord) (s : State) :
    ({ s with suc := s.suc.steer s.settings s.arb.gs r } : State).view w = s.view w := by
  refine suc_view w s (steer_state _ _ _ _) ?_ ?_ ?_ <;>
    (unfold Suction.steer; dsimp only; split <;> rfl)

theorem countClog_view (w : Watch) (t : Settings) (s : State) :
    ({ s with suc := (s.suc.countClog t).1 } : State).view w = s.view w := by
  obtain ⟨_, _, _, _, e⟩ := countClog_frame t s.suc
  rw [e]; rfl

theorem checkMotor_view (w : Watch) (r : ScanRecord) (s : State) :
    ({ s with suc := (s.suc.checkMotor r).1 } : State).view w = s.view w := by
  rw [checkMotor_frame]; rfl

theorem MotorLeaves.stays {w : Watch} {s : State} (h : Settled w s) : MotorLeaves w s.suc.state s := Or.inl ⟨h, id⟩

theorem driving_of_steered {st : SuctionState} (h : st.steered = true) : st.driving = true := by
  cases st <;> first | rfl | cases h

theorem steerScan_leaves {w : Watch} (r : ScanRecord) {s : State} (h : Settled w s) (steered : s.suc.state.steered = true) :
    MotorLeaves w s.suc.state (steerScan r s) := by
  let t : State := { s with suc := s.suc.steer s.settings s.arb.gs r }
  let u : State := { t with suc := (t.suc.countClog t.settings).1 }
  have steers : Settled w t := by
    unfold Settled
    rw [steer_view]
    exact h
  have counts : Settled w u := by
    unfold Settled
    rw [countClog_view]
    exact steers
  have state : t.suc.state = s.suc.state := steer_state _ _ _ _
  have state' : u.suc.state = s.suc.state := by
    obtain ⟨_, _, _, _, e⟩ := countClog_frame t.settings t.suc
    exact (congrArg Suction.state e).trans state
  rw [← state']
  rw [← state'] at steered
  unfold steerScan
  dsimp only
  split
  · split
    · split
      · exact faultSuction_leaves (s := raiseHandle .clog u) .clog counts (driving_of_steered steered)
      · exact MotorLeaves.stays (s := raiseHandle .clog u) counts
    · exact MotorLeaves.stays counts
  · rw [state', ← state]
    exact MotorLeaves.stays steers

theorem suctionScan_leaves {w : Watch} (r : ScanRecord) {s : State} (h : Settled w s) :
    MotorLeaves w s.suc.state (suctionScan r s) := by
  have temp : Settled w (if r.isValid then { s with suc := { s.suc with lastTemp := some r.motorTemp } } else s)
      ∧ (if r.isValid then { s with suc := { s.suc with lastTemp := some r.motorTemp } } else s : State).suc.state
        = s.suc.state := by
    split
    · exact ⟨h, rfl⟩
    · exact ⟨h, rfl⟩
  rw [← temp.2]
  replace temp := temp.1
  unfold suctionScan
  generalize (if r.isValid then { s with suc := { s.suc with lastTemp := some r.motorTemp } } else s) = s at temp
  have checked : Settled w { s with suc := (s.suc.checkMotor r).1 } := by
    unfold Settled
    rw [checkMotor_view]
    exact temp
  have same : (s.suc.checkMotor r).1.state = s.suc.state := checkMotor_state r s.suc
  have steered (state : s.suc.state.steered = true) :
      MotorLeaves w s.suc.state
        (if s.suc.enableAsked && r.isValid then
          if (s.suc.checkMotor r).2 = .none then steerScan r { s with suc := (s.suc.checkMotor r).1 }
          else faultSuction (s.suc.checkMotor r).2 { s with suc := (s.suc.checkMotor r).1 }
        else steerScan r s) := by
    split
    · rw [← same]
      split
      · exact steerScan_leaves r checked (by rw [← same] at state; exact state)
      · exact faultSuction_leaves _ checked (driving_of_steered (by rw [← same] at state; exact state))
    · exact steerScan_leaves r temp state
  dsimp only
  split
  · rename_i fault
    split
    · exact Or.inl ⟨recovers_settled temp fault, fun e => by cases e⟩
    · exact MotorLeaves.stays temp
  · rename_i state; exact steered (by rw [state]; rfl)
  · rename_i state; exact steered (by rw [state]; rfl)
  · rename_i state
    split
    · rw [← same]
      rw [← same] at state
      split
      · exact MotorLeaves.stays checked
      · exact faultSuction_leaves _ checked (by dsimp only; rw [state]; rfl)
    · exact MotorLeaves.stays temp
  · exact MotorLeaves.stays temp

/-! ## The whole scan -/

theorem allowanceScan_view (w : Watch) (r : ScanRecord) (s : State) :
    (allowanceScan r s).view w = s.view w ∧ (allowanceScan r s).suc = s.suc := by
  unfold allowanceScan
  split
  · exact ⟨rfl, rfl⟩
  · split
    · exact ⟨rfl, rfl⟩
    · exact ⟨rfl, rfl⟩

theorem scanHandOffs_view (w : Watch) (r : ScanRecord) (before s : State) :
    (scanHandOffs r before s).view w = s.view w := by
  have ended : (handOffHead before s).view w = s.view w := by
    rcases handOffHead_cases before s with e | e <;> rw [e]
    rfl
  have granted (t : State) : (handOffGrants r before t).view w = t.view w := by
    unfold handOffGrants
    split
    · exact recompute_view w t
    · rfl
  have overloads (t : State) : (handOffOverload before t).view w = t.view w := by
    unfold handOffOverload
    split
    · exact wandPowerOff_view w _
    · rfl
  rw [scanHandOffs_eq, overloads, granted, ended]

/-- The deep-discharge timer runs on an idle path without a run request alone (10 R179). -/
theorem judgeDeep_settled {w : Watch} (r : ScanRecord) {s : State} (h : Settled w s) : Settled w (judgeDeep r s) := by
  unfold judgeDeep
  split
  · refine h.marks (p := (s.view w).pend) h.entry (fun on => ?_)
    split at on
    · rename_i deep
      simp only [State.deepCondition, Bool.and_eq_true, beq_iff_eq, Bool.not_eq_true'] at deep
      exact ⟨deep.1.2, deep.2⟩
    · cases on
  · exact h

theorem receiveScan_settled {w : Watch} (r : ScanRecord) {s : State} (h : Settled w s) : Settled w (receiveScan r s) := by
  have judged : Settled w ((s.judged r).weighed r) := judgeDeep_settled r h
  have state : ((s.judged r).weighed r).suc.state = s.suc.state := by
    simp only [State.weighed, State.judged, judgeDeep]
    split <;> rfl
  obtain ⟨view, suc⟩ := allowanceScan_view w r (suctionScan r ((s.judged r).weighed r))
  have handed : (handedOff r s).view w = (suctionScan r ((s.judged r).weighed r)).view w :=
    (scanHandOffs_view w r s _).trans view
  rw [receiveScan_eq, suc]
  rcases suctionScan_leaves r judged with ⟨settled, same⟩ | ⟨left, fault, live⟩
  · rw [if_neg]
    · exact chargeScan_agrees (Or.inl rfl) r (by rw [handed]; exact settled)
    · rw [state] at same
      simp only [Bool.and_eq_true, beq_iff_eq, bne_iff_ne, ne_eq, not_and, not_not]
      exact same
  · rw [if_pos]
    · exact releaseSuction_settled (chargeScan_agrees (Or.inr rfl) r (by rw [handed]; exact left))
    · rw [state] at live
      simpa [fault] using live

end Sys2Proof.Machine
end

section
/-! PROOFS. The power path over the requests and the commands. -/

namespace Sys2Proof.Machine

/-! ## The settings and the pool -/

theorem takeBin_view (w : Watch) (p : Bin × Bool) (s : State) (meas : p.1.meas = s.bin.meas) :
    (takeBin p s).view w = s.view w := by
  have taken : (raiseIfFull p.2 { s with bin := p.1 }).view w = s.view w := by
    rw [raiseIfFull_view]
    exact view_congr rfl rfl rfl rfl rfl rfl rfl rfl rfl meas
  unfold takeBin
  dsimp only
  split
  · exact taken
  · exact (recompute_view w _).trans taken

theorem reform_meas (ratio pct : Nat) (b : Bin) : (b.reform ratio pct).1.meas = b.meas := by
  unfold Bin.reform
  split
  · rfl
  · rfl

theorem rejudge_meas (pct : Nat) (b : Bin) : (b.rejudge pct).1.meas = b.meas := by
  unfold Bin.rejudge
  split
  · rfl
  · rfl

theorem applyNumeric_view (w : Watch) (id : Nat) (old : Settings) (s : State) :
    (applyNumeric id old s).view w = s.view w := by
  unfold applyNumeric
  split
  · unfold applyRInit
    split
    · rfl
    · rfl
  · split
    · rfl
    · exact takeBin_view w _ s rfl
  · exact takeBin_view w _ s (reform_meas _ _ _)
  · exact takeBin_view w _ s (rejudge_meas _ _)
  · rfl
  · exact reformOrder_view w s
  · exact reformOrder_view w s
  · rfl

theorem writeSetting_view (w : Watch) (id : Nat) (value : List Byte) (s : State) :
    (writeSetting id value s).st.view w = s.view w := by
  have doubled (v : Int) : (writeDouble v s).st.view w = s.view w := by
    unfold writeDouble
    split
    · rfl
    split
    · rfl
    dsimp only [settingReply]
    split
    · rfl
    · exact (takeBin_view w _ _ rfl).trans rfl
  have numeric (lo hi v : Int) : (writeNumeric id lo hi v s).st.view w = s.view w := by
    unfold writeNumeric
    dsimp only
    split
    · rfl
    · exact (applyNumeric_view w id _ _).trans rfl
  unfold writeSetting
  split
  · unfold writeDerate; dsimp only; split <;> rfl
  split
  · unfold writeHard; dsimp only; split <;> rfl
  split
  · unfold writeCarpet; dsimp only; split <;> rfl
  split
  · rename_i lo hi
    split
    · unfold writeAutozero; dsimp only; split
      · rfl
      · split
        · rfl
        · split <;> rfl
    split
    · unfold writeNoiseMode; split
      · rfl
      · split <;> rfl
    split
    · exact doubled _
    split
    · unfold writeHop; split <;> rfl
    split
    · unfold writeMask; split <;> rfl
    split
    · exact numeric _ _ _
    · rfl
  · rfl

/-- The pool's own moves leave path and waiting request. -/
theorem claims_view (w : Watch) (s : State) (a : Arbiter) (path : a.path = s.arb.path) (waiting : a.waiting = s.arb.waiting) :
    (recompute { s with arb := a }).view w = s.view w :=
  (recompute_view w _).trans (view_congr path waiting rfl rfl rfl rfl rfl rfl rfl rfl)

theorem pushSuction_path (k : ClaimKind) (label : Byte) (a : Arbiter) :
    (a.pushSuction k label).path = a.path ∧ (a.pushSuction k label).waiting = a.waiting := by
  unfold Arbiter.pushSuction; split <;> exact ⟨rfl, rfl⟩

theorem pushBrush_path (k : ClaimKind) (label : Byte) (a : Arbiter) :
    (a.pushBrush k label).path = a.path ∧ (a.pushBrush k label).waiting = a.waiting := by
  unfold Arbiter.pushBrush; split <;> exact ⟨rfl, rfl⟩

theorem popSuction_path (a : Arbiter) : a.popSuction.path = a.path ∧ a.popSuction.waiting = a.waiting := by
  unfold Arbiter.popSuction; split <;> exact ⟨rfl, rfl⟩

theorem popBrush_path (a : Arbiter) : a.popBrush.path = a.path ∧ a.popBrush.waiting = a.waiting := by
  unfold Arbiter.popBrush; split <;> exact ⟨rfl, rfl⟩

theorem replaceSuction_path (k : ClaimKind) (a : Arbiter) :
    (a.replaceSuction k).path = a.path ∧ (a.replaceSuction k).waiting = a.waiting := by
  unfold Arbiter.replaceSuction; split <;> exact ⟨rfl, rfl⟩

theorem replaceBrush_path (k : ClaimKind) (a : Arbiter) :
    (a.replaceBrush k).path = a.path ∧ (a.replaceBrush k).waiting = a.waiting := by
  unfold Arbiter.replaceBrush; split <;> exact ⟨rfl, rfl⟩

theorem serveClaimPush_view (w : Watch) (link : Link) (p : List Byte) (s : State) :
    (serveClaimPush link p s).st.view w = s.view w := by
  unfold serveClaimPush
  split
  · split
    · unfold pushBrushClaim
      split
      · rfl
      split
      · rfl
      split
      · rfl
      exact claims_view w s _ (pushBrush_path _ _ _).1 (pushBrush_path _ _ _).2
    · unfold pushSuctionClaim
      split
      · rfl
      split
      · rfl
      split
      · rfl
      exact claims_view w s _ (pushSuction_path _ _ _).1 (pushSuction_path _ _ _).2
  · rfl

theorem serveClaimPop_view (w : Watch) (link : Link) (p : List Byte) (s : State) :
    (serveClaimPop link p s).st.view w = s.view w := by
  unfold serveClaimPop
  split
  · split
    · unfold popBrushClaim
      split
      · rfl
      split
      · exact claims_view w s _ (popBrush_path _).1 (popBrush_path _).2
      · rfl
    · unfold popSuctionClaim
      split
      · rfl
      split
      · exact claims_view w s _ (popSuction_path _).1 (popSuction_path _).2
      · rfl
  · rfl

theorem serveClaimReplace_view (w : Watch) (link : Link) (p : List Byte) (s : State) :
    (serveClaimReplace link p s).st.view w = s.view w := by
  unfold serveClaimReplace
  split
  · split
    · unfold replaceBrushClaim
      split
      · rfl
      split
      · rfl
      split
      · exact claims_view w s _ (replaceBrush_path _ _).1 (replaceBrush_path _ _).2
      · rfl
    · unfold replaceSuctionClaim
      split
      · rfl
      split
      · rfl
      split
      · exact claims_view w s _ (replaceSuction_path _ _).1 (replaceSuction_path _ _).2
      · rfl
  · rfl

theorem serveClaimDrop_view (w : Watch) (link : Link) (s : State) : (serveClaimDrop link s).st.view w = s.view w := by
  unfold serveClaimDrop
  split
  · exact claims_view w s _ rfl rfl
  · exact claims_view w s _ rfl rfl

/-! ## The other requests -/

theorem serveHeadHello_view (w : Watch) (p : List Byte) (s : State) : (serveHeadHello p s).st.view w = s.view w := by
  have again (old new : HeadInfo) : (headAgain old new s).view w = s.view w := by
    unfold headAgain
    extract_lets f h t
    split
    · rfl
    · exact (recompute_view w _).trans rfl
  unfold serveHeadHello
  split
  · dsimp only
    split
    · split
      · exact (recompute_view w _).trans rfl
      · exact again _ _
    · rfl
  · rfl

theorem serveFloorReport_view (w : Watch) (p : List Byte) (s : State) : (serveFloorReport p s).st.view w = s.view w := by
  unfold serveFloorReport
  split
  · split
    · rfl
    split
    · split
      · rfl
      · exact (recompute_view w _).trans rfl
    · rfl
  · rfl

theorem serveClearNote_view (w : Watch) (link : Link) (p : List Byte) (s : State) :
    (serveClearNote link p s).st.view w = s.view w := by
  unfold serveClearNote
  split
  · split <;> rfl
  · rfl

/-- The shelf entry is asked for on an idle path without a run request alone (10 R177). -/
theorem serveShelfEnter_settled {w : Watch} {s : State} (h : Settled w s) : Settled w (serveShelfEnter s).st := by
  unfold serveShelfEnter
  split
  · exact h
  · rename_i free
    have rests : s.arb.path = .idle ∧ s.runRequest = false := by
      by_cases none_ : s.pwr.entry = .none
      · simpa [none_] using free
      · exact h.entry (decide_eq_true none_)
    exact h.marks (d := (s.view w).deep) (fun _ => rests) h.deep

/-- The latch is set in RUNNING, where the run request stands already. -/
theorem serveLockOn_settled {w : Watch} {s : State} (h : Settled w s) : Settled w (serveLockOn s).st := by
  unfold serveLockOn
  split
  · rename_i runs
    have run : s.runRequest = true := h.requested (Or.inr (Or.inr runs))
    have run' : ({ s with suc := { s.suc with lock := true } } : State).runRequest = true := by simp [State.runRequest]
    unfold runChanged
    rw [run, run']
    exact h.locks runs
  · exact h

theorem serveBinMeasure_settled {w : Watch} {s : State} (h : Settled w s) : Settled w (serveBinMeasure s).st := by
  unfold serveBinMeasure
  split
  · exact h
  split
  · exact h
  · rename_i rests
    simp only [not_or, ne_eq, not_not] at rests
    exact h.measures (by change s.suc.state.driving = false; rw [rests.1]; rfl) _

theorem serveBinCalEmpty_settled {w : Watch} {s : State} (h : Settled w s) : Settled w (serveBinCalEmpty s).st := by
  unfold serveBinCalEmpty
  split
  · exact h
  split
  · exact h
  · rename_i rests
    simp only [not_or, ne_eq, not_not] at rests
    exact h.measures (by change s.suc.state.driving = false; rw [rests.1]; rfl) _

theorem serveDockHello_settled {w : Watch} (p : List Byte) {s : State} (h : Settled w s) : Settled w (serveDockHello p s).st := by
  have accepts (c : Capability) : Settled w (acceptHello c s) := by
    unfold acceptHello
    split
    · rename_i state
      refine requestCharge_agrees (Or.inl rfl) ?_ ?_ ?_
      · rw [reformOrder_view]
        exact h
      · rw [reformOrder_state]
        dsimp only
        rw [state]; rfl
      · rw [reformOrder_view]
        exact h.dark (by change s.chg.state ≠ _ ∧ s.chg.state ≠ _; rw [state]; decide)
    · unfold Settled
      rw [reformOrder_view]
      exact h
  unfold serveDockHello
  split
  · split
    · exact h
    split
    · exact h
    · exact accepts _
  · exact h

theorem serveOrderRead_view (w : Watch) (s : State) : (serveOrderRead s).st.view w = s.view w := by
  unfold serveOrderRead
  split <;> rfl

theorem softReset_settled (w : Watch) (s : State) : Settled w (softReset s) := by
  have meas : (s.bin.softReset s.now s.settings).1.meas = none := by
    unfold Bin.softReset Bin.toDefaults
    split
    · exact reform_meas _ _ _
    · rfl
  have view : (softReset s).view w
      = ⟨.idle, none, .stopped, false, false, false, .absent, false, false, false, true⟩ := by
    unfold softReset
    dsimp only
    rw [raiseIfFull_view, recompute_view]
    simp [State.view, meas, Suction.softReset, Charger.softReset, Charger.cleared]
  unfold Settled
  rw [view]
  constructor <;> simp [SuctionState.driving, ChargeState.charging]

theorem ownerServe_settled {w : Watch} (k : ReqKind) (link : Link) (p : List Byte) {s : State} (h : Settled w s) :
    Settled w (ownerServe k link p s).st := by
  have quiet {t : State} (same : t.view w = s.view w) : Settled w t := by
    unfold Settled
    rw [same]
    exact h
  cases k with
  | ident => exact h
  | readRec => exact quiet (by change (serveReadRec p s).st.view w = _; rw [serveReadRec_st])
  | clearNote => exact quiet (serveClearNote_view w link p s)
  | writeSet =>
    refine quiet ?_
    change (serveWriteSet p s).st.view w = _
    unfold serveWriteSet
    split
    · rfl
    · exact writeSetting_view w _ _ s
  | clearSticky => exact h
  | softReset => exact softReset_settled w s
  | shelfEnter => exact serveShelfEnter_settled h
  | claimPush => exact quiet (serveClaimPush_view w link p s)
  | claimPop => exact quiet (serveClaimPop_view w link p s)
  | claimReplace => exact quiet (serveClaimReplace_view w link p s)
  | claimDrop => exact quiet (serveClaimDrop_view w link s)
  | lockOn => exact serveLockOn_settled h
  | lockOff => exact clearLock_agrees (Or.inl rfl) h
  | binMeasure => exact serveBinMeasure_settled h
  | binCalEmpty => exact serveBinCalEmpty_settled h
  | headHello => exact quiet (serveHeadHello_view w p s)
  | floorReport => exact quiet (serveFloorReport_view w p s)
  | dockHello => exact serveDockHello_settled p h
  | orderRead => exact quiet (serveOrderRead_view w s)

theorem serve_settled {w : Watch} (link : Link) (r : Request) {s : State} (h : Settled w s) : Settled w (serve link r s).st := by
  unfold serve
  split
  · exact h
  split
  · exact h
  · exact ownerServe_settled _ link r.payload h

/-! ## Events and ports -/

theorem event_settled {w : Watch} (f : State → State) {s : State} (h : Settled w (f s)) : Settled w (event f s) := h

theorem bleedEvent_settled {w : Watch} (before : Bleeds) {s : State} (h : Settled w s) : Settled w (bleedEvent before s) := by
  unfold bleedEvent
  split
  · exact h
  · exact h

/-- The delivery of the SHELF_ENTER response leaves the entry PENDING. -/
theorem shelfDelivered_settled {w : Watch} {s : State} (h : Settled w s) : Settled w (shelfDelivered s) := by
  unfold shelfDelivered
  split
  · rename_i entry
    have rests : s.arb.path = .idle ∧ s.runRequest = false := h.entry (by simp [State.view, entry])
    exact h.marks (d := (s.view w).deep) (fun _ => rests) h.deep
  · exact h

theorem handleArrive_settled {w : Watch} (r : Request) {s : State} (h : Settled w s) : Settled w (handleArrive r s) := by
  unfold handleArrive
  split
  · exact h
  · have replaced : Settled w (event replaceAnswer s) := by
      refine event_settled _ ?_
      unfold replaceAnswer
      split
      · exact shelfDelivered_settled h
      · exact h
    exact event_settled (handleServe r) (serve_settled .handle r replaced)

theorem answerReady_settled {w : Watch} {s : State} (h : Settled w s) : Settled w (answerReady s) := by
  unfold answerReady
  dsimp only
  split
  · exact h
  · refine handleArrive_settled _ ?_
    exact h

theorem shiftOut_settled {w : Watch} (n : Nat) {s : State} (h : Settled w s) : Settled w (shiftOut n s) := by
  unfold shiftOut
  dsimp only
  split
  · refine event_settled _ (shelfDelivered_settled ?_)
    exact h
  · exact h

theorem shiftIn_settled {w : Watch} (mosi : List Byte) {s : State} (h : Settled w s) : Settled w (shiftIn mosi s) := by
  unfold shiftIn
  split
  · exact h
  split
  · exact h
  split
  · exact handleArrive_settled _ h
  · exact h

theorem wakeUp_settled {w : Watch} (cause : WakeInput) {s : State} (h : Settled w s) : Settled w (wakeUp cause s) := by
  unfold Settled wakeUp
  rw [recompute_view]
  exact h

theorem setWire_view (w : Watch) (x : Wire) (p : WirePort) (s : State) : (s.setWire x p).view w = s.view w := by
  cases x <;> rfl

theorem wireServe_settled {w : Watch} (x : Wire) (r : Request) {s : State} (h : Settled w s) : Settled w (wireServe x r s) := by
  have heard : Settled w (hear x s) := by
    unfold hear
    split
    · exact h
    · exact h
  unfold Settled wireServe
  dsimp only
  rw [setWire_view]
  exact serve_settled _ r heard

theorem wireByte_settled {w : Watch} (x : Wire) (b : Byte) {s : State} (h : Settled w s) : Settled w (wireByte x s b) := by
  have ported (p : WirePort) : Settled w (s.setWire x p) := by
    unfold Settled
    rw [setWire_view]
    exact h
  unfold wireByte
  dsimp only
  split
  · exact h
  split
  · exact ported _
  split
  · exact event_settled _ (wireServe_settled x _ h)
  · exact ported _
  · exact ported _
  · exact ported _

theorem wireReceive_settled {w : Watch} (x : Wire) (bytes : List Byte) {s : State} (h : Settled w s) :
    Settled w (wireReceive x bytes s) := by
  induction bytes generalizing s with
  | nil => exact h
  | cons b rest ih => exact ih (wireByte_settled x b h)

theorem wireArrive_settled {w : Watch} (x : Wire) (r : Request) {s : State} (h : Settled w s) : Settled w (wireArrive x r s) := by
  unfold wireArrive
  dsimp only
  split
  · exact h
  split
  · unfold Settled wireDiscard
    rw [setWire_view]
    exact h
  · exact event_settled _ (wireServe_settled x r h)

theorem arrive_settled {w : Watch} (link : Link) (r : Request) {s : State} (h : Settled w s) : Settled w (arrive link r s) := by
  unfold arrive
  split
  · cases link with
    | handle =>
      dsimp only
      split
      · exact h
      · exact handleArrive_settled r h
    | wand => exact wireArrive_settled .wand r h
    | dock => exact wireArrive_settled .dock r h
  · cases link with
    | handle => exact event_settled _ (wakeUp_settled .link h)
    | wand => exact h
    | dock => exact h

/-! ## The timers and the edges -/

/-- The debounced trigger takes the line's level, and a press clears the latch (04 R66, R68). -/
theorem takeTrigger_settled {w : Watch} {s : State} (h : Settled w s) : Settled w (takeTrigger s) := by
  unfold takeTrigger
  split
  · exact h
  · rename_i changes
    let t : State := { s with suc := { s.suc with pressed := s.trigLine, lock := s.suc.lock && !s.trigLine } }
    change Settled w (runChanged s.runRequest t)
    cases line : s.trigLine with
    | true =>
      have pressed : s.suc.pressed = false := by simpa [line] using changes
      have view : t.view w = { s.view w with pressed := true, lock := false } := by simp [t, State.view, line]
      have run : t.runRequest = true := by simp [t, State.runRequest, line]
      cases lock : s.suc.lock with
      | true =>
        have before : s.runRequest = true := by simp [State.runRequest, lock]
        unfold runChanged Settled
        rw [before, run]
        dsimp only
        rw [view]
        exact (h.held before).unlocks (fun _ => rfl)
      | false =>
        have before : s.runRequest = false := by simp [State.runRequest, lock, pressed]
        have old : { t.view w with pressed := false } = s.view w := by simp [t, State.view, pressed, lock]
        unfold runChanged
        rw [before, run]
        exact runArrives_settled (by rw [old]; exact h) run
    | false =>
      have pressed : s.suc.pressed = true := by simpa [line] using changes
      have before : s.runRequest = true := by simp [State.runRequest, pressed]
      have view : t.view w = { s.view w with pressed := false } := by simp [t, State.view, line]
      cases lock : s.suc.lock with
      | true =>
        have run : t.runRequest = true := by simp [t, State.runRequest, line, lock]
        unfold runChanged Settled
        rw [before, run]
        dsimp only
        rw [view]
        exact h.latched lock false
      | false =>
        have run : t.runRequest = false := by simp [t, State.runRequest, line, lock]
        have old : { t.view w with pressed := true } = s.view w := by simp [t, State.view, pressed, line]
        unfold runChanged
        rw [before, run]
        exact runEnds_settled (by rw [old]; exact h) (by simp [t, lock])

theorem stallExpires_settled {w : Watch} {s : State} (h : Settled w s) : Settled w (stallExpires s) := by
  unfold stallExpires
  split
  · rename_i state; exact enterFault_settled .stall h (by rw [state]; rfl)
  · exact h

/-- In STOPPING the latch is clear: it is set in RUNNING alone. -/
theorem Agrees.unlocked {l : Late} {v : PathView} (h : Agrees l v) (rests : v.suc ≠ .running) : v.lock = false := by
  by_contra locked
  rw [Bool.not_eq_false] at locked
  exact rests (h.locked locked)

theorem endStopping_of_stopping {w : Watch} {s : State} (h : Settled w s) (state : s.suc.state = .stopping) :
    Settled w (endStopping s) :=
  endStopping_settled h (by rw [state]; rfl) (h.unlocked (by change s.suc.state ≠ _; rw [state]; decide))

theorem stopExpires_settled {w : Watch} {s : State} (h : Settled w s) : Settled w (stopExpires s) := by
  unfold stopExpires
  split
  · rename_i state; exact endStopping_of_stopping h state
  · exact h

theorem speedUpdate_settled {w : Watch} (speed : Nat) {s : State} (h : Settled w s) : Settled w (speedUpdate speed s) := by
  have updates : Settled w { s with suc := { s.suc with speed := speed } } := h
  unfold speedUpdate
  dsimp only
  split
  · rename_i state
    split
    · unfold Settled enterRunning
      rw [recompute_view]
      exact h.runs state
    · exact updates
  · rename_i state
    split
    · exact endStopping_of_stopping updates state
    · exact updates
  · exact updates

theorem tachPulse_settled {w : Watch} {s : State} (h : Settled w s) : Settled w (tachPulse s) := by
  unfold tachPulse
  split
  · exact h
  split
  · exact h
  · exact speedUpdate_settled (s := { s with suc := { s.suc with lastPulse := some s.now } }) _ h

theorem windowExpires_view (w : Watch) (s : State) : (windowExpires s).view w = s.view w := by
  unfold windowExpires
  dsimp only
  split
  · split <;> rfl
  · rw [recompute_view]
    split <;> rfl

/-- The bin is DETACHED: a run that waits or starts is turned away. -/
theorem latchOpens_settled {w : Watch} {s : State} (h : Settled w s) : Settled w (latchOpens s) := by
  have opens (b : Bin) (meas : b.meas = (abortMeasurement s).bin.meas) :
      Settled w (recompute { abortMeasurement s with bin := b }) := by
    unfold Settled
    have same : ({ abortMeasurement s with bin := b } : State).view w = (abortMeasurement s).view w :=
      view_congr rfl rfl rfl rfl rfl rfl rfl rfl rfl meas
    rw [recompute_view, same, abortMeasurement_view]
    exact h.measured
  unfold latchOpens
  dsimp only
  split
  · exact opens _ rfl
  · exact binDetached_settled (opens _ rfl)

theorem takeLatch_settled {w : Watch} {s : State} (h : Settled w s) : Settled w (takeLatch s) := by
  unfold takeLatch
  split
  · refine autoMeasure_settled ?_
    unfold Settled
    rw [recompute_view]
    exact h
  · exact latchOpens_settled h
  · exact h

/-- A GOOD count applied is not seen but for the measurement's end. -/
theorem completeGood_settled {w : Watch} (count : Nat) {s : State} (h : Settled w s) : Settled w (completeGood count s) := by
  let t : State := completeMeasurement .good s
  have meas : (t.bin.applyGood t.settings count).1.meas = t.bin.meas := by
    unfold Bin.applyGood
    split
    · rfl
    · split <;> rfl
  have same : ({ t with bin := (t.bin.applyGood t.settings count).1 } : State).view w = t.view w :=
    view_congr rfl rfl rfl rfl rfl rfl rfl rfl rfl meas
  have good : Settled w
      (raiseIfFull (t.bin.applyGood t.settings count).2 { t with bin := (t.bin.applyGood t.settings count).1 }) := by
    unfold Settled
    rw [raiseIfFull_view, same, completeMeasurement_view]
    exact h.measured
  unfold completeGood
  dsimp only
  split
  · exact good
  · unfold Settled
    rw [recompute_view]
    exact good

theorem tryCompleted_settled {w : Watch} (m : Measurement) (h1 h2 : Nat) {s : State} (h : Settled w s)
    (flies : s.bin.meas = some m) : Settled w (tryCompleted m h1 h2 s) := by
  let t : State := { s with bin := { s.bin with lastTry := some ⟨h1, h2⟩ } }
  have ended (r : BinResult) : Settled w (completeMeasurement r t) := by
    unfold Settled
    rw [completeMeasurement_view]
    exact h.measured
  unfold tryCompleted
  dsimp only
  split
  · exact ended .dead
  split
  · split
    · have same : ({ t with bin := { t.bin with meas := some { m with tryNo := m.tryNo + 1, step := (m.step + 1) % 4 } } }
          : State).view w = s.view w := by simp [t, State.view, flies]
      unfold Settled
      rw [same]
      exact h
    · exact ended .noisy
  · exact completeGood_settled (s := { t with bin := { t.bin with workStep := m.step } }) _ h

theorem helloExpires_settled {w : Watch} {s : State} (h : Settled w s) : Settled w (helloExpires s) := by
  unfold helloExpires
  dsimp only
  split
  · rename_i state
    exact enterChargeFault_agrees (s := { s with chg := { s.chg with helloTimer := none } }) (Or.inl rfl) _ h
      (by dsimp only; rw [state]; decide)
  · exact h

theorem prechargeExpires_settled {w : Watch} {s : State} (h : Settled w s) : Settled w (prechargeExpires s) := by
  unfold prechargeExpires
  dsimp only
  split
  · rename_i state
    exact enterChargeFault_agrees (s := { s with chg := { s.chg with preTimer := none } }) (Or.inl rfl) _ h
      (by dsimp only; rw [state]; decide)
  · exact h

theorem balanceExpires_settled {w : Watch} {s : State} (h : Settled w s) : Settled w (balanceExpires s) := by
  unfold balanceExpires
  dsimp only
  split
  · rename_i state
    exact enterDone_agrees (s := { s with chg := { s.chg with balTimer := none } }) (Or.inl rfl) h
      (by dsimp only; rw [state]; decide)
  · exact h

theorem deepExpires_settled {w : Watch} {s : State} (h : Settled w s) (runs : s.pwr.deepTimer.isSome = true) :
    Settled w (deepExpires s) :=
  h.marks (d := false) (fun _ => h.deep runs) nofun

theorem completeBudget_settled {w : Watch} (f : Figures) {s : State} (h : Settled w s) : Settled w (completeBudget f s) := by
  have raised (b : Bool) (t : State) (same : t.view w = s.view w) : Settled w (recomputeCompletion b t) := by
    have view : (recompute t).view w = s.view w := (recompute_view w t).trans same
    unfold Settled recomputeCompletion
    dsimp only
    split
    · change Agrees .settled ((recompute t).view w)
      rw [view]
      exact h
    · rw [view]
      exact h
  exact raised _ _ rfl

/-- The charge controller at shelf entry is ABSENT, its bleeds off. -/
theorem shelveCharger_view (w : Watch) (s : State) :
    (shelveCharger s).view w = { s.view w with chg := .absent, dark := true } := by
  let left : State := reformOrder { s with chg := { s.chg with state := .absent } }
  have leaves : left.view w = { s.view w with chg := .absent } := (reformOrder_view w _).trans rfl
  have raised : (shelveCharger s).view w = { left.view w with dark := !w.bleeds || decide (Bleeds.off = Bleeds.off) } := by
    unfold shelveCharger
    dsimp only
    split <;> rfl
  rw [raised, leaves]
  simp

theorem carryShelf_settled {w : Watch} (cause : ShelfCause) {s : State} (h : Settled w s) (pend : s.pwr.entry ≠ .none) :
    Settled w (carryShelf cause s) := by
  let rested : State := { s with suc := s.suc.shelve, dirt := { s.dirt.leave with count := s.dirt.count } }
  let t : State := shelveCharger (wandPowerOff rested)
  have view : t.view w = { s.view w with lock := false, asked := false, chg := .absent, dark := true } := by
    rw [shelveCharger_view, wandPowerOff_view]
    rfl
  unfold Settled carryShelf
  rw [recompute_view]
  change Agrees .settled { t.view w with pend := false, deep := false }
  rw [view]
  exact h.shelved (by simpa [State.view] using pend)

/-! ## Every command -/

theorem exec_row_settled {w : Watch} (k : ReqKind) (dt : Nat) (link : Link) (tag : Byte) (p : List Byte) {s : State}
    (h : Settled w s) : ∃ t, exec (k.row dt link tag p) s = .next t ∧ Settled w t :=
  ⟨_, exec_row k dt link tag p s, arrive_settled link _ (s := s.elapse dt) h⟩

theorem execShelfEntry_settled {w : Watch} (txn : Option (List Byte)) {s : State} (h : Settled w s) :
    ∃ t, execShelfEntry txn s = .next t ∧ Settled w t := by
  have cut : Settled w (cutTransaction txn s) := by
    unfold cutTransaction
    split
    · exact h
    · exact shiftOut_settled _ h
  unfold execShelfEntry
  extract_lets t
  split
  · rename_i cause ready
    refine ⟨_, rfl, event_settled _ (carryShelf_settled cause cut fun none_ => ?_)⟩
    unfold State.shelfReady at ready
    split at ready
    · simp [t, none_] at ready
    · cases ready
  · exact ⟨_, rfl, h⟩

theorem execWake_settled {w : Watch} (dt : Nat) (input : WakeInput) {s : State} (h : Settled w s) :
    ∃ t, execWake dt input s = .next t ∧ Settled w t := by
  have passes : Settled w (s.elapse dt) := h
  unfold execWake
  cases input with
  | trig =>
    dsimp only
    split
    · exact ⟨_, rfl, passes⟩
    · split
      · exact ⟨_, rfl, passes⟩
      · exact ⟨_, rfl, event_settled _ (wakeUp_settled (s := { s.elapse dt with trigLine := true }) .trig passes)⟩
  | dock =>
    dsimp only
    split
    · exact ⟨_, rfl, passes⟩
    · exact ⟨_, rfl, event_settled _ (wakeUp_settled .dock passes)⟩
  | link =>
    dsimp only
    split
    · exact ⟨_, rfl, passes⟩
    · exact ⟨_, rfl, event_settled _ (wakeUp_settled .link passes)⟩

/-- A scan's completion: the record, the receivers, the sampler's own work, the switches and the bleeds noted. -/
theorem execScanCompletion_settled {w : Watch} (k : ScanCodes) {s : State} (h : Settled w s) :
    ∃ t, exec (.scanCompletion k) s = .next t ∧ Settled w t := by
  cases phase : s.smp.phase with
  | running start first =>
    refine ⟨_, exec_scanCompletion k s start first phase, bleedEvent_settled _ (event_settled _ ?_)⟩
    have received : Settled w (receiveScan (scanRecord s.smp first k) ((s.reach (start + ms 2)).published first k)) :=
      receiveScan_settled _ (s := (s.reach (start + ms 2)).published first k) h
    unfold completeScan scheduleScan
    dsimp only
    split
    · exact received
    · exact received
  | stopped => exact ⟨s, exec_scanCompletion_idle k s (by simp [phase]), h⟩
  | resting due first => exact ⟨s, exec_scanCompletion_idle k s (by simp [phase]), h⟩

/-- Every command but POWER_ON keeps the path settled. -/
theorem exec_settled {w : Watch} (c : Instr) {s : State} (power : c ≠ .powerOn) (h : Settled w s) :
    ∃ t, exec c s = .next t ∧ Settled w t := by
  have reaches (d : Nat) : Settled w (s.reach d) := h
  have passes (dt : Nat) : Settled w (s.elapse dt) := h
  cases c with
  | powerOn => exact absurd rfl power
  | scanCompletion k => exact execScanCompletion_settled k h
  | softReset dt link tag p => exact exec_row_settled .softReset dt link tag p h
  | ident dt link tag p => exact exec_row_settled .ident dt link tag p h
  | readRec dt link tag p => exact exec_row_settled .readRec dt link tag p h
  | clearNote dt link tag p => exact exec_row_settled .clearNote dt link tag p h
  | writeSet dt link tag p => exact exec_row_settled .writeSet dt link tag p h
  | clearSticky dt link tag p => exact exec_row_settled .clearSticky dt link tag p h
  | shelfEnter dt link tag p => exact exec_row_settled .shelfEnter dt link tag p h
  | claimPush dt link tag p => exact exec_row_settled .claimPush dt link tag p h
  | claimPop dt link tag p => exact exec_row_settled .claimPop dt link tag p h
  | claimReplace dt link tag p => exact exec_row_settled .claimReplace dt link tag p h
  | claimDrop dt link tag p => exact exec_row_settled .claimDrop dt link tag p h
  | lockOn dt link tag p => exact exec_row_settled .lockOn dt link tag p h
  | lockOff dt link tag p => exact exec_row_settled .lockOff dt link tag p h
  | binMeasure dt link tag p => exact exec_row_settled .binMeasure dt link tag p h
  | binCalEmpty dt link tag p => exact exec_row_settled .binCalEmpty dt link tag p h
  | headHello dt link tag p => exact exec_row_settled .headHello dt link tag p h
  | floorReport dt link tag p => exact exec_row_settled .floorReport dt link tag p h
  | dockHello dt link tag p => exact exec_row_settled .dockHello dt link tag p h
  | orderRead dt link tag p => exact exec_row_settled .orderRead dt link tag p h
  | shelfEntry txn => exact execShelfEntry_settled txn h
  | wake dt input => exact execWake_settled dt input h
  | trigEdge dt =>
    change ∃ t, execTrigEdge dt s = .next t ∧ Settled w t
    unfold execTrigEdge
    dsimp only
    split
    · exact ⟨_, rfl, passes dt⟩
    · split
      · exact ⟨_, rfl, passes dt⟩
      · exact ⟨_, rfl, event_settled _ (wakeUp_settled (s := { s.elapse dt with trigLine := true }) .trig (passes dt))⟩
  | binlatchEdge dt =>
    change ∃ t, execBinlatchEdge dt s = .next t ∧ Settled w t
    unfold execBinlatchEdge
    dsimp only
    split
    · exact ⟨_, rfl, passes dt⟩
    · exact ⟨_, rfl, passes dt⟩
  | scanStart =>
    change ∃ t, execScanStart s = .next t ∧ Settled w t
    unfold execScanStart
    split
    · rename_i due _ _; exact ⟨_, rfl, reaches due⟩
    · exact ⟨_, rfl, h⟩
  | allowanceCompletion =>
    change ∃ t, execAllowanceCompletion s = .next t ∧ Settled w t
    unfold execAllowanceCompletion
    split
    · exact ⟨_, rfl, event_settled _ (completeBudget_settled _ (reaches _))⟩
    · exact ⟨_, rfl, h⟩
  | triggerDebounceCompletion =>
    change ∃ t, execTriggerDebounceCompletion s = .next t ∧ Settled w t
    unfold execTriggerDebounceCompletion
    split
    · rename_i d _
      have settles : Settled w { s.reach d with suc := { (s.reach d).suc with trigTimer := none } } := reaches d
      exact ⟨_, rfl, event_settled _ (takeTrigger_settled settles)⟩
    · exact ⟨_, rfl, h⟩
  | stallTimerExpiry =>
    change ∃ t, execStallTimerExpiry s = .next t ∧ Settled w t
    unfold execStallTimerExpiry
    split
    · exact ⟨_, rfl, event_settled _ (stallExpires_settled (reaches _))⟩
    · exact ⟨_, rfl, h⟩
  | stopTimerExpiry =>
    change ∃ t, execStopTimerExpiry s = .next t ∧ Settled w t
    unfold execStopTimerExpiry
    split
    · exact ⟨_, rfl, event_settled _ (stopExpires_settled (reaches _))⟩
    · exact ⟨_, rfl, h⟩
  | tachPulse dt =>
    change ∃ t, execTachPulse dt s = .next t ∧ Settled w t
    unfold execTachPulse
    dsimp only
    split
    · exact ⟨_, rfl, event_settled _ (tachPulse_settled (passes dt))⟩
    · exact ⟨_, rfl, passes dt⟩
  | tachTimeout =>
    change ∃ t, execTachTimeout s = .next t ∧ Settled w t
    unfold execTachTimeout
    split
    · rename_i p _ _
      have quiets : Settled w
          { s.reach (p + ms 50) with suc := { (s.reach (p + ms 50)).suc with lastPulse := none } } := reaches _
      exact ⟨_, rfl, event_settled tachQuiet (speedUpdate_settled 0 quiets)⟩
    · exact ⟨_, rfl, h⟩
  | piezoEdge dt => exact ⟨_, rfl, event_settled _ (passes dt)⟩
  | windowExpiry =>
    change ∃ t, execWindowExpiry s = .next t ∧ Settled w t
    unfold execWindowExpiry
    split
    · rename_i d _
      refine ⟨_, rfl, event_settled _ ?_⟩
      unfold Settled
      rw [windowExpires_view]
      exact reaches d.expiry
    · exact ⟨_, rfl, h⟩
  | latchDebounceCompletion =>
    change ∃ t, execLatchDebounceCompletion s = .next t ∧ Settled w t
    unfold execLatchDebounceCompletion
    split
    · rename_i d _
      have settles : Settled w { s.reach d with bin := { (s.reach d).bin with latchTimer := none } } := reaches d
      exact ⟨_, rfl, event_settled _ (takeLatch_settled settles)⟩
    · exact ⟨_, rfl, h⟩
  | tryCompletion dt h1 h2 =>
    change ∃ t, execTryCompletion dt h1 h2 s = .next t ∧ Settled w t
    unfold execTryCompletion
    dsimp only
    split
    · rename_i m flies; exact ⟨_, rfl, event_settled _ (tryCompleted_settled m _ _ (passes dt) flies)⟩
    · exact ⟨_, rfl, passes dt⟩
  | silenceExpiry =>
    change ∃ t, execSilenceExpiry s = .next t ∧ Settled w t
    unfold execSilenceExpiry
    split
    · rename_i d _
      refine ⟨_, rfl, event_settled _ ?_⟩
      unfold Settled silenceExpires
      rw [headAbsent_view]
      exact reaches d
    · exact ⟨_, rfl, h⟩
  | wandOffTimerExpiry =>
    change ∃ t, execWandOffTimerExpiry s = .next t ∧ Settled w t
    unfold execWandOffTimerExpiry
    split
    · rename_i d _
      refine ⟨_, rfl, event_settled _ ?_⟩
      unfold Settled
      rw [wandPowerOff_view]
      exact reaches d
    · exact ⟨_, rfl, h⟩
  | helloTimerExpiry =>
    change ∃ t, execHelloTimerExpiry s = .next t ∧ Settled w t
    unfold execHelloTimerExpiry
    split
    · exact ⟨_, rfl, event_settled _ (helloExpires_settled (reaches _))⟩
    · exact ⟨_, rfl, h⟩
  | prechargeTimerExpiry =>
    change ∃ t, execPrechargeTimerExpiry s = .next t ∧ Settled w t
    unfold execPrechargeTimerExpiry
    split
    · exact ⟨_, rfl, event_settled _ (prechargeExpires_settled (reaches _))⟩
    · exact ⟨_, rfl, h⟩
  | balanceTimerExpiry =>
    change ∃ t, execBalanceTimerExpiry s = .next t ∧ Settled w t
    unfold execBalanceTimerExpiry
    split
    · exact ⟨_, rfl, event_settled _ (balanceExpires_settled (reaches _))⟩
    · exact ⟨_, rfl, h⟩
  | deepDischargeTimerExpiry =>
    change ∃ t, execDeepDischargeTimerExpiry s = .next t ∧ Settled w t
    unfold execDeepDischargeTimerExpiry
    split
    · rename_i d runs
      exact ⟨_, rfl, event_settled _ (deepExpires_settled (reaches d) (by simp [runs]))⟩
    · exact ⟨_, rfl, h⟩
  | frameArrival dt wire bytes =>
    change ∃ t, execFrameArrival dt wire bytes s = .next t ∧ Settled w t
    unfold execFrameArrival
    dsimp only
    split
    · exact ⟨_, rfl, wireReceive_settled wire bytes (passes dt)⟩
    · exact ⟨_, rfl, passes dt⟩
  | frameStartBit dt wire =>
    change ∃ t, execFrameStartBit dt wire s = .next t ∧ Settled w t
    unfold execFrameStartBit
    dsimp only
    split
    · refine ⟨_, rfl, ?_⟩
      unfold Settled
      rw [setWire_view]
      exact passes dt
    · exact ⟨_, rfl, passes dt⟩
  | gapTimerExpiry dt wire =>
    change ∃ t, execGapTimerExpiry dt wire s = .next t ∧ Settled w t
    unfold execGapTimerExpiry
    dsimp only
    split
    · refine ⟨_, rfl, ?_⟩
      unfold Settled wireIdle
      rw [setWire_view]
      exact passes dt
    · exact ⟨_, rfl, passes dt⟩
  | responseDelivered dt wire =>
    change ∃ t, execResponseDelivered dt wire s = .next t ∧ Settled w t
    unfold execResponseDelivered
    dsimp only
    split
    · refine ⟨_, rfl, ?_⟩
      unfold Settled wireSent
      rw [setWire_view]
      exact passes dt
    · exact ⟨_, rfl, passes dt⟩
  | handleTransaction dt mosi =>
    change ∃ t, execHandleTransaction dt mosi s = .next t ∧ Settled w t
    unfold execHandleTransaction
    dsimp only
    split
    · exact ⟨_, rfl, shiftIn_settled mosi (shiftOut_settled _ (passes dt))⟩
    · refine ⟨_, rfl, event_settled _ (wakeUp_settled .link ?_)⟩
      exact passes dt
  | handleAnswerReady dt =>
    change ∃ t, execHandleAnswerReady dt s = .next t ∧ Settled w t
    unfold execHandleAnswerReady
    dsimp only
    split
    · exact ⟨_, rfl, answerReady_settled (passes dt)⟩
    · exact ⟨_, rfl, passes dt⟩

theorem step_settled {w : Watch} {s t : State} (h : Settled w s) (e : step s = .next t) : Settled w t := by
  unfold step at e
  split at e
  · cases e; exact h
  · rename_i c rest _
    by_cases power : c = .powerOn
    · subst power
      cases e
      obtain ⟨-, -, path, -, -, -, -, bin, -, charge⟩ := atPowerOn_safe { s with pending := rest }
      exact (settled_iff w _).2 ⟨path, fun _ => ((binOk_iff _).1 bin).2, fun _ => ((chargeOk_iff _).1 charge).2⟩
    · obtain ⟨u, e', settled⟩ := exec_settled c (s := { s with pending := rest }) power h
      rw [e'] at e
      cases e
      exact settled

/-! ## The invariants -/

/-- Settles O7: every exchange over the path leaves it settled. -/
theorem pathKept : Obligations.PathKept := fun s t p e => (pathOk_iff t).2 (step_settled ((pathOk_iff s).1 p) e)

/-- Settles O12: every act keeps the gauge, and the exchanges over the path end its measurement where MEN goes on. -/
theorem binKept : Obligations.BinKept := by
  intro s t p b e
  obtain ⟨holds, off⟩ := (binOk_iff s).1 b
  have settled : Settled ⟨true, false⟩ t := step_settled ((settled_iff _ s).2 ⟨p, fun _ => off, nofun⟩) e
  obtain ⟨-, off', -⟩ := (settled_iff _ t).1 settled
  have keeps : BinHolds t :=
    step_keeps (fun _ _ => Act.binHolds) (fun _ _ _ q => q) (fun _ _ q => q) (fun _ _ q => q)
      (fun u _ => by obtain ⟨-, -, -, -, -, -, -, bin, -⟩ := atPowerOn_safe u; exact ((binOk_iff _).1 bin).1) s t holds e
  exact (binOk_iff t).2 ⟨keeps, off' rfl⟩

/-- Settles O14: every act keeps the order as its state forms it, and the exchanges over the path keep the bleeds off. -/
theorem chargeKept : Obligations.ChargeKept := by
  intro s t p c e
  obtain ⟨holds, rest⟩ := (chargeOk_iff s).1 c
  have settled : Settled ⟨false, true⟩ t := step_settled ((settled_iff _ s).2 ⟨p, nofun, fun _ => rest⟩) e
  obtain ⟨-, -, rest'⟩ := (settled_iff _ t).1 settled
  have keeps : OrderHolds t :=
    step_keeps (fun _ _ => Act.orderHolds) (fun u _ _ q => OrderHolds.congr (s := u) rfl rfl rfl q)
      (fun _ u q => OrderHolds.congr (s := u) rfl rfl rfl q) (fun u _ q => OrderHolds.congr (s := u) rfl rfl rfl q)
      (fun u _ => by obtain ⟨-, -, -, -, -, -, -, -, -, charge⟩ := atPowerOn_safe u; exact ((chargeOk_iff _).1 charge).1)
      s t holds e
  exact (chargeOk_iff t).2 ⟨keeps, rest' rfl⟩

end Sys2Proof.Machine
end

section
/-! PROOFS. Frames and their CRC; a request row at an open port is one service, answered. -/

namespace Sys2Proof.Machine

/-! ## The CRC (09 R160) -/

/-- The register before a shift. -/
def crcUnshift (r : Byte) : Byte := if r.getLsbD 0 then ((r ^^^ 0x07#8) >>> 1) ||| 0x80#8 else r >>> 1

theorem crcUnshift_shift : ∀ r : Byte, crcUnshift (crcShift r) = r := by decide

theorem crcShift_injective : Function.Injective crcShift := Function.LeftInverse.injective crcUnshift_shift

theorem crcByte_injective : Function.Injective crcByte := fun _ _ h =>
  crcShift_injective (crcShift_injective (crcShift_injective (crcShift_injective
    (crcShift_injective (crcShift_injective (crcShift_injective (crcShift_injective h)))))))

/-- The register after more bytes. -/
def crcFrom (r : Byte) (bytes : List Byte) : Byte := bytes.foldl (fun r b => crcByte (r ^^^ b)) r

theorem crc8_eq (bytes : List Byte) : crc8 bytes = crcFrom 0#8 bytes := rfl

theorem crcFrom_append (r : Byte) (a b : List Byte) : crcFrom r (a ++ b) = crcFrom (crcFrom r a) b := List.foldl_append

/-- Two registers that differ still differ after the same bytes. -/
theorem crcFrom_injective (bytes : List Byte) : Function.Injective fun r => crcFrom r bytes := by
  induction bytes with
  | nil => exact fun _ _ h => h
  | cons b rest ih =>
    intro r q h
    have same : crcByte (r ^^^ b) = crcByte (q ^^^ b) := ih h
    exact (BitVec.xor_left_inj b).1 (crcByte_injective same)

/-- One changed byte changes the CRC. -/
theorem crcFrom_set (bytes : List Byte) : ∀ (r : Byte) (i : Nat) (b : Byte), i < bytes.length →
    crcFrom r (bytes.set i b) = crcFrom r bytes → bytes[i]? = some b := by
  induction bytes with
  | nil => exact fun _ _ _ h => absurd h (Nat.not_lt_zero _)
  | cons c rest ih =>
    intro r i b inside same
    cases i with
    | zero =>
      have step : crcByte (r ^^^ b) = crcByte (r ^^^ c) := crcFrom_injective rest same
      rw [(BitVec.xor_right_inj r).1 (crcByte_injective step)]
      rfl
    | succ i => exact ih _ i b (Nat.lt_of_succ_lt_succ inside) same

/-- The CRC over a text and its own CRC is 0. -/
theorem crc8_frame (body : List Byte) : crc8 (body ++ [crc8 body]) = 0#8 := by
  rw [crc8_eq, crcFrom_append]
  change crcByte (crc8 body ^^^ crc8 body) = 0#8
  rw [BitVec.xor_self]
  decide

/-! ## Frames -/

/-- A frame of the length its third byte gives is intact exactly where its CRC is 0. -/
theorem judgeFrame_whole {kind tag len : Byte} {rest : List Byte} (bound : len.toNat ≤ 56)
    (length : rest.length = len.toNat + 1) :
    judgeFrame (kind :: tag :: len :: rest)
      = if crc8 (kind :: tag :: len :: rest) = 0#8 then .intact ⟨kind, tag, rest.take len.toNat⟩ else .corrupt := by
  have whole : rest.take (len.toNat + 1) = rest := List.take_of_length_le length.le
  simp only [judgeFrame, if_neg (Nat.not_lt.2 bound), if_neg (by omega : ¬rest.length ≤ len.toNat), whole]

theorem judgeFrame_tooLong {kind tag len : Byte} {rest : List Byte} (bound : 56 < len.toNat) :
    judgeFrame (kind :: tag :: len :: rest) = .tooLong := by simp only [judgeFrame, if_pos bound]

theorem judgeFrame_truncated {kind tag len : Byte} {rest : List Byte} (bound : len.toNat ≤ 56)
    (length : rest.length ≤ len.toNat) : judgeFrame (kind :: tag :: len :: rest) = .truncated := by
  simp only [judgeFrame, if_neg (Nat.not_lt.2 bound), if_pos length]

theorem judgeFrame_short {bytes : List Byte} (short : bytes.length < 3) : judgeFrame bytes = .truncated := by
  unfold judgeFrame
  split
  · simp at short; omega
  · rfl

/-- The length byte of a payload that a frame may carry. -/
theorem lengthByte_toNat {p : List Byte} (h : p.length ≤ 56) : (BitVec.ofNat 8 p.length).toNat = p.length := by
  rw [BitVec.toNat_ofNat]; omega

theorem frame_eq (kind tag : Byte) (p : List Byte) :
    frame kind tag p
      = kind :: tag :: BitVec.ofNat 8 p.length :: (p ++ [crc8 (kind :: tag :: BitVec.ofNat 8 p.length :: p)]) := rfl

theorem frame_length (kind tag : Byte) (p : List Byte) : (frame kind tag p).length = p.length + 4 := by
  simp [frame_eq]

theorem frame_crc (kind tag : Byte) (p : List Byte) : crc8 (frame kind tag p) = 0#8 := crc8_frame _

/-- A frame reads back as its request. -/
theorem judgeFrame_frame (kind tag : Byte) {p : List Byte} (h : p.length ≤ 56) :
    judgeFrame (frame kind tag p) = .intact ⟨kind, tag, p⟩ := by
  have crc := frame_crc kind tag p
  rw [frame_eq] at crc ⊢
  have len := lengthByte_toNat h
  rw [judgeFrame_whole (by omega) (by simp [len]), if_pos crc, len, List.take_left]

/-- A frame with one byte changed, other than its length byte, is corrupt. -/
theorem judgeFrame_set {kind tag : Byte} {p : List Byte} (h : p.length ≤ 56) {i : Nat} {b : Byte}
    (inside : i < p.length + 4) (other : i ≠ 2) (changed : (frame kind tag p)[i]? ≠ some b) :
    judgeFrame ((frame kind tag p).set i b) = .corrupt := by
  have crc : crc8 ((frame kind tag p).set i b) ≠ 0#8 := by
    rw [← frame_crc kind tag p]
    exact fun same => changed (crcFrom_set _ _ _ _ (by rw [frame_length]; exact inside) same)
  have len := lengthByte_toNat h
  have shape : ∃ k t rest, (frame kind tag p).set i b = k :: t :: BitVec.ofNat 8 p.length :: rest
      ∧ rest.length = p.length + 1 := by
    rw [frame_eq]
    match i, other with
    | 0, _ => exact ⟨_, _, _, rfl, by simp⟩
    | 1, _ => exact ⟨_, _, _, rfl, by simp⟩
    | i + 3, _ => exact ⟨_, _, _, rfl, by simp⟩
  obtain ⟨k, t, rest, e, length⟩ := shape
  rw [e] at crc ⊢
  rw [judgeFrame_whole (by omega) (by omega), if_neg crc]

/-- The code and NOTE_PENDING of a status byte. -/
theorem statusByte_toNat (c : Status) (n : Bool) : (statusByte c n).toNat = c.value + if n then 64 else 0 := by
  have bound : c.value ≤ 11 := by cases c <;> decide
  unfold statusByte
  rw [BitVec.toNat_ofNat]
  split <;> omega

theorem Status.value_injective : Function.Injective Status.value := by
  intro c d h
  cases c <;> cases d <;> first | rfl | cases h

/-- Settles O15: the CRC's steps are one to one, so that a changed byte shows at the end. -/
theorem framesReadBack : Obligations.FramesReadBack := by
  refine ⟨fun c d n m same => ?_, fun k tag p h => ⟨reqKind_byte k, judgeFrame_frame _ _ h, fun i b inside other changed =>
    judgeFrame_set h inside other changed⟩⟩
  have bytes := congrArg BitVec.toNat same
  rw [statusByte_toNat, statusByte_toNat] at bytes
  have boundC : c.value ≤ 11 := by cases c <;> decide
  have boundD : d.value ≤ 11 := by cases d <;> decide
  have codes : c.value = d.value := by split at bytes <;> split at bytes <;> omega
  refine ⟨Status.value_injective codes, ?_⟩
  cases n <;> cases m <;> simp_all

/-! ## A request row at an open port -/

/-- A port that is open when the request comes is open as it arrives. -/
theorem exec_row_handle (k : ReqKind) (dt : Nat) (tag : Byte) (p : List Byte) {s : State} (h : HandleOpen s)
    (length : p.length ≤ 56) :
    exec (k.row dt .handle tag p) s = .next (event (handleServe ⟨k.byte, tag, p⟩) (s.atHandle dt)) := by
  rw [exec_row, arrive_handle _ _ (h.elapse dt) length]
  rfl

theorem exec_row_wire (k : ReqKind) (w : Wire) (dt : Nat) (tag : Byte) (p : List Byte) {s : State} (h : WireOpen w s)
    (length : p.length ≤ 56) :
    exec (k.row dt (wireLink w) tag p) s = .next (event (wireServe w ⟨k.byte, tag, p⟩) (s.elapse dt)) := by
  rw [exec_row, arrive_wire w _ _ (h.elapse dt) length]

/-- A served request leaves its answer at the port, SOFT_RESET apart. -/
theorem handleServe_answers (k : ReqKind) (tag : Byte) (p : List Byte) (s : State)
    (answered : k = .softReset → (serve .handle ⟨k.byte, tag, p⟩ s).code ≠ .ok) :
    handleServe ⟨k.byte, tag, p⟩ s
      = (serve .handle ⟨k.byte, tag, p⟩ s).st.handleAnswers tag (serve .handle ⟨k.byte, tag, p⟩ s).code
        (serve .handle ⟨k.byte, tag, p⟩ s).data := by
  have slot : slotAfter ⟨k.byte, tag, p⟩ (serve .handle ⟨k.byte, tag, p⟩ s).code = .serving := by
    refine if_neg fun h => answered ?_ h.2
    have kinds := congrArg reqKind h.1
    simpa using kinds
  rw [handleServe_spec, slot]
  rfl

/-- An event that leaves the switches alone notes the generations only. -/
theorem event_eq {f : State → State} {s : State} (same : (f s).switches = s.switches) :
    event f s = { f s with gens := (event f s).gens } := by
  simp only [event, if_pos same]

/-- A request row at an open port is an event: the service, and the answer at the port. -/
theorem exec_row_event (k : ReqKind) (link : Link) (dt : Nat) (tag : Byte) (p : List Byte) {s : State}
    (h : PortOpen link s) (length : p.length ≤ 56)
    (answered : k = .softReset → (serve link ⟨k.byte, tag, p⟩ (s.arrived link dt)).code ≠ .ok) :
    ∃ (f : State → State) (u : State), exec (k.row dt link tag p) s = .next (event f u)
      ∧ u.switches = (s.arrived link dt).switches
      ∧ f u = (serve link ⟨k.byte, tag, p⟩ (s.arrived link dt)).st.answers link tag
          (serve link ⟨k.byte, tag, p⟩ (s.arrived link dt)).code (serve link ⟨k.byte, tag, p⟩ (s.arrived link dt)).data := by
  have heard (w : Wire) : (s.elapse dt).switches = (s.atWire w dt).switches := by
    unfold State.atWire hear
    split <;> rfl
  cases link with
  | handle => exact ⟨_, _, exec_row_handle k dt tag p h length, rfl, handleServe_answers k tag p _ answered⟩
  | wand => exact ⟨_, _, exec_row_wire k .wand dt tag p h length, heard .wand, rfl⟩
  | dock => exact ⟨_, _, exec_row_wire k .dock dt tag p h length, heard .dock, rfl⟩

/-- Settles O17: every row at an open port is served and answered. -/
theorem everyArrivalIsAnswered : Obligations.EveryArrivalIsAnswered := by
  intro k link dt tag p s h length answered
  obtain ⟨f, u, e, -, state⟩ := exec_row_event k link dt tag p h length answered
  refine ⟨_, e, ?_⟩
  rw [← state]
  rfl

/-- The answer at a port is no switch's business. -/
theorem answers_switches (x : State) (link : Link) (tag : Byte) (c : Status) (d : List Byte) :
    (x.answers link tag c d).switches = x.switches := by cases link <;> rfl

/-- A request whose service leaves the switches alone: the next state is the service's, with the answer at the port. -/
theorem row_answers {k : ReqKind} {link : Link} {dt : Nat} {tag : Byte} {p : List Byte} {s x : State} {c : Status}
    {d : List Byte} (h : PortOpen link s) (length : p.length ≤ 56) (known : k = .softReset → c ≠ .ok)
    (served : serve link ⟨k.byte, tag, p⟩ (s.arrived link dt) = ⟨x, c, d⟩)
    (switches : x.switches = (s.arrived link dt).switches) :
    ∃ t, exec (k.row dt link tag p) s = .next t ∧ SameButGens t (x.answers link tag c d) := by
  obtain ⟨f, u, e, before, state⟩ := exec_row_event k link dt tag p h length (by rw [served]; exact known)
  rw [served] at state
  refine ⟨_, e, ?_⟩
  have same : (f u).switches = u.switches := by rw [state, answers_switches, switches, before]
  rw [← state]
  exact event_eq same

/-- A request refused by the port's checks changes nothing. -/
theorem row_refused {k : ReqKind} {link : Link} {dt : Nat} {tag : Byte} {p : List Byte} {s : State} {c : Status}
    (h : PortOpen link s) (length : p.length ≤ 56) (bad : c ≠ .ok)
    (refused : portRefusal k link p (s.arrived link dt) = some c) :
    ∃ t, exec (k.row dt link tag p) s = .next t ∧ SameButGens t ((s.arrived link dt).answers link tag c []) := by
  refine row_answers h length (fun _ => bad) ?_ rfl
  rcases serve_cases link k tag p (s.arrived link dt) with ⟨c', e, served⟩ | ⟨e, -⟩
  · rw [refused] at e; cases e; exact served
  · rw [refused] at e; cases e

/-- A request that passes the port's checks is the owner's. -/
theorem row_owned {k : ReqKind} {link : Link} {dt : Nat} {tag : Byte} {p : List Byte} {s x : State} {c : Status}
    {d : List Byte} (h : PortOpen link s) (length : p.length ≤ 56) (known : k = .softReset → c ≠ .ok)
    (passed : portRefusal k link p (s.arrived link dt) = none)
    (owned : ownerServe k link p (s.arrived link dt) = ⟨x, c, d⟩)
    (switches : x.switches = (s.arrived link dt).switches) :
    ∃ t, exec (k.row dt link tag p) s = .next t ∧ SameButGens t (x.answers link tag c d) := by
  refine row_answers h length known ?_ switches
  rcases serve_cases link k tag p (s.arrived link dt) with ⟨c', e, -⟩ | ⟨-, served⟩
  · rw [passed] at e; cases e
  · rw [served, owned]

/-! ## What a request finds -/

/-- An arrival at the handle port changes the clock, the entry's mark of a delivered response, and the generations. -/
theorem atHandle_frame (s : State) (dt : Nat) :
    s.atHandle dt
      = { s with
          now := s.now + dt, pwr := { s.pwr with entry := (s.atHandle dt).pwr.entry }, gens := (s.atHandle dt).gens } := by
  have delivered : replaceAnswer (s.elapse dt)
      = { s with now := s.now + dt, pwr := { s.pwr with entry := (replaceAnswer (s.elapse dt)).pwr.entry } } := by
    unfold replaceAnswer shelfDelivered
    split
    · split <;> rfl
    · rfl
  have switches : (replaceAnswer (s.elapse dt)).switches = (s.elapse dt).switches := by rw [delivered]; rfl
  have noted : s.atHandle dt = { replaceAnswer (s.elapse dt) with gens := (s.atHandle dt).gens } := event_eq switches
  rw [noted]
  dsimp only
  rw [delivered]

/-- An arrival on a wire changes the clock, and restarts a PRESENT head's silence timer. -/
theorem atWire_frame (w : Wire) (s : State) (dt : Nat) :
    s.atWire w dt = { s with now := s.now + dt, head := { s.head with silence := (s.atWire w dt).head.silence } } := by
  unfold State.atWire hear
  split <;> rfl

/-- What a request finds is what stood, at its own moment, but for the entry's mark, the silence timer and the generations. -/
theorem arrived_frame (s : State) (link : Link) (dt : Nat) :
    s.arrived link dt
      = { s with
          now := s.now + dt, pwr := { s.pwr with entry := (s.arrived link dt).pwr.entry }
          head := { s.head with silence := (s.arrived link dt).head.silence }, gens := (s.arrived link dt).gens } := by
  cases link with
  | handle =>
    change s.atHandle dt = { s with
      now := s.now + dt, pwr := { s.pwr with entry := (s.atHandle dt).pwr.entry }
      head := { s.head with silence := (s.atHandle dt).head.silence }, gens := (s.atHandle dt).gens }
    rw [atHandle_frame]
  | wand =>
    change s.atWire .wand dt = { s with
      now := s.now + dt, pwr := { s.pwr with entry := (s.atWire .wand dt).pwr.entry }
      head := { s.head with silence := (s.atWire .wand dt).head.silence }, gens := (s.atWire .wand dt).gens }
    rw [atWire_frame]
  | dock =>
    change s.atWire .dock dt = { s with
      now := s.now + dt, pwr := { s.pwr with entry := (s.atWire .dock dt).pwr.entry }
      head := { s.head with silence := (s.atWire .dock dt).head.silence }, gens := (s.atWire .dock dt).gens }
    rw [atWire_frame]

section
variable (s : State) (link : Link) (dt : Nat)

@[simp] theorem arrived_now : (s.arrived link dt).now = s.now + dt := by rw [arrived_frame]
@[simp] theorem arrived_smp : (s.arrived link dt).smp = s.smp := by rw [arrived_frame]
@[simp] theorem arrived_alw : (s.arrived link dt).alw = s.alw := by rw [arrived_frame]
@[simp] theorem arrived_arb : (s.arrived link dt).arb = s.arb := by rw [arrived_frame]
@[simp] theorem arrived_suc : (s.arrived link dt).suc = s.suc := by rw [arrived_frame]
@[simp] theorem arrived_dirt : (s.arrived link dt).dirt = s.dirt := by rw [arrived_frame]
@[simp] theorem arrived_bin : (s.arrived link dt).bin = s.bin := by rw [arrived_frame]
@[simp] theorem arrived_acct : (s.arrived link dt).acct = s.acct := by rw [arrived_frame]
@[simp] theorem arrived_chg : (s.arrived link dt).chg = s.chg := by rw [arrived_frame]
@[simp] theorem arrived_ports : (s.arrived link dt).ports = s.ports := by rw [arrived_frame]
@[simp] theorem arrived_settings : (s.arrived link dt).settings = s.settings := by rw [arrived_frame]
@[simp] theorem arrived_info : (s.arrived link dt).head.info = s.head.info := by rw [arrived_frame]
@[simp] theorem arrived_wand : (s.arrived link dt).head.wand = s.head.wand := by rw [arrived_frame]
@[simp] theorem arrived_floor : (s.arrived link dt).head.floor = s.head.floor := by rw [arrived_frame]

end

/-! ## The port's checks (09 R166) -/

theorem portRefusal_denied {k : ReqKind} {link : Link} (p : List Byte) (s : State) (h : permitted link k = false) :
    portRefusal k link p s = some .denied := if_pos h

/-- A kind that is permitted meets the checks of record, presence, length and setting in this order. -/
theorem portRefusal_permitted {k : ReqKind} {link : Link} (p : List Byte) (s : State) (h : permitted link k = true) :
    portRefusal k link p s
      = ((if k = .readRec then recordRefusal link p else none).or (presenceRefusal k link s)).or
        ((if lengthOk k p then none else some .badArg).or (settingRefusal k p)) := if_neg (by simp [h])

/-- Every link may read records. -/
theorem portRefusal_readRec (link : Link) (p : List Byte) (s : State) :
    portRefusal .readRec link p s
      = ((recordRefusal link p).or (presenceRefusal .readRec link s)).or
        ((if lengthOk .readRec p then none else some .badArg).or none) := by
  rw [portRefusal_permitted p s (by cases link <;> rfl)]
  rfl

theorem presenceRefusal_absent {k : ReqKind} {s : State} (absent : s.head.info = none) (ident : k ≠ .ident)
    (hello : k ≠ .headHello) : presenceRefusal k .wand s = some .state := by
  unfold presenceRefusal
  rw [if_pos ⟨rfl, by rw [absent]; rfl, ident, hello⟩]

theorem presenceRefusal_none {k : ReqKind} {link : Link} {s : State}
    (h : link = .wand → s.head.info.isSome = true ∨ k = .ident ∨ k = .headHello) : presenceRefusal k link s = none := by
  refine if_neg ?_
  rintro ⟨wand, absent, ident, hello⟩
  rcases h wand with present | is | is
  · simp [Option.isNone_iff_eq_none.1 absent] at present
  · exact ident is
  · exact hello is

/-- A request that is permitted, comes from a PRESENT head where it must, has its length and a known setting, passes. -/
theorem portRefusal_passes {k : ReqKind} {link : Link} {p : List Byte} {s : State} (allowed : permitted link k = true)
    (record : k = .readRec → recordRefusal link p = none)
    (present : link = .wand → s.head.info.isSome = true ∨ k = .ident ∨ k = .headHello) (length : lengthOk k p = true)
    (setting : settingRefusal k p = none) : portRefusal k link p s = none := by
  have records : (if k = .readRec then recordRefusal link p else none) = none := by
    split
    · rename_i h; exact record h
    · rfl
  rw [portRefusal_permitted p s allowed, records, presenceRefusal_none present, if_pos length, setting]
  rfl

/-- An identifier outside 1..48 names no setting. -/
theorem settingLength_none {id : Nat} (h : id = 0 ∨ 48 < id) : settingLength id = none := by
  unfold settingLength
  rw [if_neg (by omega), if_neg (by omega), if_neg (by omega)]

/-- Settles O18: the checks one by one, each on what the request finds. -/
theorem portChecksInOrder : Obligations.PortChecksInOrder := by
  intro k link dt tag p s h length
  have refused {c : Status} (bad : c ≠ .ok) (e : portRefusal k link p (s.arrived link dt) = some c) :
      ∃ t, exec (k.row dt link tag p) s = .next t ∧ SameButGens t ((s.arrived link dt).answers link tag c []) :=
    row_refused h length bad e
  have reads (link : Link) : permitted link .readRec = true := by cases link <;> rfl
  refine ⟨fun denied => ?_, ?_, ?_, ?_, ?_, ?_, ?_, ?_⟩
  · exact refused (by decide) (portRefusal_denied p _ denied)
  · rintro rfl rfl
    exact refused (by decide) (by rw [portRefusal_readRec]; rfl)
  · rintro code rest rfl rfl unknown
    exact refused (by decide) (by rw [portRefusal_readRec]; simp [recordRefusal, unknown])
  · rintro code rest r rfl rfl known closed
    exact refused (by decide) (by rw [portRefusal_readRec]; simp [recordRefusal, known, closed])
  · rintro rfl absent kinds
    have gone : (s.arrived .wand dt).head.info = none := by rw [arrived_info, absent]
    refine refused (by decide) ?_
    rcases kinds with rfl | rfl | rfl | rfl | rfl | rfl <;>
      rw [portRefusal_permitted _ _ rfl, presenceRefusal_absent gone (by decide) (by decide)] <;> rfl
  · rintro code rest r rfl rfl known opened
    have record : recordRefusal link (code :: rest) = none := by simp [recordRefusal, known, opened]
    refine ⟨?_, fun present odd => ?_⟩
    · rintro rfl absent
      have gone : (s.arrived .wand dt).head.info = none := by rw [arrived_info, absent]
      refine refused (by decide) ?_
      rw [portRefusal_readRec, record, presenceRefusal_absent gone (by decide) (by decide)]
      rfl
    · refine refused (by decide) ?_
      rw [portRefusal_readRec, record, presenceRefusal_none (fun wand => Or.inl (by rw [arrived_info]; exact present wand)),
        if_neg (by simpa [lengthOk] using odd)]
      rfl
  · intro allowed other present odd
    refine refused (by decide) ?_
    rw [portRefusal_permitted _ _ allowed, if_neg other, presenceRefusal_none (by rw [arrived_info]; exact present),
      if_neg (by simp [odd])]
    rfl
  · rintro id value rfl rfl rfl unknown
    have none_ : settingLength id.toNat = none := by
      refine settingLength_none (unknown.imp_left ?_)
      rintro rfl
      rfl
    refine refused (by decide) ?_
    rw [portRefusal_permitted _ _ rfl, presenceRefusal_none (link := .handle) nofun]
    simp [lengthOk, none_, settingRefusal]

end Sys2Proof.Machine
end

section
/-! PROOFS. The single-wire ports: what a request on a wire leaves of the port it came by, and the bytes of a frame one by one. -/

namespace Sys2Proof.Machine

/-! ## What a service leaves of the wires

A service reads neither wire's port and writes neither: it acts the same with another record at the port. -/

section
variable (w : Wire) (p : WirePort) (s : State)

theorem raiseHandle_setWire (n : HandleNotice) : raiseHandle n (s.setWire w p) = (raiseHandle n s).setWire w p := by
  cases w <;> rfl

theorem raiseDock_setWire (n : DockNotice) : raiseDock n (s.setWire w p) = (raiseDock n s).setWire w p := by
  cases w <;> rfl

theorem chg_setWire (c : Charger) : { s.setWire w p with chg := c } = ({ s with chg := c } : State).setWire w p := by
  cases w <;> rfl

theorem arb_setWire (a : Arbiter) : { s.setWire w p with arb := a } = ({ s with arb := a } : State).setWire w p := by
  cases w <;> rfl

theorem head_setWire (h : Head) : { s.setWire w p with head := h } = ({ s with head := h } : State).setWire w p := by
  cases w <;> rfl

theorem bin_setWire (b : Bin) : { s.setWire w p with bin := b } = ({ s with bin := b } : State).setWire w p := by
  cases w <;> rfl

theorem recompute_setWire : recompute (s.setWire w p) = (recompute s).setWire w p := by
  rw [recompute_spec, recompute_spec]
  cases w <;> rfl

theorem cancelShelf_setWire : cancelShelf (s.setWire w p) = (cancelShelf s).setWire w p := by
  unfold cancelShelf
  rw [State.setWire_pwr]
  split
  · rfl
  · cases w <;> rfl

theorem stopDeepTimer_setWire : stopDeepTimer (s.setWire w p) = (stopDeepTimer s).setWire w p := by
  cases w <;> rfl

theorem putOrder_setWire (current ceil : Nat) :
    putOrder current ceil (s.setWire w p) = (putOrder current ceil s).setWire w p := by
  unfold putOrder
  rw [State.setWire_chg]
  split
  · rfl
  · cases w <;> rfl

theorem reformOrder_setWire : reformOrder (s.setWire w p) = (reformOrder s).setWire w p := by
  have formed : (s.setWire w p).formedCurrent = s.formedCurrent := by cases w <;> rfl
  unfold reformOrder
  rw [formed, State.setWire_settings, putOrder_setWire]

theorem setCharge_setWire (st : ChargeState) : setCharge st (s.setWire w p) = (setCharge st s).setWire w p := by
  unfold setCharge
  rw [State.setWire_chg]
  split
  · rfl
  · cases w <;> rfl

theorem pauseCharge_setWire (reason : PauseReason) : pauseCharge reason (s.setWire w p) = (pauseCharge reason s).setWire w p := by
  unfold pauseCharge
  rw [setCharge_setWire]
  exact (congrArg reformOrder (by cases w <;> rfl)).trans (reformOrder_setWire w p _)

theorem beginPrecharge_setWire : beginPrecharge (s.setWire w p) = (beginPrecharge s).setWire w p := by
  unfold beginPrecharge
  rw [setCharge_setWire]
  exact (congrArg reformOrder (by cases w <;> rfl)).trans (reformOrder_setWire w p _)

theorem beginBulk_setWire : beginBulk (s.setWire w p) = (beginBulk s).setWire w p := by
  unfold beginBulk
  rw [setCharge_setWire]
  exact (congrArg reformOrder (by cases w <;> rfl)).trans (reformOrder_setWire w p _)

theorem arbRelease_setWire (side : Side) :
    (arbRelease side (s.setWire w p)).1 = (arbRelease side s).1.setWire w p := by
  unfold arbRelease
  rw [State.setWire_arb]
  split
  · split <;> exact arb_setWire w p s _
  · rfl

theorem entrySelection_setWire : entrySelection (s.setWire w p) = (entrySelection s).setWire w p := by
  unfold entrySelection
  simp only [State.setWire_chg, State.setWire_smp, State.setWire_settings, pauseCharge_setWire, arbRelease_setWire,
    beginPrecharge_setWire, beginBulk_setWire]
  split
  · rfl
  · repeat' split
    all_goals rfl

theorem requestCharge_setWire : requestCharge (s.setWire w p) = (requestCharge s).setWire w p := by
  have held : (s.setWire w p).arb.path = s.arb.path := congrArg Arbiter.path (State.setWire_arb s w p)
  rcases requestCharge_cases s with ⟨path, e⟩ | ⟨path, e⟩ | ⟨path, e⟩ <;>
    rcases requestCharge_cases (s.setWire w p) with ⟨path', e'⟩ | ⟨path', e'⟩ | ⟨path', e'⟩ <;>
    first | exact absurd (path.symm.trans (held.symm.trans path')) (by decide) | rw [e, e']
  · rw [State.setWire_arb, arb_setWire, cancelShelf_setWire, stopDeepTimer_setWire, entrySelection_setWire]
  · rw [State.setWire_arb, arb_setWire, setCharge_setWire, reformOrder_setWire]

end

/-- The reply with another record at a wire's port. -/
def Reply.setWire (r : Reply) (w : Wire) (p : WirePort) : Reply := ⟨r.st.setWire w p, r.code, r.data⟩

section
variable (w : Wire) (p : WirePort) (s : State)

theorem refuse_setWire (c : Status) : refuse (s.setWire w p) c = (refuse s c).setWire w p := rfl

theorem serveReadRec_setWire (l : List Byte) : serveReadRec l (s.setWire w p) = (serveReadRec l s).setWire w p := by
  have bytes (r : RecordId) (page : Nat) : recordBytes r page (s.setWire w p) = recordBytes r page s := by
    cases w <;> cases r <;> rfl
  unfold serveReadRec
  split
  · split
    · rfl
    · simp only [bytes, State.setWire_gens]
      split
      · split <;> rfl
      · split <;> rfl
  · rfl

theorem serveClearNote_setWire (link : Link) (l : List Byte) :
    serveClearNote link l (s.setWire w p) = (serveClearNote link l s).setWire w p := by
  unfold serveClearNote
  split
  · split
    · cases link <;> cases w <;> rfl
    · rfl
  · rfl

/-- A move of the pool with its recomputation, and the reply on the suction stack. -/
theorem suctionReply_setWire (a : Arbiter) (index : Nat) (c : Status) :
    suctionReply (recompute { s.setWire w p with arb := a }) index c
      = (suctionReply (recompute { s with arb := a }) index c).setWire w p := by
  rw [arb_setWire, recompute_setWire]
  simp only [suctionReply, State.setWire_arb]
  rfl

theorem brushReply_setWire (a : Arbiter) (index : Nat) (c : Status) :
    brushReply (recompute { s.setWire w p with arb := a }) index c
      = (brushReply (recompute { s with arb := a }) index c).setWire w p := by
  rw [arb_setWire, recompute_setWire]
  simp only [brushReply, State.setWire_arb]
  rfl

theorem serveClaimPush_setWire (link : Link) (l : List Byte) :
    serveClaimPush link l (s.setWire w p) = (serveClaimPush link l s).setWire w p := by
  unfold serveClaimPush
  split
  · split
    · unfold pushBrushClaim
      simp only [State.setWire_arb, State.setWire_settings]
      split
      · rfl
      split
      · rfl
      split
      · rfl
      · have rating : (s.setWire w p).rating = s.rating := by cases w <;> rfl
        rw [rating]
        cases w <;> exact brushReply_setWire _ p s _ _ _
    · unfold pushSuctionClaim
      simp only [State.setWire_arb, State.setWire_settings]
      split
      · rfl
      split
      · rfl
      split
      · rfl
      · cases w <;> exact suctionReply_setWire _ p s _ _ _
  · rfl

theorem serveClaimPop_setWire (link : Link) (l : List Byte) :
    serveClaimPop link l (s.setWire w p) = (serveClaimPop link l s).setWire w p := by
  unfold serveClaimPop
  split
  · split
    · unfold popBrushClaim
      simp only [State.setWire_arb]
      split
      · rfl
      split
      · exact brushReply_setWire w p s _ _ _
      · rfl
    · unfold popSuctionClaim
      simp only [State.setWire_arb]
      split
      · rfl
      split
      · exact suctionReply_setWire w p s _ _ _
      · rfl
  · rfl

theorem serveClaimReplace_setWire (link : Link) (l : List Byte) :
    serveClaimReplace link l (s.setWire w p) = (serveClaimReplace link l s).setWire w p := by
  unfold serveClaimReplace
  split
  · split
    · unfold replaceBrushClaim
      simp only [State.setWire_arb]
      split
      · rfl
      split
      · rfl
      split
      · have rating : (s.setWire w p).rating = s.rating := by cases w <;> rfl
        rw [rating]
        exact brushReply_setWire w p s _ _ _
      · rfl
    · unfold replaceSuctionClaim
      simp only [State.setWire_arb]
      split
      · rfl
      split
      · rfl
      split
      · exact suctionReply_setWire w p s _ _ _
      · rfl
  · rfl

theorem serveClaimDrop_setWire (link : Link) :
    serveClaimDrop link (s.setWire w p) = (serveClaimDrop link s).setWire w p := by
  unfold serveClaimDrop
  simp only [State.setWire_arb, arb_setWire, recompute_setWire]
  split <;> rfl

theorem serveBinMeasure_setWire : serveBinMeasure (s.setWire w p) = (serveBinMeasure s).setWire w p := by
  have seq : nextSeq (s.setWire w p) = nextSeq s := by cases w <;> rfl
  unfold serveBinMeasure
  rw [State.setWire_bin, State.setWire_suc, seq]
  split
  · rfl
  split
  · rfl
  · cases w <;> rfl

theorem serveHeadHello_setWire (l : List Byte) : serveHeadHello l (s.setWire w p) = (serveHeadHello l s).setWire w p := by
  have replies (t : State) (c : Status) : helloReply (t.setWire w p) c = (helloReply t c).setWire w p := by
    cases w <;> rfl
  have presents (info : HeadInfo) : headPresent info (s.setWire w p) = (headPresent info s).setWire w p := by
    unfold headPresent
    exact (congrArg recompute (by cases w <;> rfl)).trans (recompute_setWire w p _)
  have again (old new : HeadInfo) : headAgain old new (s.setWire w p) = (headAgain old new s).setWire w p := by
    unfold headAgain
    simp only [State.setWire_head, head_setWire, recompute_setWire]
    split <;> split <;> rfl
  unfold serveHeadHello
  split
  · simp only [State.setWire_head, presents, again, replies]
    split
    · split <;> rfl
    · rfl
  · rfl

theorem serveFloorReport_setWire (l : List Byte) :
    serveFloorReport l (s.setWire w p) = (serveFloorReport l s).setWire w p := by
  have replies (t : State) (c : Status) : floorReply (t.setWire w p) c = (floorReply t c).setWire w p := by
    cases w <;> rfl
  unfold serveFloorReport
  split
  · split
    · exact replies _ _
    · simp only [State.setWire_head, head_setWire, recompute_setWire, replies]
      split
      · split <;> rfl
      · rfl
  · rfl

theorem serveDockHello_setWire (l : List Byte) : serveDockHello l (s.setWire w p) = (serveDockHello l s).setWire w p := by
  have replies (t : State) (c : Status) : dockReply (t.setWire w p) c = (dockReply t c).setWire w p := by
    cases w <;> rfl
  have accepts (c : Capability) : acceptHello c (s.setWire w p) = (acceptHello c s).setWire w p := by
    unfold acceptHello
    simp only [State.setWire_chg, chg_setWire, reformOrder_setWire, requestCharge_setWire]
    split <;> rfl
  unfold serveDockHello
  split
  · simp only [State.setWire_chg, State.setWire_settings, replies, accepts]
    split
    · rfl
    split <;> rfl
  · rfl

theorem serveOrderRead_setWire : serveOrderRead (s.setWire w p) = (serveOrderRead s).setWire w p := by
  unfold serveOrderRead
  rw [State.setWire_chg]
  split
  · rfl
  · cases w <;> rfl

/-- A service on a wire's link acts the same with another record at a wire's port. -/
theorem serve_setWire (x : Wire) (r : Request) :
    serve (wireLink x) r (s.setWire w p) = (serve (wireLink x) r s).setWire w p := by
  have checks (k : ReqKind) (l : List Byte) :
      portRefusal k (wireLink x) l (s.setWire w p) = portRefusal k (wireLink x) l s := by
    unfold portRefusal presenceRefusal
    rw [State.setWire_head]
  unfold serve
  split
  · rfl
  · rename_i k _
    rw [checks]
    split
    · rfl
    · rename_i passed
      have allowed := (portRefusal_none passed).1
      cases k with
      | ident => cases w <;> rfl
      | readRec => exact serveReadRec_setWire w p s _
      | clearNote => exact serveClearNote_setWire w p s _ _
      | claimPush => exact serveClaimPush_setWire w p s _ _
      | claimPop => exact serveClaimPop_setWire w p s _ _
      | claimReplace => exact serveClaimReplace_setWire w p s _ _
      | claimDrop => exact serveClaimDrop_setWire w p s _
      | binMeasure => exact serveBinMeasure_setWire w p s
      | headHello => exact serveHeadHello_setWire w p s _
      | floorReport => exact serveFloorReport_setWire w p s _
      | dockHello => exact serveDockHello_setWire w p s _
      | orderRead => exact serveOrderRead_setWire w p s
      | _ => cases x <;> cases allowed

end

/-! ## One byte after the other -/

/-- A service on a wire leaves the wire's port, and the part AWAKE or in SHELF, as it found them. -/
theorem serve_wirePort (x w : Wire) (r : Request) (s : State) :
    (serve (wireLink x) r s).st.wirePort w = s.wirePort w := by
  have own : s.setWire w (s.wirePort w) = s := by cases w <;> rfl
  have same := serve_setWire w (s.wirePort w) s x r
  rw [own] at same
  rw [same]
  exact State.setWire_wirePort _ w _

/-- The same request finds its own row's state, whatever the port held. -/
theorem wireServe_setWire (w : Wire) (r : Request) (p : WirePort) (s : State) (sent : p.sent = (s.wirePort w).sent) :
    wireServe w r (s.setWire w p) = wireServe w r s := by
  have heard : hear w (s.setWire w p) = (hear w s).setWire w p := by
    unfold hear
    rw [State.setWire_head]
    split
    · cases w <;> rfl
    · rfl
  have port : ((serve (wireLink w) r (hear w s)).st.wirePort w).sent = (s.wirePort w).sent := by
    rw [serve_wirePort]
    unfold hear
    split
    · cases w <;> rfl
    · rfl
  have again (t : State) (q : WirePort) : (t.setWire w p).setWire w q = t.setWire w q := by cases w <;> rfl
  unfold wireServe
  rw [heard, serve_setWire]
  simp only [Reply.setWire, State.setWire_wirePort, again, port, sent]
  congr 2
  simp only [Reply.response]
  cases w <;> rfl

/-- The service of a frame is one event, whatever the port held of it. -/
theorem event_wireServe_setWire (w : Wire) (r : Request) (p : WirePort) (s : State) (sent : p.sent = (s.wirePort w).sent) :
    event (wireServe w r) (s.setWire w p) = event (wireServe w r) s := by
  unfold event
  rw [wireServe_setWire w r p s sent]
  cases w <;> rfl

/-- Bytes that complete no frame are held one after the other. -/
theorem wireReceive_holds (w : Wire) (rest : List Byte) : ∀ (b : Byte) (s : State), WireOpen w s →
    (∀ n, n ≤ rest.length → judgeFrame ((s.wirePort w).buf ++ b :: rest.take n) = .truncated) →
      wireReceive w (b :: rest) s
        = s.setWire w
          ⟨.receiving, (s.wirePort w).buf ++ b :: rest, some (s.now + gapTime), false, (s.wirePort w).sent⟩ := by
  induction rest with
  | nil =>
    intro b s h holds
    have judged : judgeFrame ((s.wirePort w).buf ++ [b]) = .truncated := holds 0 le_rfl
    rw [wireReceive_cons, wireReceive_nil, wireByte_open w b s h, judged]
  | cons c rest ih =>
    intro b s h holds
    let held : State :=
      s.setWire w ⟨.receiving, (s.wirePort w).buf ++ [b], some (s.now + gapTime), false, (s.wirePort w).sent⟩
    have first : wireByte w s b = held := by
      have judged : judgeFrame ((s.wirePort w).buf ++ [b]) = .truncated := holds 0 (Nat.zero_le _)
      rw [wireByte_open w b s h, judged]
    have port : held.wirePort w
        = ⟨.receiving, (s.wirePort w).buf ++ [b], some (s.now + gapTime), false, (s.wirePort w).sent⟩ :=
      State.setWire_wirePort _ _ _
    have stays : WireOpen w held := by
      refine ⟨by simpa [held] using h.1, ?_⟩
      rw [port]
      exact ⟨nofun, nofun, rfl⟩
    have now : held.now = s.now := State.setWire_now _ _ _
    have again (q : WirePort) : held.setWire w q = s.setWire w q := by cases w <;> rfl
    have later := ih c held stays (fun n le => by
      have judged := holds (n + 1) (by simpa using le)
      rw [port]
      simpa using judged)
    rw [wireReceive_cons, first, later, port, now, again]
    simp

/-- What a whole frame's bytes are before its last one: no frame yet. -/
theorem judgeFrame_prefix (kind tag : Byte) {p : List Byte} (h : p.length ≤ 56) {n : Nat} (short : n < p.length + 4) :
    judgeFrame ((frame kind tag p).take n) = .truncated := by
  have len := lengthByte_toNat h
  rw [frame_eq]
  match n with
  | 0 => rfl
  | 1 => rfl
  | 2 => rfl
  | n + 3 =>
    refine judgeFrame_truncated (by omega) ?_
    simp
    omega

/-- Settles O16: the bytes before the last one are held, and the last one completes the request. -/
theorem frameOfARowIsTheRow : Obligations.FrameOfARowIsTheRow := by
  intro k w dt tag p s h empty length
  let u : State := s.elapse dt
  have open_ : WireOpen w u := h.elapse dt
  have idle : (u.wirePort w).buf = [] := by cases w <;> exact empty
  have parts : ∃ b rest last, frame k.byte tag p = (b :: rest) ++ [last] ∧ rest.length = p.length + 2 :=
    ⟨k.byte, tag :: BitVec.ofNat 8 p.length :: p, _, rfl, by simp⟩
  obtain ⟨b, rest, last, e, size⟩ := parts
  let held : State := u.setWire w ⟨.receiving, b :: rest, some (u.now + gapTime), false, (u.wirePort w).sent⟩
  have holds : wireReceive w (b :: rest) u = held := by
    rw [wireReceive_holds w rest b u open_ (fun n le => ?_), idle]
    · rfl
    · have judged := judgeFrame_prefix k.byte tag length (n := n + 1) (by omega)
      rw [e, List.take_append_of_le_length (by simp; omega)] at judged
      rw [idle]
      exact judged
  have port : held.wirePort w = ⟨.receiving, b :: rest, some (u.now + gapTime), false, (u.wirePort w).sent⟩ :=
    State.setWire_wirePort _ _ _
  have stays : WireOpen w held := by
    refine ⟨by simpa [held] using open_.1, ?_⟩
    rw [port]
    exact ⟨nofun, nofun, rfl⟩
  have received : exec (.frameArrival dt w (frame k.byte tag p)) s
      = .next (event (wireServe w ⟨k.byte, tag, p⟩) u) := by
    change execFrameArrival dt w (frame k.byte tag p) s = _
    have awake : (s.elapse dt).pwr.awake = true := h.1
    unfold execFrameArrival
    dsimp only
    rw [if_pos awake, e, wireReceive_append, holds, wireReceive_cons, wireReceive_nil, wireByte_open w last held stays, port]
    dsimp only
    rw [← e, judgeFrame_frame _ _ length]
    dsimp only
    exact congrArg Host.Outcome.next (event_wireServe_setWire w _ _ u rfl)
  rw [received, exec_row_wire k w dt tag p h length]

/-! ## FRAME_ARRIVAL and the wire's timers (09 R160 to R162) -/

/-- A service on a wire neither wakes the part nor sends it to SHELF. -/
theorem serve_awake (x : Wire) (r : Request) (s : State) : (serve (wireLink x) r s).st.pwr.awake = s.pwr.awake := by
  have takes (t : State) : (requestCharge t).pwr.awake = t.pwr.awake := by
    have selects (u : State) : (entrySelection u).pwr = u.pwr := by
      obtain ⟨_, _, _, _, _, e⟩ := entrySelection_byCharger u
      rw [e]
    rcases requestCharge_cases t with ⟨-, e⟩ | ⟨-, e⟩ | ⟨-, e⟩ <;> rw [e]
    · rw [selects, stopDeepTimer_pwr, cancelShelf_pwr]
    · simp
  have accepts (c : Capability) (t : State) : (acceptHello c t).pwr.awake = t.pwr.awake := by
    unfold acceptHello
    split
    · rw [takes, reformOrder_pwr]
    · rw [reformOrder_pwr]
  have claims (a : Arbiter) : (recompute { s with arb := a }).pwr = s.pwr := recompute_pwr _
  unfold serve
  split
  · rfl
  split
  · rfl
  · rename_i k _ _ passed
    have allowed := (portRefusal_none passed).1
    cases k with
    | ident => rfl
    | readRec => exact congrArg (fun t : State => t.pwr.awake) (serveReadRec_st r.payload s)
    | clearNote =>
      change (serveClearNote _ _ s).st.pwr.awake = _
      unfold serveClearNote
      split
      · split <;> rfl
      · rfl
    | claimPush =>
      change (serveClaimPush _ _ s).st.pwr.awake = _
      unfold serveClaimPush pushBrushClaim pushSuctionClaim
      repeat' split
      all_goals first | rfl | exact congrArg Power.awake (claims _)
    | claimPop =>
      change (serveClaimPop _ _ s).st.pwr.awake = _
      unfold serveClaimPop popBrushClaim popSuctionClaim
      repeat' split
      all_goals first | rfl | exact congrArg Power.awake (claims _)
    | claimReplace =>
      change (serveClaimReplace _ _ s).st.pwr.awake = _
      unfold serveClaimReplace replaceBrushClaim replaceSuctionClaim
      repeat' split
      all_goals first | rfl | exact congrArg Power.awake (claims _)
    | claimDrop =>
      change (serveClaimDrop _ s).st.pwr.awake = _
      unfold serveClaimDrop
      split <;> exact congrArg Power.awake (claims _)
    | binMeasure =>
      change (serveBinMeasure s).st.pwr.awake = _
      unfold serveBinMeasure
      split
      · rfl
      split <;> rfl
    | headHello =>
      change (serveHeadHello _ s).st.pwr.awake = _
      have again (old new : HeadInfo) : (headAgain old new s).pwr = s.pwr := by
        unfold headAgain
        extract_lets f h t
        split
        · rfl
        · exact recompute_pwr t
      unfold serveHeadHello
      split
      · dsimp only
        split
        · split
          · exact congrArg Power.awake (recompute_pwr _)
          · exact congrArg Power.awake (again _ _)
        · rfl
      · rfl
    | floorReport =>
      change (serveFloorReport _ s).st.pwr.awake = _
      unfold serveFloorReport
      repeat' split
      all_goals simp [floorReply, refuse]
    | dockHello =>
      change (serveDockHello _ s).st.pwr.awake = _
      unfold serveDockHello
      split
      · split
        · rfl
        split
        · rfl
        · exact accepts _ s
      · rfl
    | orderRead =>
      change (serveOrderRead s).st.pwr.awake = _
      unfold serveOrderRead
      split <;> rfl
    | _ => cases x <;> cases allowed

theorem wireByte_awake (w : Wire) (b : Byte) (s : State) : (wireByte w s b).pwr.awake = s.pwr.awake := by
  have serves (r : Request) : (event (wireServe w r) s).pwr.awake = s.pwr.awake := by
    rw [event_pwr]
    unfold wireServe
    dsimp only
    rw [State.setWire_pwr, serve_awake, hear_pwr]
  unfold wireByte
  dsimp only
  split
  · rfl
  split
  · exact congrArg Power.awake (State.setWire_pwr _ _ _)
  split
  · exact serves _
  · exact congrArg Power.awake (State.setWire_pwr _ _ _)
  · exact congrArg Power.awake (State.setWire_pwr _ _ _)
  · exact congrArg Power.awake (State.setWire_pwr _ _ _)

theorem wireReceive_awake (w : Wire) (bytes : List Byte) (s : State) :
    (wireReceive w bytes s).pwr.awake = s.pwr.awake := by
  induction bytes generalizing s with
  | nil => rfl
  | cons b rest ih => rw [wireReceive_cons, ih, wireByte_awake]

/-- A port that serves loses every byte. -/
theorem wireReceive_serving (w : Wire) (bytes : List Byte) (s : State)
    (h : (s.wirePort w).slot = .serving ∨ (s.wirePort w).slot = .answerReady) : wireReceive w bytes s = s := by
  induction bytes with
  | nil => rfl
  | cons b rest ih => rw [wireReceive_cons, wireByte_serving w b s h, ih]

theorem elapse_wirePort (w : Wire) (s : State) (dt : Nat) : (s.elapse dt).wirePort w = s.wirePort w := by cases w <;> rfl

/-- While AWAKE the bytes are received, in SHELF they are lost. -/
theorem exec_frameArrival (dt : Nat) (w : Wire) (bytes : List Byte) (s : State) :
    exec (.frameArrival dt w bytes) s
      = .next (if s.pwr.awake then wireReceive w bytes (s.elapse dt) else s.elapse dt) := by
  change execFrameArrival dt w bytes s = _
  unfold execFrameArrival
  dsimp only
  rw [State.elapse_pwr]
  split <;> rfl

/-- How the bytes at a port are judged one by one, on an open port. -/
theorem exec_frameArrival_open {w : Wire} {s : State} (h : WireOpen w s) (dt : Nat) (b : Byte) :
    exec (.frameArrival dt w [b]) s
      = .next
        (match judgeFrame ((s.wirePort w).buf ++ [b]) with
        | .intact r => event (wireServe w r) (s.elapse dt)
        | .corrupt => wireIdle w (s.elapse dt)
        | .tooLong => wireDiscard w (s.elapse dt)
        | .truncated =>
          (s.elapse dt).setWire w
            ⟨.receiving, (s.wirePort w).buf ++ [b], some (s.now + dt + gapTime), false, (s.wirePort w).sent⟩) := by
  rw [exec_frameArrival, if_pos h.1, wireReceive_cons, wireReceive_nil, wireByte_open w b _ (h.elapse dt), elapse_wirePort]
  rfl

/-- Settles O19: the judgement by the third byte and the CRC, then byte by byte what an open, a serving and a discarding port do. -/
theorem wireFramesAreJudged : Obligations.WireFramesAreJudged := by
  refine ⟨fun bytes short => judgeFrame_short short, fun kind tag len rest => ⟨judgeFrame_tooLong, judgeFrame_truncated,
    fun bound length => ?_⟩, fun w dt s => ⟨?_, ?_, ?_, ?_, ?_, ?_, ?_, ?_, ?_, ?_, ?_⟩⟩
  · rw [judgeFrame_whole bound length]
    exact ⟨fun fits => if_pos fits, fun odd => if_neg odd⟩
  · intro lost bytes
    rw [exec_frameArrival]
    split
    · rename_i awake
      rw [wireReceive_serving]
      rw [elapse_wirePort]
      exact lost.resolve_left (by simp [awake])
    · rfl
  · rw [exec_frameArrival, wireReceive_nil, ite_self]
  · intro a b
    refine ⟨_, exec_frameArrival dt w a s, ?_⟩
    rw [exec_frameArrival, exec_frameArrival]
    by_cases awake : s.pwr.awake = true
    · have stays : (wireReceive w a (s.elapse dt)).pwr.awake = true := by rw [wireReceive_awake]; exact awake
      rw [if_pos awake, if_pos awake, if_pos stays, wireReceive_append]
      rfl
    · have sleeps : ¬(s.elapse dt).pwr.awake = true := awake
      rw [if_neg awake, if_neg awake, if_neg sleeps]
      rfl
  · intro awake serving ready discarding b
    have lost : ¬(((s.elapse dt).wirePort w).slot = .serving ∨ ((s.elapse dt).wirePort w).slot = .answerReady) := by
      rw [elapse_wirePort]; exact not_or.2 ⟨serving, ready⟩
    have drops : ((s.elapse dt).wirePort w).discarding = true := by rw [elapse_wirePort]; exact discarding
    rw [exec_frameArrival, if_pos awake, wireReceive_cons, wireReceive_nil]
    unfold wireByte
    dsimp only
    rw [if_neg lost, if_pos drops]
    cases w <;> rfl
  · intro h b
    refine ⟨fun e => ?_, fun e => ?_, fun e => ?_, fun r e => ?_⟩
    · rw [exec_frameArrival_open h, e]; rfl
    · rw [exec_frameArrival_open h, e]; rfl
    · rw [exec_frameArrival_open h, e]; rfl
    · refine ⟨_, exec_frameArrival_open h dt b, ?_, fun unknown => ?_⟩
      · simp only [e]
        rfl
      · unfold serve
        rw [unknown]
        rfl
  · intro awake idle
    have starts : ((s.elapse dt).pwr.awake && ((s.elapse dt).wirePort w).slot == .idle) = true := by
      rw [elapse_wirePort, idle, State.elapse_pwr, awake]; rfl
    change execFrameStartBit dt w s = _
    unfold execFrameStartBit
    dsimp only
    rw [if_pos starts]
    cases w <;> rfl
  · intro closed
    have stays : ¬((s.elapse dt).pwr.awake && ((s.elapse dt).wirePort w).slot == .idle) = true := by
      rw [elapse_wirePort, State.elapse_pwr]
      rcases closed with sleeps | busy
      · simp [sleeps]
      · simp [busy]
    change execFrameStartBit dt w s = _
    unfold execFrameStartBit
    dsimp only
    rw [if_neg stays]
  · intro d gap
    change execGapTimerExpiry dt w s = _
    unfold execGapTimerExpiry
    dsimp only
    rw [elapse_wirePort, gap]
    cases w <;> rfl
  · intro gap
    change execGapTimerExpiry dt w s = _
    unfold execGapTimerExpiry
    dsimp only
    rw [elapse_wirePort, gap]
  · intro serving
    change execResponseDelivered dt w s = _
    unfold execResponseDelivered
    dsimp only
    rw [elapse_wirePort, if_pos serving]
    cases w <;> rfl
  · intro idle
    change execResponseDelivered dt w s = _
    unfold execResponseDelivered
    dsimp only
    rw [elapse_wirePort, if_neg idle]

/-! ## Handle transactions (09 R163 to R165) -/

/-- The delivery of a response changes the entry's mark alone. -/
theorem shelfDelivered_eq (s : State) :
    shelfDelivered s = { s with pwr := { s.pwr with entry := (shelfDelivered s).pwr.entry } } := by
  unfold shelfDelivered
  split <;> rfl

theorem event_shelfDelivered (s : State) :
    event shelfDelivered s
      = { s with
          pwr := { s.pwr with entry := (shelfDelivered s).pwr.entry }, gens := (event shelfDelivered s).gens } := by
  have switches : (shelfDelivered s).switches = s.switches := by rw [shelfDelivered_eq]; rfl
  have noted := event_eq switches
  rw [noted]
  dsimp only
  rw [shelfDelivered_eq]

/-- The outgoing side before the delivery that its last byte makes. -/
def State.shifted (s : State) (n : Nat) : State :=
  { s with ports := { s.ports with handle := { s.ports.handle with sdo := outgoing s.ports.handle n } } }

theorem shiftOut_delivers {n : Nat} {s : State} (h : s.ports.handle.slot = .answerReady ∧ s.ports.handle.buf.length < n) :
    shiftOut n s
      = event shelfDelivered
        { s.shifted n with
          ports := { s.ports with handle := ⟨.idle, [], s.ports.handle.queue, outgoing s.ports.handle n⟩ } } := if_pos h

theorem shiftOut_keeps {n : Nat} {s : State} (h : ¬(s.ports.handle.slot = .answerReady ∧ s.ports.handle.buf.length < n)) :
    shiftOut n s = s.shifted n := if_neg h

/-- A transaction that carries no request is its outgoing side. -/
theorem shiftIn_nothing {mosi : List Byte} (s : State)
    (h : mosi = [] ∨ mosi.head? = some 0 ∨ ∀ r, judgeFrame (mosi.take 64) ≠ .intact r) : shiftIn mosi s = s := by
  unfold shiftIn
  split
  · rfl
  · rename_i first rest
    split
    · rfl
    · rename_i live
      rcases h with e | e | none_
      · cases e
      · exact absurd (Option.some.inj e) live
      · split
        · rename_i r e; exact absurd e (none_ r)
        · rfl

theorem exec_handleTransaction {s : State} (awake : s.pwr.awake = true) (dt : Nat) (mosi : List Byte) :
    exec (.handleTransaction dt mosi) s = .next (shiftIn mosi (shiftOut mosi.length (s.elapse dt))) := if_pos awake

/-- Settles O20: a transaction without a request shifts out, and delivers where its last byte goes. -/
theorem handleFetch : Obligations.HandleFetch := by
  intro dt mosi s awake nothing
  refine ⟨_, exec_handleTransaction awake dt mosi, ?_⟩
  rw [shiftIn_nothing _ nothing]
  have bytes : outgoing (s.elapse dt).ports.handle mosi.length
      = if s.ports.handle.slot = .answerReady
        then (0xA5#8 :: s.ports.handle.buf ++ List.replicate mosi.length 0#8).take mosi.length
        else (0x5A#8 :: List.replicate mosi.length 0#8).take mosi.length := rfl
  by_cases delivers : s.ports.handle.slot = .answerReady ∧ s.ports.handle.buf.length < mosi.length
  · have e := shiftOut_delivers (s := s.elapse dt) delivers
    rw [event_shelfDelivered] at e
    rw [e]
    refine ⟨bytes, fun _ _ => ⟨rfl, rfl, fun d entry => ?_⟩, fun other => ?_, fun keeps => absurd delivers keeps, rfl⟩
    · have marks : ∀ u : State, u.pwr.entry = .request d → (shelfDelivered u).pwr.entry = .request true := by
        intro u entry
        unfold shelfDelivered
        rw [entry]
      exact marks _ entry
    · have stands : ∀ u : State, (∀ d, u.pwr.entry ≠ .request d) → (shelfDelivered u).pwr.entry = u.pwr.entry := by
        intro u other
        unfold shelfDelivered
        split
        · rename_i d entry; exact absurd entry (other d)
        · rfl
      dsimp only
      rw [stands]
      · rfl
      · exact other
  · rw [shiftOut_keeps (s := s.elapse dt) delivers]
    exact ⟨bytes, fun slot short => absurd ⟨slot, short⟩ delivers, fun _ => rfl, fun _ => ⟨rfl, rfl, rfl⟩, rfl⟩

/-- An intact request of a transaction arrives. -/
theorem shiftIn_intact {mosi : List Byte} {r : Request} (s : State) (live : mosi.head? ≠ some 0)
    (intact : judgeFrame (mosi.take 64) = .intact r) : shiftIn mosi s = handleArrive r s := by
  unfold shiftIn
  split
  · cases intact
  · rename_i first rest
    rw [if_neg (fun zero => live (by rw [zero]; rfl)), intact]

/-- After a transaction's outgoing side the port serves exactly where it served before. -/
theorem shiftOut_serving (n : Nat) (s : State) :
    (shiftOut n s).ports.handle.slot = .serving ↔ s.ports.handle.slot = .serving := by
  by_cases delivers : s.ports.handle.slot = .answerReady ∧ s.ports.handle.buf.length < n
  · rw [shiftOut_delivers delivers, event_shelfDelivered]
    simp [delivers.1]
  · rw [shiftOut_keeps delivers]
    rfl

/-- Settles O21: the outgoing side first, then the arrival; a port that serves lets the request wait. -/
theorem handleRequests : Obligations.HandleRequests := by
  intro dt s awake
  refine ⟨?_, ?_, ?_, ?_, ?_⟩
  · intro mosi r live intact idle
    refine ⟨_, event (handleServe r) (event replaceAnswer (shiftOut mosi.length (s.elapse dt))), rfl, ?_, rfl⟩
    have open_ : ¬(shiftOut mosi.length (s.elapse dt)).ports.handle.slot = .serving := by
      rw [shiftOut_serving]; exact idle
    rw [exec_handleTransaction awake, shiftIn_intact _ live intact]
    unfold handleArrive
    rw [if_neg open_]
  · intro mosi r live intact serving
    have busy : (shiftOut mosi.length (s.elapse dt)).ports.handle.slot = .serving := by
      rw [shiftOut_serving]; exact serving
    have keeps : ¬((s.elapse dt).ports.handle.slot = .answerReady ∧ (s.elapse dt).ports.handle.buf.length < mosi.length) :=
      fun h => absurd (serving.symm.trans h.1) (by decide)
    have ready : ¬s.ports.handle.slot = .answerReady := fun h => absurd (serving.symm.trans h) (by decide)
    rw [exec_handleTransaction awake, shiftIn_intact _ live intact]
    unfold handleArrive
    rw [if_pos busy, shiftOut_keeps keeps]
    have out : outgoing (s.elapse dt).ports.handle mosi.length =
        (0x5A#8 :: List.replicate mosi.length 0#8).take mosi.length := if_neg ready
    unfold State.shifted
    rw [out]
    rfl
  · intro serving empty
    have answers : ((s.elapse dt).pwr.awake && (s.elapse dt).ports.handle.slot == .serving) = true := by
      simp [awake, serving]
    change execHandleAnswerReady dt s = _
    unfold execHandleAnswerReady
    dsimp only
    rw [if_pos answers]
    unfold answerReady
    dsimp only
    rw [State.elapse_ports, empty]
  · intro r rest serving waits
    have answers : ((s.elapse dt).pwr.awake && (s.elapse dt).ports.handle.slot == .serving) = true := by
      simp [awake, serving]
    refine ⟨_, event (handleServe r) (event replaceAnswer { s.elapse dt with
      ports := { s.ports with handle := { s.ports.handle with slot := .answerReady, queue := rest } } }), rfl, ?_, rfl⟩
    change execHandleAnswerReady dt s = _
    unfold execHandleAnswerReady
    dsimp only
    rw [if_pos answers]
    unfold answerReady
    dsimp only
    rw [State.elapse_ports, waits]
    rfl
  · intro idle
    have stays : ¬((s.elapse dt).pwr.awake && (s.elapse dt).ports.handle.slot == .serving) = true := by
      simp [idle]
    change execHandleAnswerReady dt s = _
    unfold execHandleAnswerReady
    dsimp only
    rw [if_neg stays]

end Sys2Proof.Machine
end

section
/-! PROOFS. The requests of the claim stacks (03, section 3.2), of the bin gauge (06), and of the floor head (05), each
served at an open port. -/

namespace Sys2Proof.Machine

/-! ## A request that its owner serves -/

/-- A request other than READ_REC and WRITE_SET, of a permitted kind, with its length, from a PRESENT head where it must be, is
served by its owner. -/
theorem row_served {k : ReqKind} {link : Link} {dt : Nat} {tag : Byte} {p : List Byte} {s x : State} {c : Status} {d : List Byte}
    (h : PortOpen link s) (allowed : permitted link k = true)
    (plain : k ≠ .readRec ∧ k ≠ .writeSet ∧ k ≠ .softReset)
    (present : link = .wand → s.head.info.isSome = true ∨ k = .ident ∨ k = .headHello) (length : lengthOk k p = true)
    (owned : ownerServe k link p (s.arrived link dt) = ⟨x, c, d⟩)
    (switches : x.switches = (s.arrived link dt).switches) :
    ∃ t, exec (k.row dt link tag p) s = .next t ∧ SameButGens t (x.answers link tag c d) := by
  obtain ⟨reads, writes, resets⟩ := plain
  have setting : settingRefusal k p = none := by
    unfold settingRefusal
    split
    · exact absurd rfl writes
    · rfl
  have short : p.length ≤ 56 := by
    cases k with
    | readRec => exact absurd rfl reads
    | writeSet => exact absurd rfl writes
    | _ =>
      simp only [lengthOk, beq_iff_eq] at length
      omega
  exact row_owned h short (fun reset => absurd reset resets)
    (portRefusal_passes allowed (fun record => absurd record reads) (by rw [arrived_info]; exact present) length setting)
    owned switches

/-! ## Kinds and values of claims -/

theorem claimKind_named {brush : Bool} {kind : Byte} {value : Nat} {k : ClaimKind} (h : ClaimNamed brush kind value k) :
    claimKind brush kind value = some k := by
  obtain ⟨bound, named⟩ := h
  unfold claimKind
  rw [if_neg (by omega)]
  rcases named with ⟨rfl, rfl⟩ | ⟨rfl, rfl, rfl⟩ | ⟨rfl, rfl⟩ <;> rfl

/-- A brush LEVEL above the rating is held at it; the clamped kinds are LEVELs. -/
theorem clampToRating_named {kind : Byte} {value : Nat} {k : ClaimKind} (rating : Nat) (h : ClaimNamed true kind value k) :
    clampToRating rating k
      = (if decide (kind = 0 ∧ rating < value) = true then .level rating else k, decide (kind = 0 ∧ rating < value)) := by
  obtain ⟨-, ⟨rfl, rfl⟩ | ⟨-, no, -⟩ | ⟨rfl, rfl⟩⟩ := h
  · by_cases above : rating < value <;> simp [clampToRating, above]
  · cases no
  · simp [clampToRating]

/-! ## The claim requests (03, section 3.2) -/

/-- A recomputation of a state that an arrival and a change of the arbiter's stacks leave moves no switch. -/
theorem recompute_switches (s : State) : (recompute s).switches = s.switches := by
  simp [State.switches, State.men, State.chgg, State.formGrants]

/-- A request of the suction stack or the brush stack, served. -/
theorem claim_served {k : ReqKind} {link : Link} {dt : Nat} {tag : Byte} {p : List Byte} {s : State} {a : Arbiter} {c : Status}
    {d : State → List Byte} (h : PortOpen link s) (kind : k = .claimPush ∨ k = .claimPop ∨ k = .claimReplace ∨ k = .claimDrop)
    (links : link ≠ .dock) (present : link = .wand → s.head.info.isSome = true) (length : lengthOk k p = true)
    (path : a.path = s.arb.path)
    (owned : ownerServe k link p (s.arrived link dt)
      = ⟨recompute { s.arrived link dt with arb := a }, c, d (recompute { s.arrived link dt with arb := a })⟩) :
    ∃ t, exec (k.row dt link tag p) s = .next t
      ∧ SameButGens t ((recompute { s.arrived link dt with arb := a }).answers link tag c
          (d (recompute { s.arrived link dt with arb := a }))) := by
  refine row_served h ?_ ?_ (fun wand => Or.inl (present wand)) length owned ?_
  · cases link with
    | dock => exact absurd rfl links
    | _ => rcases kind with rfl | rfl | rfl | rfl <;> rfl
  · rcases kind with rfl | rfl | rfl | rfl <;> decide
  · rw [recompute_switches]
    simp [State.switches, State.men, State.chgg, path]

/-- The rating that clamps a brush claim is the PRESENT head's. -/
theorem arrived_rating {s : State} {head : HeadInfo} (present : s.head.info = some head) (link : Link) (dt : Nat) :
    (s.arrived link dt).rating = head.rating := by
  unfold State.rating
  rw [arrived_info, present]
  rfl

/-- Settles O31: the two pushes. -/
theorem claimPushed : Obligations.ClaimPushed := by
  intro kind lo hi label k i rest dt tag s free
  refine ⟨fun h named room => ?_, fun head h present named room => ?_⟩
  · refine claim_served (link := .handle) (k := .claimPush) h (Or.inl rfl) nofun nofun rfl rfl
      (d := fun r => u8 i.val ++ u8 (s.arb.suction.length + 1) ++ u16 r.arb.gs) ?_
    change pushSuctionClaim kind (word lo hi) label (s.arrived .handle dt) = _
    unfold pushSuctionClaim
    rw [claimKind_named named]
    dsimp only
    rw [arrived_settings, arrived_arb, if_neg (by omega), free]
    dsimp only
    unfold suctionReply Arbiter.pushSuction
    rw [free]
    simp [State.formGrants]
  · refine claim_served (link := .wand) (k := .claimPush) h (Or.inl rfl) nofun (fun _ => by rw [present]; rfl) rfl rfl
      (d := fun r => u8 i.val ++ u8 (s.arb.brush.length + 1) ++ u16 r.arb.gh) ?_
    change pushBrushClaim kind (word lo hi) label (s.arrived .wand dt) = _
    unfold pushBrushClaim
    rw [claimKind_named named]
    dsimp only
    rw [arrived_settings, arrived_arb, if_neg (by omega), free]
    dsimp only
    rw [arrived_rating present, clampToRating_named head.rating named]
    unfold brushReply Arbiter.pushBrush okOrClamped
    rw [free]
    simp [State.formGrants]

/-- Settles O32: the pops and the drops. -/
theorem claimsReleased : Obligations.ClaimsReleased := by
  refine ⟨fun c rest dt tag s => ⟨fun h top => ?_, fun h present top => ?_⟩, fun dt tag s => ⟨fun h => ?_, fun h present => ?_⟩⟩
  · refine claim_served (link := .handle) (k := .claimPop) h (Or.inr (Or.inl rfl)) nofun nofun rfl rfl
      (d := fun r => u8 c.index.val ++ u8 rest.length ++ u16 r.arb.gs) ?_
    change popSuctionClaim c.label (s.arrived .handle dt) = _
    unfold popSuctionClaim
    rw [arrived_arb, top]
    dsimp only
    rw [if_pos rfl]
    unfold suctionReply Arbiter.popSuction
    rw [top]
    simp [State.formGrants]
  · refine claim_served (link := .wand) (k := .claimPop) h (Or.inr (Or.inl rfl)) nofun (fun _ => present) rfl rfl
      (d := fun r => u8 c.index.val ++ u8 rest.length ++ u16 r.arb.gh) ?_
    change popBrushClaim c.label (s.arrived .wand dt) = _
    unfold popBrushClaim
    rw [arrived_arb, top]
    dsimp only
    rw [if_pos rfl]
    unfold brushReply Arbiter.popBrush
    rw [top]
    simp [State.formGrants]
  · refine claim_served (link := .handle) (k := .claimDrop) h (Or.inr (Or.inr (Or.inr rfl))) nofun nofun rfl rfl
      (d := fun r => 0#8 :: u16 r.arb.gs) ?_
    change serveClaimDrop .handle (s.arrived .handle dt) = _
    unfold serveClaimDrop Arbiter.dropSuction
    simp [State.formGrants, u8]
  · refine claim_served (link := .wand) (k := .claimDrop) h (Or.inr (Or.inr (Or.inr rfl))) nofun (fun _ => present) rfl rfl
      (d := fun r => 0#8 :: u16 r.arb.gh) ?_
    change serveClaimDrop .wand (s.arrived .wand dt) = _
    unfold serveClaimDrop Arbiter.dropBrush
    simp [State.formGrants, u8]

/-- Settles O33: the two replaces. -/
theorem claimReplaced : Obligations.ClaimReplaced := by
  intro kind lo hi k c rest dt tag s
  refine ⟨fun h named top => ?_, fun head h present named top => ?_⟩
  · refine claim_served (link := .handle) (k := .claimReplace) h (Or.inr (Or.inr (Or.inl rfl))) nofun nofun rfl rfl
      (d := fun r => u8 c.index.val ++ u8 (rest.length + 1) ++ u16 r.arb.gs) ?_
    change replaceSuctionClaim kind (word lo hi) c.label (s.arrived .handle dt) = _
    unfold replaceSuctionClaim
    rw [claimKind_named named]
    dsimp only
    rw [arrived_arb, top]
    dsimp only
    rw [if_pos rfl]
    unfold suctionReply Arbiter.replaceSuction
    rw [top]
    simp [State.formGrants]
  · refine claim_served (link := .wand) (k := .claimReplace) h (Or.inr (Or.inr (Or.inl rfl))) nofun
      (fun _ => by rw [present]; rfl) rfl rfl (d := fun r => u8 c.index.val ++ u8 (rest.length + 1) ++ u16 r.arb.gh) ?_
    change replaceBrushClaim kind (word lo hi) c.label (s.arrived .wand dt) = _
    unfold replaceBrushClaim
    rw [claimKind_named named]
    dsimp only
    rw [arrived_arb, top]
    dsimp only
    rw [if_pos rfl, arrived_rating present, clampToRating_named head.rating named]
    unfold brushReply Arbiter.replaceBrush okOrClamped
    rw [top]
    simp [State.formGrants]

/-- A claim request refused changes nothing. -/
theorem claim_refused {k : ReqKind} {link : Link} {dt : Nat} {tag : Byte} {p : List Byte} {s : State} {c : Status}
    (h : PortOpen link s) (kind : k = .claimPush ∨ k = .claimPop ∨ k = .claimReplace ∨ k = .claimDrop)
    (links : link ≠ .dock) (present : link = .wand → s.head.info.isSome = true) (length : lengthOk k p = true)
    (owned : ownerServe k link p (s.arrived link dt) = refuse (s.arrived link dt) c) :
    ∃ t, exec (k.row dt link tag p) s = .next t ∧ SameButGens t ((s.arrived link dt).answers link tag c []) := by
  refine row_served h ?_ ?_ (fun wand => Or.inl (present wand)) length owned rfl
  · cases link with
    | dock => exact absurd rfl links
    | _ => rcases kind with rfl | rfl | rfl | rfl <;> rfl
  · rcases kind with rfl | rfl | rfl | rfl <;> decide

/-- A kind and a value name a claim of the suction stack exactly where the request's check passes. -/
theorem claimKind_suction (kind : Byte) (value : Nat) :
    (claimKind false kind value).isSome = true ↔ kind.toNat ≤ 2 ∧ value ≤ 600 := by
  unfold claimKind
  split
  · rename_i above
    simp only [Option.isSome_none, Bool.false_eq_true, false_iff]
    omega
  · split
    · simp_all
    · simp_all
    · simp_all
    · simp_all
      omega

/-- On the brush stack a CURVE names no claim. -/
theorem claimKind_brush (kind : Byte) (value : Nat) :
    (claimKind true kind value).isSome = true ↔ (kind = 0 ∨ kind = 2) ∧ value ≤ 600 := by
  have zero : kind = 0 ↔ kind.toNat = 0 := BitVec.toNat_inj.symm
  have two : kind = 2 ↔ kind.toNat = 2 := BitVec.toNat_inj.symm
  rw [zero, two]
  unfold claimKind
  split
  · rename_i above
    simp only [Option.isSome_none, Bool.false_eq_true, false_iff]
    omega
  · split
    · simp_all
    · simp_all
    · simp_all
    · simp_all

/-- Settles O34: the refusals of either stack. -/
theorem claimsRefused : Obligations.ClaimsRefused := by
  intro kind lo hi label dt tag s
  refine ⟨fun h => ?_, fun h present => ?_⟩
  · have push {c : Status} (owned : pushSuctionClaim kind (word lo hi) label (s.arrived .handle dt)
        = refuse (s.arrived .handle dt) c) :=
      claim_refused (link := .handle) (k := .claimPush) (p := [kind, lo, hi, label]) (tag := tag) h (Or.inl rfl) nofun nofun
        rfl owned
    have pop {c : Status} (owned : popSuctionClaim label (s.arrived .handle dt) = refuse (s.arrived .handle dt) c) :=
      claim_refused (link := .handle) (k := .claimPop) (p := [label]) (tag := tag) h (Or.inr (Or.inl rfl)) nofun nofun rfl owned
    have replace {c : Status} (owned : replaceSuctionClaim kind (word lo hi) label (s.arrived .handle dt)
        = refuse (s.arrived .handle dt) c) :=
      claim_refused (link := .handle) (k := .claimReplace) (p := [kind, lo, hi, label]) (tag := tag) h
        (Or.inr (Or.inr (Or.inl rfl))) nofun nofun rfl owned
    intro refused pushing popping replacing valid
    have names (h : valid) : ∃ k, claimKind false kind (word lo hi) = some k :=
      Option.isSome_iff_exists.1 ((claimKind_suction kind (word lo hi)).2 h)
    refine ⟨fun bad => ?_, fun good full => ?_, fun good room used => ?_, fun nothing => ⟨?_, fun good => ?_⟩,
      fun c rest top other => ⟨?_, fun good => ?_⟩⟩
    · have none_ : claimKind false kind (word lo hi) = none := by
        rw [← Option.not_isSome_iff_eq_none, claimKind_suction]
        exact bad
      exact ⟨push (by unfold pushSuctionClaim; rw [none_]), replace (by unfold replaceSuctionClaim; rw [none_])⟩
    · obtain ⟨k, named⟩ := names good
      exact push (by unfold pushSuctionClaim; rw [named]; dsimp only; rw [arrived_settings, arrived_arb, if_pos full])
    · obtain ⟨k, named⟩ := names good
      refine push ?_
      unfold pushSuctionClaim
      rw [named]
      dsimp only
      rw [arrived_settings, arrived_arb, if_neg (by omega), used]
    · exact pop (by unfold popSuctionClaim; rw [arrived_arb, nothing])
    · obtain ⟨k, named⟩ := names good
      exact replace (by unfold replaceSuctionClaim; rw [named]; dsimp only; rw [arrived_arb, nothing])
    · exact pop (by unfold popSuctionClaim; rw [arrived_arb, top]; exact if_neg other)
    · obtain ⟨k, named⟩ := names good
      exact replace (by unfold replaceSuctionClaim; rw [named]; dsimp only; rw [arrived_arb, top]; exact if_neg other)
  · have push {c : Status} (owned : pushBrushClaim kind (word lo hi) label (s.arrived .wand dt)
        = refuse (s.arrived .wand dt) c) :=
      claim_refused (link := .wand) (k := .claimPush) (p := [kind, lo, hi, label]) (tag := tag) h (Or.inl rfl) nofun
        (fun _ => present) rfl owned
    have pop {c : Status} (owned : popBrushClaim label (s.arrived .wand dt) = refuse (s.arrived .wand dt) c) :=
      claim_refused (link := .wand) (k := .claimPop) (p := [label]) (tag := tag) h (Or.inr (Or.inl rfl)) nofun
        (fun _ => present) rfl owned
    have replace {c : Status} (owned : replaceBrushClaim kind (word lo hi) label (s.arrived .wand dt)
        = refuse (s.arrived .wand dt) c) :=
      claim_refused (link := .wand) (k := .claimReplace) (p := [kind, lo, hi, label]) (tag := tag) h
        (Or.inr (Or.inr (Or.inl rfl))) nofun (fun _ => present) rfl owned
    intro refused pushing popping replacing valid
    have names (h : valid) : ∃ k, claimKind true kind (word lo hi) = some k :=
      Option.isSome_iff_exists.1 ((claimKind_brush kind (word lo hi)).2 h)
    refine ⟨fun bad => ?_, fun good full => ?_, fun good room used => ?_, fun nothing => ⟨?_, fun good => ?_⟩,
      fun c rest top other => ⟨?_, fun good => ?_⟩⟩
    · have none_ : claimKind true kind (word lo hi) = none := by
        rw [← Option.not_isSome_iff_eq_none, claimKind_brush]
        exact bad
      exact ⟨push (by unfold pushBrushClaim; rw [none_]), replace (by unfold replaceBrushClaim; rw [none_])⟩
    · obtain ⟨k, named⟩ := names good
      exact push (by unfold pushBrushClaim; rw [named]; dsimp only; rw [arrived_settings, arrived_arb, if_pos full])
    · obtain ⟨k, named⟩ := names good
      refine push ?_
      unfold pushBrushClaim
      rw [named]
      dsimp only
      rw [arrived_settings, arrived_arb, if_neg (by omega), used]
    · exact pop (by unfold popBrushClaim; rw [arrived_arb, nothing])
    · obtain ⟨k, named⟩ := names good
      exact replace (by unfold replaceBrushClaim; rw [named]; dsimp only; rw [arrived_arb, nothing])
    · exact pop (by unfold popBrushClaim; rw [arrived_arb, top]; exact if_neg other)
    · obtain ⟨k, named⟩ := names good
      exact replace (by unfold replaceBrushClaim; rw [named]; dsimp only; rw [arrived_arb, top]; exact if_neg other)

/-! ## The bin gauge's requests (06 R115, R119) -/

/-- Settles O52: each request met by a measurement, a running suction or a missing bin, and accepted. -/
theorem binRequests : Obligations.BinRequests := by
  intro link dt tag s h wand number start
  have measured {x : State} {c : Status} {d : List Byte} (owned : serveBinMeasure (s.arrived link dt) = ⟨x, c, d⟩)
      (switches : x.switches = (s.arrived link dt).switches) :=
    row_served (k := .binMeasure) (tag := tag) (p := []) h (by cases link <;> [rfl; exact absurd rfl wand; rfl]) (by decide)
      (fun e => absurd e wand) rfl owned switches
  have seq : nextSeq (s.arrived link dt) = number := by unfold nextSeq; rw [arrived_bin]; rfl
  have begun : (s.arrived link dt).bin.start (s.arrived link dt).settings = { s.bin with meas := some start } := by
    rw [arrived_bin, arrived_settings]; rfl
  refine ⟨fun busy => ?_, fun free barred => ?_, fun free stopped fitted => ?_, ?_⟩
  · exact measured (by unfold serveBinMeasure; rw [arrived_bin, if_pos busy, seq]) rfl
  · refine measured ?_ rfl
    unfold serveBinMeasure
    rw [arrived_bin, arrived_suc, if_neg (by simp [free]), if_pos barred]
    rfl
  · refine measured ?_ rfl
    unfold serveBinMeasure
    rw [if_neg (by simp [free]), if_neg (by simp [stopped, fitted]), begun, seq]
  · rintro rfl
    have calibrated {x : State} {c : Status} {d : List Byte} (owned : serveBinCalEmpty (s.arrived .handle dt) = ⟨x, c, d⟩)
        (switches : x.switches = (s.arrived .handle dt).switches) :=
      row_served (k := .binCalEmpty) (tag := tag) (p := []) h rfl (by decide) nofun rfl owned switches
    refine ⟨fun busy => ?_, fun free barred => ?_, fun free stopped fitted => ?_⟩
    · exact calibrated (by unfold serveBinCalEmpty; rw [arrived_bin, if_pos busy, seq]) rfl
    · refine calibrated ?_ rfl
      unfold serveBinCalEmpty
      rw [arrived_bin, arrived_suc, if_neg (by simp [free]), if_pos barred]
      rfl
    · refine calibrated ?_ rfl
      unfold serveBinCalEmpty
      rw [if_neg (by simp [free]), if_neg (by simp [stopped, fitted]), begun, seq]

/-! ## The floor head's requests (05 R91, R92, R96) -/

/-- What HEAD_HELLO's reply says of a state. -/
def State.helloSaid (t : State) : List Byte :=
  [BitVec.ofNat 8 (if t.head.info.isSome = true then 1 else 0),
    BitVec.ofNat 8 ((t.head.info.map (·.rating)).getD 255),
    BitVec.ofNat 8 (if (t.head.info.map (·.floorSense)).getD false = true then 1 else 0),
    BitVec.ofNat 8 t.head.floor.pos, BitVec.ofNat 8 t.arb.brush.length] ++ u16 t.arb.gh

theorem helloReply_eq (t : State) (c : Status) : helloReply t c = ⟨t, c, t.helloSaid⟩ := by
  unfold helloReply State.helloSaid
  cases h : t.head.info <;> simp [u8, u8?, flags, flagValue]

/-- A frame on the wand link finds the head as it stood, with the silence timer of a PRESENT head restarted. -/
theorem atWire_head (s : State) (dt : Nat) :
    (s.atWire .wand dt).head
      = { s.head with silence := if s.head.info.isSome = true then some (s.now + dt + 200000) else s.head.silence } := by
  unfold State.atWire hear
  by_cases present : s.head.info.isSome = true
  · rw [if_pos ⟨rfl, present⟩, if_pos present]
    rfl
  · rw [if_neg (fun h => present h.2), if_neg present]
    rfl

theorem serveHeadHello_off {lo hi capability : Byte} {s : State} (off : s.head.wand = false) :
    serveHeadHello [lo, hi, capability] s = helloReply s .state := by
  unfold serveHeadHello
  simp [off]

theorem serveHeadHello_absent {lo hi capability : Byte} {s : State} (on : s.head.wand = true) (absent : s.head.info = none) :
    serveHeadHello [lo, hi, capability] s
      = helloReply (headPresent ⟨min 120 (word lo hi), capability.getLsbD 0⟩ s) (if 120 < word lo hi then .clamped else .ok) := by
  unfold serveHeadHello
  simp [on, absent, okOrClamped]

theorem serveHeadHello_again {lo hi capability : Byte} {s : State} {old : HeadInfo} (on : s.head.wand = true)
    (present : s.head.info = some old) :
    serveHeadHello [lo, hi, capability] s
      = helloReply (headAgain old ⟨min 120 (word lo hi), capability.getLsbD 0⟩ s)
          (if 120 < word lo hi then .clamped else .ok) := by
  unfold serveHeadHello
  simp [on, present, okOrClamped]

/-- A floor type is named by its place. -/
theorem floorType_pos {floor : FloorType} {b : Byte} (h : floor.pos = b.toNat) : floorType b = some floor := by
  unfold floorType
  rw [← h]
  cases floor <;> rfl

theorem floorType_named {b : Byte} (h : b.toNat ≤ 2) : ∃ floor, floorType b = some floor := by
  unfold floorType
  split
  · exact ⟨_, rfl⟩
  · exact ⟨_, rfl⟩
  · exact ⟨_, rfl⟩
  · rename_i zero one two
    have three : b.toNat = 0 ∨ b.toNat = 1 ∨ b.toNat = 2 := by omega
    rcases three with e | e | e
    · exact absurd e zero
    · exact absurd e one
    · exact absurd e two

theorem floorType_unknown {b : Byte} (h : 2 < b.toNat) : floorType b = none := by
  unfold floorType
  split
  · simp_all
  · simp_all
  · simp_all
  · rfl

/-- Settles O53: the hello by the head's presence, and the floor report by its floor and sensor. -/
theorem headRequests : Obligations.HeadRequests := by
  intro lo hi capability dt tag s h info code said heard
  have hello {x : State} {c : Status} (owned : serveHeadHello [lo, hi, capability] heard = helloReply x c)
      (switches : x.switches = heard.switches) :=
    row_served (k := .headHello) (link := .wand) (tag := tag) (p := [lo, hi, capability]) h rfl (by decide)
      (fun _ => Or.inr (Or.inr rfl)) rfl (owned.trans (helloReply_eq x c)) switches
  have head : heard.head = _ := atWire_head s dt
  have now : heard.now = s.now + dt := arrived_now s .wand dt
  have reported {b : Byte} {x : State} {c : Status} {old : HeadInfo} (present : s.head.info = some old)
      (owned : serveFloorReport [b] heard = floorReply x c) (switches : x.switches = heard.switches) :=
    row_served (k := .floorReport) (link := .wand) (tag := tag) (p := [b]) h rfl (by decide)
      (fun _ => Or.inl (by rw [present]; rfl)) rfl owned switches
  refine ⟨fun off => hello (serveHeadHello_off (by rw [head]; exact off)) rfl, fun on absent => ?_,
    fun old on present => ?_, fun old present b => ⟨fun bad => ?_, fun fits blind => ?_, fun floor named senses => ?_⟩⟩
  · intro present
    have entered : headPresent info heard = present := by
      unfold headPresent
      dsimp only [present]
      rw [head, now]
      rfl
    refine hello ((serveHeadHello_absent (by rw [head]; exact on) (by rw [head]; exact absent)).trans ?_) ?_
    · exact congrArg (helloReply · code) entered
    · refine (recompute_switches _).trans ?_
      change _ = (heard.men, heard.chgg, heard.head.wand)
      rw [head]
      rfl
  · intro floor told after
    have head : heard.head = { s.head with silence := some (s.now + dt + 200000) } := by
      rw [head, if_pos (by rw [present]; rfl)]
    have floors : (if (old.floorSense && !info.floorSense) = true then FloorType.unknown else s.head.floor) = floor := by
      simp [floor]
    have again : headAgain old info heard = after := by
      unfold headAgain
      rw [head]
      dsimp only
      rw [floors]
    refine hello ((serveHeadHello_again (by rw [head]; exact on) (by rw [head]; exact present)).trans ?_) ?_
    · exact congrArg (helloReply · code) again
    · have stands : told.switches = heard.switches := by
        change _ = (heard.men, heard.chgg, heard.head.wand)
        rw [head]
        rfl
      dsimp only [after]
      split
      · exact stands
      · exact (recompute_switches _).trans stands
  · have floor : heard.head.floor = s.head.floor := by rw [head]
    rw [← floor]
    exact reported present (by unfold serveFloorReport; dsimp only; rw [floorType_unknown bad]) rfl
  · have floor : heard.head.floor = s.head.floor := by rw [head]
    obtain ⟨f, named⟩ := floorType_named fits
    have blind_ : (heard.head.info.map (·.floorSense)).getD false = false := by rw [head, present]; exact blind
    rw [← floor]
    refine reported present ?_ rfl
    unfold serveFloorReport
    dsimp only
    rw [named]
    dsimp only
    rw [if_neg (by rw [blind_]; decide)]
  · intro told after
    have senses_ : (heard.head.info.map (·.floorSense)).getD false = true := by rw [head, present]; exact senses
    have floors : heard.head.floor = s.head.floor := by rw [head]
    have answer : serveFloorReport [b] heard = floorReply after .ok := by
      unfold serveFloorReport
      dsimp only
      rw [floorType_pos named]
      dsimp only
      rw [if_pos senses_]
      dsimp only [after]
      rw [floors]
      split
      · rename_i same
        have unchanged : told = heard := by
          dsimp only [told]
          rw [same, ← floors]
        rw [unchanged]
      · rfl
    have bytes : u8 after.head.floor.pos = [b] := by
      have stored : after.head.floor = floor := by
        dsimp only [after]
        split
        · rfl
        · rw [recompute_head]
      rw [stored, named]
      simp [u8]
    have moved : after.switches = heard.switches := by
      dsimp only [after]
      split
      · rfl
      · exact recompute_switches _
    have served := reported present answer moved
    rwa [bytes] at served

end Sys2Proof.Machine
end

section
/-! PROOFS. The port's own requests (09, sections 9.5 and 9.7) and the layouts of the records that 11 lays out byte by byte. -/

namespace Sys2Proof.Machine

/-! ## Flag bytes and fields that may be absent (11 R185) -/

theorem two_mul_flagBit (b : Bool) (n : Nat) : 2 * flagBit b n = flagBit b (2 * n) := by cases b <;> rfl

theorem flagValue_nil : flagValue [] = 0 := rfl

theorem flagValue_cons (b : Bool) (rest : List Bool) : flagValue (b :: rest) = flagBit b 1 + 2 * flagValue rest := rfl

theorem flagBit_false (n : Nat) : flagBit false n = 0 := rfl

/-- An optional unsigned byte, as a record shows it. -/
def shownByte (o : Option Nat) : Byte := match o with | some n => BitVec.ofNat 8 n | none => 0xFF#8

/-- An optional signed byte, as a record shows it. -/
def shownSigned (o : Option Int) : Byte := match o with | some x => BitVec.ofInt 8 x | none => 0x80#8

theorem i8?_eq (o : Option Int) : i8? o = [shownSigned o] := by cases o <;> rfl

theorem u8?_eq (o : Option Nat) : u8? o = [shownByte o] := by cases o <;> rfl

/-- A byte of two to eight flags is the sum of their places. -/
theorem flags_two (a b : Bool) : flags [a, b] = [BitVec.ofNat 8 (flagBit a 1 + flagBit b 2)] := by
  simp [flags, u8, flagValue_cons, flagValue_nil, two_mul_flagBit]

theorem flags_four (a b c d : Bool) :
    flags [a, b, c, d] = [BitVec.ofNat 8 (flagBit a 1 + flagBit b 2 + flagBit c 4 + flagBit d 8)] := by
  simp [flags, u8, flagValue_cons, flagValue_nil, Nat.mul_add, two_mul_flagBit, Nat.add_assoc]

theorem flags_entry (a b c d : Bool) :
    flags [false, a, b, c, d] = [BitVec.ofNat 8 (flagBit a 2 + flagBit b 4 + flagBit c 8 + flagBit d 16)] := by
  simp [flags, u8, flagValue_cons, flagValue_nil, flagBit_false, Nat.mul_add, two_mul_flagBit, Nat.add_assoc]

theorem flags_seven (a b c d e f g : Bool) :
    flags [a, b, c, d, e, f, g]
      = [BitVec.ofNat 8
          (flagBit a 1 + flagBit b 2 + flagBit c 4 + flagBit d 8 + flagBit e 16 + flagBit f 32 + flagBit g 64)] := by
  simp [flags, u8, flagValue_cons, flagValue_nil, Nat.mul_add, two_mul_flagBit, Nat.add_assoc]

theorem flags_eight (a b c d e f g h : Bool) :
    flags [a, b, c, d, e, f, g, h]
      = [BitVec.ofNat 8
          (flagBit a 1 + flagBit b 2 + flagBit c 4 + flagBit d 8 + flagBit e 16 + flagBit f 32 + flagBit g 64
            + flagBit h 128)] := by
  simp [flags, u8, flagValue_cons, flagValue_nil, Nat.mul_add, two_mul_flagBit, Nat.add_assoc]

theorem laidOut_nil (bytes : List Byte) : LaidOut bytes [] := nofun

theorem laidOut_cons {bytes : List Byte} {f : Nat × List Byte} {rest : List (Nat × List Byte)} :
    LaidOut bytes (f :: rest) ↔ (bytes.drop f.1).take f.2.length = f.2 ∧ LaidOut bytes rest := List.forall_mem_cons

/-- STATUS holds each field of R186 at its offset. -/
theorem statusLaidOut (s : State) : StatusLaidOut s := by
  unfold StatusLaidOut
  intro bytes signed code temp health live
  have record : bytes = statusRecord s := rfl
  have shown (x : Therm) : signed (temp x) = [shownSigned x.temp] := by cases x <;> rfl
  have status (x : Therm) : code (health x) = [BitVec.ofNat 8 x.status] := by cases x <;> rfl
  unfold statusRecord at record
  cases table : s.smp.table with
  | none =>
    rcases entry : s.pwr.entry with _ | (_ | _) | _ <;>
      simp only [entry, table, u8, u16, u16?, i16, i32?, i8?_eq, u8?_eq, flags_two, flags_four, flags_entry, List.cons_append,
        List.nil_append] at record <;>
      rw [record]
    all_goals
      refine ⟨rfl, ?_, fun _ no => absurd no nofun, fun _ => ?_⟩
      · simp only [laidOut_cons, laidOut_nil, and_true]
        exact ⟨rfl, rfl, rfl, rfl, rfl, rfl, rfl, rfl, rfl, rfl, rfl⟩
      · simp only [laidOut_cons, laidOut_nil, and_true]
        exact ⟨rfl, rfl, rfl, rfl, rfl, rfl, rfl, rfl, rfl⟩
  | some r =>
    rcases entry : s.pwr.entry with _ | (_ | _) | _ <;>
      simp only [entry, table, u8, u16, i16, i32, i8?_eq, u8?_eq, flags_four, flags_eight, flags_entry, List.cons_append,
        List.nil_append] at record <;>
      rw [record]
    all_goals
      refine ⟨rfl, ?_, fun r' same => ?_, fun no => absurd no nofun⟩
      · simp only [laidOut_cons, laidOut_nil, and_true]
        exact ⟨rfl, rfl, rfl, rfl, rfl, rfl, rfl, rfl, rfl, rfl, rfl⟩
      · cases same
        simp only [laidOut_cons, laidOut_nil, and_true, shown, status]
        exact ⟨rfl, rfl, rfl, rfl, rfl, rfl, rfl, rfl, rfl, rfl, rfl, rfl⟩

/-! ## CLAIMS (11 R187) -/

/-- An offset past the first of two parts is an offset into the second. -/
theorem drop_past {pre : List Byte} {n : Nat} (length : pre.length = n) (rest : List Byte) (i : Nat) :
    (pre ++ rest).drop (n + i) = rest.drop i := by
  subst length
  simp

/-- A piece that lies within the first of two parts is a piece of that part. -/
theorem take_within {part : List Byte} {i k : Nat} (fits : i + k ≤ part.length) (rest : List Byte) :
    ((part ++ rest).drop i).take k = (part.drop i).take k := by
  rw [List.drop_append_of_le_length (by omega), List.take_append_of_le_length (by rw [List.length_drop]; omega)]

/-- `n` slots of `m` bytes, one an element and the rest padded: each shows its element, or the padding. -/
theorem slot_of_padded {α : Type} {g : α → List Byte} {m : Nat} (size : ∀ x, (g x).length = m) (pad : Byte) :
    ∀ (n : Nat) (l : List α) (j : Nat), j < n →
      (((l.take n).flatMap g ++ List.replicate (m * (n - l.length)) pad).drop (m * j)).take m
        = (match l[j]? with | some x => g x | none => List.replicate m pad)
  | n, [], j, h => by
    have room : m * j + m ≤ m * n := by
      rw [← Nat.mul_succ]; exact Nat.mul_le_mul_left m h
    simp only [List.take_nil, List.flatMap_nil, List.nil_append, List.length_nil, Nat.sub_zero, List.drop_replicate,
      List.take_replicate, List.getElem?_nil]
    congr 1
    omega
  | n + 1, x :: xs, 0, _ => by
    simp [← size x]
  | n + 1, x :: xs, j + 1, h => by
    have step := slot_of_padded size pad n xs j (by omega)
    simp only [List.take_succ_cons, List.flatMap_cons, List.length_cons, Nat.add_sub_add_right, List.getElem?_cons_succ,
      List.append_assoc]
    rw [← step, Nat.mul_succ, Nat.add_comm, ← List.drop_drop, ← size x, List.drop_left]

/-- The slots fill their bytes. -/
theorem padded_length {α : Type} {g : α → List Byte} {m : Nat} (size : ∀ x, (g x).length = m) (pad : Byte) (n : Nat) (l : List α) :
    ((l.take n).flatMap g ++ List.replicate (m * (n - l.length)) pad).length = m * n := by
  have all : ((l.take n).flatMap g).length = m * (min n l.length) := by
    rw [List.length_flatMap]
    simp [size, Nat.mul_comm]
  rw [List.length_append, all, List.length_replicate, ← Nat.mul_add]
  congr 1
  omega

/-- The five bytes of a claim. -/
theorem claimBytes_length (c : Claim) : c.bytes.length = 5 := by
  unfold Claim.bytes
  cases c.kind <;> rfl

/-- The free list of CLAIMS, as ten bytes. -/
def freeBytes (free : List (Fin 10)) : List Byte :=
  (free.take 10).flatMap (fun i => u8 i.val) ++ List.replicate (1 * (10 - free.length)) 0xFF#8

/-- The bytes of CLAIMS that follow the stacks. -/
def Arbiter.grantBytes (a : Arbiter) : List Byte :=
  u16 a.ds ++ u16 a.dh ++ u16 a.gs ++ u16 a.gh ++ [BitVec.ofNat 8 (flagBit a.shortS 1 + flagBit a.shortH 2)] ++ u16 a.used
    ++ [BitVec.ofNat 8 a.path.pos, BitVec.ofNat 8 (waitingPos a.waiting)]

/-- CLAIMS in its seven parts. -/
theorem claimsRecord_eq (s : State) :
    claimsRecord s
      = [BitVec.ofNat 8 s.arb.free.length] ++ (freeBytes s.arb.free
          ++ ([BitVec.ofNat 8 s.arb.suction.length, BitVec.ofNat 8 s.settings.depthSuction] ++ (stackBytes s.arb.suction
            ++ ([BitVec.ofNat 8 s.arb.brush.length, BitVec.ofNat 8 s.settings.depthBrush] ++ (stackBytes s.arb.brush
              ++ s.arb.grantBytes))))) := by
  unfold claimsRecord freeBytes Arbiter.grantBytes
  simp [u8, flags_two]

theorem freeBytes_length (free : List (Fin 10)) : (freeBytes free).length = 10 :=
  padded_length (g := fun i : Fin 10 => u8 i.val) (fun _ => rfl) _ 10 free

theorem stackBytes_length (stack : List Claim) : (stackBytes stack).length = 20 := by
  have h := padded_length claimBytes_length 0xFF#8 4 stack.reverse
  rwa [List.length_reverse] at h

theorem freeBytes_slot (free : List (Fin 10)) {i : Nat} (h : i < 10) :
    ((freeBytes free).drop i).take 1 = [match free[i]? with | some n => BitVec.ofNat 8 n.val | none => 0xFF] := by
  have slot := slot_of_padded (g := fun i : Fin 10 => u8 i.val) (fun _ => rfl) 0xFF#8 10 free i h
  rw [Nat.one_mul] at slot
  refine Eq.trans slot ?_
  cases free[i]? <;> rfl

theorem stackBytes_slot (stack : List Claim) {j : Nat} (h : j < 4) :
    ((stackBytes stack).drop (5 * j)).take 5 = claimSlot stack j := by
  have slot := slot_of_padded claimBytes_length 0xFF#8 4 stack.reverse j h
  rw [List.length_reverse] at slot
  refine Eq.trans slot ?_
  unfold claimSlot
  cases stack.reverse[j]? with
  | none => rfl
  | some c =>
    dsimp only
    unfold Claim.bytes
    cases c.kind <;> rfl

/-- Where the parts of CLAIMS begin. -/
theorem claimsRecord_drop (s : State) (i : Nat) :
    (∃ rest, (claimsRecord s).drop (1 + i) = (freeBytes s.arb.free ++ rest).drop i)
      ∧ (∃ rest, (claimsRecord s).drop (11 + i)
          = ([BitVec.ofNat 8 s.arb.suction.length, BitVec.ofNat 8 s.settings.depthSuction] ++ rest).drop i)
      ∧ (∃ rest, (claimsRecord s).drop (13 + i) = (stackBytes s.arb.suction ++ rest).drop i)
      ∧ (∃ rest, (claimsRecord s).drop (33 + i)
          = ([BitVec.ofNat 8 s.arb.brush.length, BitVec.ofNat 8 s.settings.depthBrush] ++ rest).drop i)
      ∧ (∃ rest, (claimsRecord s).drop (35 + i) = (stackBytes s.arb.brush ++ rest).drop i)
      ∧ (claimsRecord s).drop (55 + i) = s.arb.grantBytes.drop i := by
  have free := freeBytes_length s.arb.free
  have suction := stackBytes_length s.arb.suction
  have brush := stackBytes_length s.arb.brush
  have one (k : Nat) := (congrArg (List.drop (1 + k)) (claimsRecord_eq s)).trans (drop_past (n := 1) rfl _ k)
  have eleven (k : Nat) := (one (10 + k)).trans (drop_past free _ k)
  have thirteen (k : Nat) := (eleven (2 + k)).trans (drop_past (n := 2) rfl _ k)
  have thirtyThree (k : Nat) := (thirteen (20 + k)).trans (drop_past suction _ k)
  have thirtyFive (k : Nat) := (thirtyThree (2 + k)).trans (drop_past (n := 2) rfl _ k)
  have fiftyFive (k : Nat) := (thirtyFive (20 + k)).trans (drop_past brush _ k)
  simp only [← Nat.add_assoc, Nat.reduceAdd] at eleven thirteen thirtyThree thirtyFive fiftyFive
  exact ⟨⟨_, one i⟩, ⟨_, eleven i⟩, ⟨_, thirteen i⟩, ⟨_, thirtyThree i⟩, ⟨_, thirtyFive i⟩, fiftyFive i⟩

/-- CLAIMS holds each field of R187 at its offset. -/
theorem claimsLaidOut (s : State) : ClaimsLaidOut s := by
  unfold ClaimsLaidOut
  intro bytes
  have record : bytes = claimsRecord s := rfl
  rw [record]
  refine ⟨?_, ?_, fun i h => ?_, fun j h => ?_⟩
  · rw [claimsRecord_eq]
    simp [freeBytes_length, stackBytes_length, Arbiter.grantBytes, u16]
  · obtain ⟨-, ⟨_, depthS⟩, -, ⟨_, depthH⟩, -, grants⟩ := claimsRecord_drop s 0
    obtain ⟨-, ⟨_, limitS⟩, -, ⟨_, limitH⟩, -, -⟩ := claimsRecord_drop s 1
    have grant (i : Nat) := (claimsRecord_drop s i).2.2.2.2.2
    have path : [BitVec.ofNat 8 s.arb.path.pos] = [match s.arb.path with | .idle => (0 : Byte) | .discharge => 1 | .charge => 2] := by
      cases s.arb.path <;> rfl
    have waiting : [BitVec.ofNat 8 (waitingPos s.arb.waiting)]
        = [match s.arb.waiting with | none => (0 : Byte) | some .suction => 1 | some .charger => 2] := by
      rcases s.arb.waiting with _ | (_ | _) <;> rfl
    simp only [laidOut_cons, laidOut_nil, and_true]
    refine ⟨by rw [claimsRecord_eq]; rfl, ?_, ?_, ?_, ?_, ?_, ?_, ?_, ?_, ?_, ?_, ?_, ?_⟩
    · exact congrArg (List.take 1) depthS
    · exact congrArg (List.take 1) limitS
    · exact congrArg (List.take 1) depthH
    · exact congrArg (List.take 1) limitH
    · exact congrArg (List.take 2) (grant 0)
    · exact congrArg (List.take 2) (grant 2)
    · exact congrArg (List.take 2) (grant 4)
    · exact congrArg (List.take 2) (grant 6)
    · exact congrArg (List.take 1) (grant 8)
    · exact congrArg (List.take 2) (grant 9)
    · exact (congrArg (List.take 1) (grant 11)).trans path
    · exact (congrArg (List.take 1) (grant 12)).trans waiting
  · obtain ⟨⟨_, part⟩, -⟩ := claimsRecord_drop s i
    rw [List.mem_range] at h
    exact (congrArg (List.take 1) part).trans ((take_within (by rw [freeBytes_length]; omega) _).trans (freeBytes_slot _ h))
  · obtain ⟨-, -, ⟨_, suction⟩, -, ⟨_, brush⟩, -⟩ := claimsRecord_drop s (5 * j)
    rw [List.mem_range] at h
    rw [suction, brush, take_within (by rw [stackBytes_length]; omega), take_within (by rw [stackBytes_length]; omega),
      stackBytes_slot _ h, stackBytes_slot _ h]
    exact ⟨rfl, rfl⟩

/-! ## CELLS (11 R188) -/

/-- The lowest of a list and a start is the start or a member, and below every member. -/
theorem foldl_min (l : List Nat) : ∀ a, (l.foldl min a = a ∨ l.foldl min a ∈ l) ∧ l.foldl min a ≤ a ∧ ∀ x ∈ l, l.foldl min a ≤ x := by
  induction l with
  | nil => intro a; exact ⟨Or.inl rfl, Nat.le_refl a, nofun⟩
  | cons b l ih =>
    intro a
    obtain ⟨of, below, all⟩ := ih (min a b)
    rw [List.foldl_cons, List.forall_mem_cons, List.mem_cons]
    refine ⟨?_, by omega, by omega, all⟩
    rcases of with e | e
    · omega
    · exact Or.inr (Or.inr e)

/-- The highest of a list and a start likewise. -/
theorem foldl_max (l : List Nat) : ∀ a, (l.foldl max a = a ∨ l.foldl max a ∈ l) ∧ a ≤ l.foldl max a ∧ ∀ x ∈ l, x ≤ l.foldl max a := by
  induction l with
  | nil => intro a; exact ⟨Or.inl rfl, Nat.le_refl a, nofun⟩
  | cons b l ih =>
    intro a
    obtain ⟨of, above, all⟩ := ih (max a b)
    rw [List.foldl_cons, List.forall_mem_cons, List.mem_cons]
    refine ⟨?_, by omega, by omega, all⟩
    rcases of with e | e
    · omega
    · exact Or.inr (Or.inr e)

theorem vmin_mem (c : Cells) : c.vmin ∈ c.toList := by
  rcases (foldl_min c.toList c.c1).1 with e | e
  · exact List.mem_of_mem_head? (congrArg some e.symm)
  · exact e

theorem vmax_mem (c : Cells) : c.vmax ∈ c.toList := by
  rcases (foldl_max c.toList c.c1).1 with e | e
  · exact List.mem_of_mem_head? (congrArg some e.symm)
  · exact e

theorem vmin_le (c : Cells) : ∀ v ∈ c.toList, c.vmin ≤ v := (foldl_min c.toList c.c1).2.2

theorem le_vmax (c : Cells) : ∀ v ∈ c.toList, v ≤ c.vmax := (foldl_max c.toList c.c1).2.2

/-- The index of a voltage is that of the first cell that has it. -/
theorem indexOf_first {c : Cells} {v : Nat} (h : v ∈ c.toList) :
    c.toList[c.indexOf v - 1]? = some v ∧ ∀ i, i + 1 < c.indexOf v → c.toList[i]? ≠ some v := by
  unfold Cells.indexOf
  have found : c.toList.findIdx (· == v) < c.toList.length := List.findIdx_lt_length_of_exists ⟨v, h, by simp⟩
  refine ⟨?_, fun i before at_ => ?_⟩
  · rw [Nat.add_sub_cancel, List.getElem?_eq_getElem found]
    exact congrArg some (eq_of_beq (List.findIdx_getElem (w := found)))
  · obtain ⟨inside, is⟩ := List.getElem?_eq_some_iff.1 at_
    have not_ := List.not_of_lt_findIdx (p := (· == v)) (xs := c.toList) (i := i) (by omega)
    simp [is] at not_

/-- CELLS holds each field of R188 at its offset; the extremes and their indices are those of the seven voltages. -/
theorem cellsLaidOut (s : State) : CellsLaidOut s := by
  unfold CellsLaidOut
  intro bytes b
  have record : bytes = cellsRecord s := rfl
  unfold cellsRecord at record
  simp only [Bleeds.toList, flags_seven] at record
  rw [record]
  cases table : s.smp.table with
  | none =>
    refine ⟨rfl, ?_, fun _ no => absurd no nofun, fun _ => ?_⟩
    · simp only [laidOut_cons, laidOut_nil, and_true]
      rfl
    · simp only [laidOut_cons, laidOut_nil, and_true]
      exact ⟨rfl, rfl, rfl⟩
  | some r =>
    refine ⟨rfl, ?_, fun r' same => ?_, fun no => absurd no nofun⟩
    · simp only [laidOut_cons, laidOut_nil, and_true]
      rfl
    · cases same
      have validity : u8 r.validity.pos = [match r.validity with | .valid => (0 : Byte) | .refFault => 1 | .tapFault => 2] := by
        cases r.validity <;> rfl
      obtain ⟨minAt, minFirst⟩ := indexOf_first (vmin_mem r.cells)
      obtain ⟨maxAt, maxFirst⟩ := indexOf_first (vmax_mem r.cells)
      refine ⟨?_, ?_, minAt, maxAt, fun i _ => ⟨minFirst i, maxFirst i⟩⟩
      · simp only [laidOut_cons, laidOut_nil, and_true]
        exact ⟨rfl, validity, rfl, rfl, rfl, rfl, rfl, rfl, rfl, rfl, rfl, rfl, rfl, rfl, rfl, rfl⟩
      · rw [List.all_eq_true]
        exact fun v h => decide_eq_true ⟨vmin_le r.cells v h, le_vmax r.cells v h⟩

/-! ## READ_REC (09 R168) -/

/-- A two-byte number below 65536 reads back. -/
theorem word_u16 {n : Nat} (h : n < 65536) : ∃ lo hi, u16 n = [lo, hi] ∧ word lo hi = n := by
  refine ⟨_, _, rfl, ?_⟩
  unfold word
  rw [BitVec.toNat_ofNat, BitVec.toNat_ofNat]
  omega

/-- A signed two-byte number reads back. -/
theorem sword_i16 {x : Int} (low : -32768 ≤ x) (high : x < 32768) : ∃ lo hi, i16 x = [lo, hi] ∧ sword lo hi = x := by
  obtain ⟨lo, hi, bytes, value⟩ := word_u16 (BitVec.ofInt 16 x).isLt
  refine ⟨lo, hi, bytes, ?_⟩
  unfold sword
  rw [value, BitVec.ofNat_toNat, BitVec.setWidth_eq]
  exact BitVec.toInt_ofInt_eq_self (by decide) low high

/-- READ_REC of a record that the link may read gives the piece asked for. -/
theorem serveReadRec_piece {code page offset most : Byte} {r : RecordId} {s : State} (known : recordId code = some r)
    (pages : page.toNat < if r = .settings then 4 else 1) (inside : offset.toNat ≤ (recordBytes r page.toNat s).length) :
    serveReadRec [code, page, offset, most] s
      = ⟨s, .ok,
          [BitVec.ofNat 8 (recordBytes r page.toNat s).length,
            BitVec.ofNat 8 ((recordBytes r page.toNat s).length - offset.toNat
              - (((recordBytes r page.toNat s).drop offset.toNat).take (min most.toNat 53)).length),
            generationOf r page.toNat s.gens]
            ++ ((recordBytes r page.toNat s).drop offset.toNat).take (min most.toNat 53)⟩ := by
  unfold serveReadRec
  dsimp only
  rw [known]
  dsimp only
  have stays : ¬((if r = .settings then 3 else 0) < page.toNat ∨ (recordBytes r page.toNat s).length < offset.toNat) := by
    split at pages <;> rename_i is
    · rw [if_pos is]; omega
    · rw [if_neg is]; omega
  rw [if_neg stays]
  rfl

/-- READ_REC of a page that the record does not have, or past its end, is refused. -/
theorem serveReadRec_bad {code page offset most : Byte} {r : RecordId} {s : State} (known : recordId code = some r)
    (out : (if r = .settings then 4 else 1) ≤ page.toNat ∨ (recordBytes r page.toNat s).length < offset.toNat) :
    serveReadRec [code, page, offset, most] s = refuse s .badArg := by
  unfold serveReadRec
  dsimp only
  rw [known]
  dsimp only
  have leaves : (if r = .settings then 3 else 0) < page.toNat ∨ (recordBytes r page.toNat s).length < offset.toNat := by
    split at out <;> rename_i is
    · rw [if_pos is]; omega
    · rw [if_neg is]; omega
  rw [if_pos leaves]

/-- Settles O23: the fields, the layouts, and READ_REC's two answers. -/
theorem readRecPieces : Obligations.ReadRecPieces := by
  refine ⟨fun n h => word_u16 h, fun x low high => sword_i16 low high, statusLaidOut, claimsLaidOut, cellsLaidOut, ?_⟩
  intro link dt tag code page offset most r s h present known opened bytes pages data
  have served {c : Status} {d : List Byte}
      (owned : serveReadRec [code, page, offset, most] (s.arrived link dt) = ⟨s.arrived link dt, c, d⟩) :=
    row_owned (k := .readRec) (tag := tag) (p := [code, page, offset, most]) h (by simp) nofun
      (portRefusal_passes (by cases link <;> rfl) (fun _ => by simp [recordRefusal, known, opened])
        (fun wand => Or.inl (by rw [arrived_info]; exact present wand)) rfl rfl)
      owned rfl
  exact ⟨fun page_ inside => served (serveReadRec_piece known page_ inside), fun out => served (serveReadRec_bad known out)⟩

/-! ## Notices (09 R167, R171, R172) -/

/-- The bits of a set without the named ones. -/
theorem getLsbD_cleared {w : Nat} (x : BitVec w) (n i : Nat) :
    (x &&& ~~~(BitVec.ofNat w n)).getLsbD i = (x.getLsbD i && !n.testBit i) := by
  by_cases inside : i < w
  · rw [BitVec.getLsbD_and, BitVec.getLsbD_not, BitVec.getLsbD_ofNat, decide_eq_true inside]
    rfl
  · simp [BitVec.getLsbD_of_ge x i (by omega)]

/-- A set is not empty exactly when one of its bits stands. -/
theorem ne_zero_iff {w : Nat} (x : BitVec w) : x ≠ 0#w ↔ ∃ i ∈ List.range w, x.getLsbD i = true := by
  constructor
  · intro some_
    by_contra none_
    push Not at none_
    refine some_ (BitVec.eq_of_getLsbD_eq fun i inside => ?_)
    simpa using none_ i (List.mem_range.2 inside)
  · rintro ⟨i, -, bit⟩ rfl
    simp at bit

/-- The bits of the notices stand in the order of the list. -/
theorem clearNotes_bits (link : Link) (n : Nat) (p : Ports) (i : Nat) :
    (clearNotes link n p).handleNotes.getLsbD i = (p.handleNotes.getLsbD i && !(decide (link = .handle) && n.testBit i))
      ∧ (clearNotes link n p).wandNotes.getLsbD i = (p.wandNotes.getLsbD i && !(decide (link = .wand) && n.testBit i))
      ∧ (clearNotes link n p).dockNotes.getLsbD i = (p.dockNotes.getLsbD i && !(decide (link = .dock) && n.testBit i)) := by
  cases link <;> simp only [clearNotes, getLsbD_cleared] <;> simp

/-- ATTN stands while AWAKE with a notice that is not masked. -/
theorem attn_iff (s : State) :
    s.attn = true ↔ s.pwr.awake = true
      ∧ ∃ i ∈ List.range 15, s.ports.handleNotes.getLsbD i = true ∧ s.settings.attnMask.getLsbD i = false := by
  unfold State.attn
  rw [Bool.and_eq_true, bne_iff_ne, ne_zero_iff]
  refine and_congr_right fun _ => exists_congr fun i => and_congr_right fun inside => ?_
  simp [List.mem_range.1 inside]

/-- CLEAR_NOTE of names in the link's list clears exactly them. -/
theorem serveClearNote_known {link : Link} {lo hi : Byte} {s : State} (known : namesKnown link (word lo hi) = true) :
    serveClearNote link [lo, hi] s
      = ⟨{ s with ports := clearNotes link (word lo hi) s.ports }, .ok,
          ({ s with ports := clearNotes link (word lo hi) s.ports } : State).noteBytes link⟩ := if_pos known

theorem serveClearNote_unknown {link : Link} {lo hi : Byte} {s : State} (unknown : ¬namesKnown link (word lo hi) = true) :
    serveClearNote link [lo, hi] s = refuse s .badArg := if_neg unknown

theorem namesKnown_iff (link : Link) (n : Nat) :
    namesKnown link n = true ↔ n < (match link with | .handle => 32768 | .wand => 2 | .dock => 8) := by
  cases link <;> simp [namesKnown]

/-- The two bytes of a 16-bit constant. -/
theorem u16_toNat (x : BitVec 16) : u16 x.toNat = [x.setWidth 8, (x >>> 8).setWidth 8] := by
  have high : BitVec.ofNat 8 (x.toNat / 256) = (x >>> 8).setWidth 8 := by
    apply BitVec.eq_of_toNat_eq
    simp [Nat.shiftRight_eq_div_pow]
  unfold u16
  rw [high, BitVec.ofNat_toNat]

/-- Settles O22: the two marks, the notices' bits, and the three requests. -/
theorem portsOwnRequests : Obligations.PortsOwnRequests := by
  refine ⟨fun s => ⟨attn_iff s, ?_, ?_, ?_, rfl, rfl, rfl⟩, by decide, by decide,
    fun link n p => ⟨by cases link <;> rfl, clearNotes_bits link n p⟩, ?_⟩
  · exact bne_iff_ne
  · exact bne_iff_ne
  · exact bne_iff_ne
  intro link dt tag s h
  refine ⟨?_, ?_, fun present lo hi => ⟨fun known => ?_, fun unknown => ?_⟩⟩
  · refine row_served (k := .ident) (p := []) h (by cases link <;> rfl) (by decide) (fun _ => Or.inr (Or.inl rfl)) rfl ?_ rfl
    change serveIdent link _ = _
    unfold serveIdent
    rw [u16_toNat]
    cases link <;> rfl
  · rintro rfl
    refine row_served (k := .clearSticky) (p := []) h rfl (by decide) nofun rfl ?_ rfl
    change serveClearSticky _ = _
    unfold serveClearSticky
    rw [arrived_alw, arrived_acct]
    rfl
  · have known_ : namesKnown link (word lo hi) = true := (namesKnown_iff _ _).2 known
    have switches : ({ s.arrived link dt with ports := clearNotes link (word lo hi) (s.arrived link dt).ports } : State).switches
        = (s.arrived link dt).switches := rfl
    exact row_served (k := .clearNote) (p := [lo, hi]) h (by cases link <;> rfl) (by decide) (fun wand => Or.inl (present wand)) rfl
      (serveClearNote_known known_) switches
  · have unknown_ : ¬namesKnown link (word lo hi) = true := by
      rw [namesKnown_iff]
      exact Nat.not_lt.2 unknown
    exact row_served (k := .clearNote) (p := [lo, hi]) h (by cases link <;> rfl) (by decide) (fun wand => Or.inl (present wand)) rfl
      (serveClearNote_unknown unknown_) rfl

end Sys2Proof.Machine
end

section
/-! PROOFS. Demands and grants (03, sections 3.3 and 3.4): the rows of the demands, what a recomputation forms and hands on, and that its
grants stand for the state it leaves; notices that stand. -/

namespace Sys2Proof.Machine

/-! ## The suction curves (04 R85) -/

/-- The slopes below a segment, summed one by one. -/
theorem sum_take (l : List Int) : ∀ n, (l.take n).sum = ((List.range n).map fun i => l.getD i 0).sum
  | 0 => rfl
  | n + 1 => by
    rw [List.take_add_one, List.sum_append, sum_take l n, List.range_succ, List.map_append, List.sum_append]
    cases h : l[n]? <;> simp [h]

theorem curveValue_eq (c : Curve) (d : Nat) :
    (curveValue c d : Int)
      = max 0 (min 600 (Int.tdiv ((c.base : Int) * 16 + 32 * ((List.range (d / 32)).map fun i => c.slopes.getD i 0).sum
          + c.slopes.getD (d / 32) 0 * ((d % 32 : Nat) : Int)) 16)) := by
  unfold curveValue curveV16 clampInt
  rw [sum_take]
  exact Int.toNat_of_nonneg (by omega)

/-! ## The demands (03 R52 to R54) -/

theorem steered_iff (st : SuctionState) : st.steered = true ↔ st = .starting ∨ st = .running := by
  cases st <;> simp [SuctionState.steered]

/-- The suction demand is 0 without a run, out of STARTING and RUNNING, and with no claim. -/
theorem demandS_zero {s : State} (h : s.runRequest = false ∨ s.suc.state.steered = false ∨ s.arb.suction = []) : s.demandS = 0 := by
  have nothing : s.uncappedDs = 0 := by
    unfold State.uncappedDs
    rcases h with h | h | h
    · simp [h]
    · cases e : s.suc.state <;> simp_all [SuctionState.steered]
    · simp [h]
  unfold State.demandS
  rw [nothing]
  cases s.bin.state <;> simp

/-- What a claim of the suction stack asks for, at this value of the curve in use (03 R52). -/
def ClaimKind.asks (curve : Nat) : ClaimKind → Nat
  | .level w => w
  | .curve ceiling => min curve ceiling
  | .zero => 0

/-- What a run's top claim asks for, before the caps. -/
theorem uncappedDs_top {s : State} {c : Claim} {rest : List Claim} (run : s.runRequest = true) (steered : s.suc.state.steered = true)
    (top : s.arb.suction = c :: rest) : s.uncappedDs = c.kind.asks s.curveNow := by
  have on : (s.runRequest && (s.suc.state == .starting || s.suc.state == .running)) = true := by
    rcases (steered_iff _).1 steered with e | e <;> rw [run, e] <;> rfl
  unfold State.uncappedDs
  rw [if_pos on, top]
  obtain ⟨_, kind, _⟩ := c
  cases kind <;> rfl

/-- The caps of the bin and of the clog state. -/
theorem demandS_capped (s : State) :
    s.demandS
      = if s.bin.state = .detached then 0
        else
          min (if s.bin.state = .full then min s.uncappedDs s.settings.binCap else s.uncappedDs)
            (if s.suc.clogged = true then s.settings.clogCap else s.uncappedDs) := by
  unfold State.demandS
  cases s.bin.state <;> cases s.suc.clogged <;> simp

/-- The brush demand is 0 with the wand off, the head ABSENT, or no claim. -/
theorem demandH_zero {s : State} (h : s.head.wand = false ∨ s.head.info = none ∨ s.arb.brush = []) : s.demandH = 0 := by
  unfold State.demandH
  rcases h with h | h | h <;> rw [h] <;> split <;> simp_all

/-- The brush demand of a PRESENT, powered head: its top claim, held at its rating. -/
theorem demandH_top {s : State} {h : HeadInfo} {c : Claim} {rest : List Claim} (wand : s.head.wand = true)
    (present : s.head.info = some h) (top : s.arb.brush = c :: rest) :
    (c.kind = .zero → s.demandH = 0) ∧ ∀ w, c.kind = .level w → s.demandH = min w h.rating := by
  unfold State.demandH
  rw [wand, present, top]
  obtain ⟨_, kind, _⟩ := c
  cases kind with
  | level w =>
    refine ⟨nofun, fun w' e => ?_⟩
    cases e
    rfl
  | curve w => exact ⟨nofun, nofun⟩
  | zero => exact ⟨fun _ => rfl, nofun⟩

/-! ## What a recomputation hands on (03 R57, R58) -/

theorem takeGrant_keeps {pfull gs : Nat} {u : Suction} (h : u.target ≤ gs) : takeGrant pfull gs u = u := if_neg (by omega)

theorem takeGrant_lowers {pfull gs : Nat} {u : Suction} (h : gs < u.target) :
    takeGrant pfull gs u = { u with target := gs, duty := dutyFor u.state pfull gs u.acc } := if_pos h

/-- Settles O29: the curve, the rows of the demands, and what a recomputation hands on. -/
theorem grantsAreHandedOn : Obligations.GrantsAreHandedOn := by
  refine ⟨curveValue_eq, fun s => ?_, fun s => ?_, fun s => ⟨fun within => ?_, fun above => ?_, ?_, ?_, ?_⟩⟩
  · unfold State.curveNow State.curveInUse
    rfl
  · intro capped
    refine ⟨demandS_zero, fun run steered c rest top => ?_, demandH_zero, fun h c rest wand present top =>
      demandH_top wand present top⟩
    have asks := uncappedDs_top run steered top
    have demand : s.demandS = capped (c.kind.asks s.curveNow) := by rw [demandS_capped, asks]
    refine ⟨fun zero => ?_, fun w level => ?_, fun w curve => ?_⟩
    · rw [demand, zero]
      simp [capped, ClaimKind.asks]
    · rw [demand, level]
      rfl
    · rw [demand, curve]
      rfl
  · rw [recompute_arb] at within
    change s.suc.target ≤ s.grantS at within
    rw [recompute_suc, takeGrant_keeps within]
  · rw [recompute_arb] at above
    change s.grantS < s.suc.target at above
    rw [recompute_suc, recompute_arb, takeGrant_lowers above]
    rfl
  · rw [recompute_arb, recompute_spec]
    cases s.arb.shortS <;> simp
  · rw [recompute_arb, recompute_spec]
    cases s.arb.shortH <;> simp
  · conv_lhs => rw [recompute_spec]
    rw [recompute_spec]
    rfl

/-! ## Grants that stand -/

/-- The grants are those of a recomputation of the state as it stands. -/
def Granted (s : State) : Prop := s.arb = s.formGrants

/-- A recomputation leaves the demands where they were formed. -/
theorem recompute_formGrants (s : State) : (recompute s).formGrants = s.formGrants := by
  rw [recompute_spec, takeGrant_frame]
  rfl

theorem recompute_granted (s : State) : Granted (recompute s) := by
  unfold Granted
  rw [recompute_formGrants, recompute_arb]

/-- The grants stand where nothing that the demands depend on has changed. -/
theorem Granted.congr {s t : State} (h : Granted s) (same : t.formGrants = s.formGrants) (arb : t.arb = s.arb) : Granted t := by
  unfold Granted
  rw [arb, same]
  exact h

theorem Granted.ds {s : State} (h : Granted s) : s.arb.ds = s.demandS := congrArg Arbiter.ds h
theorem Granted.dh {s : State} (h : Granted s) : s.arb.dh = s.demandH := congrArg Arbiter.dh h
theorem Granted.gh {s : State} (h : Granted s) : s.arb.gh = min s.demandH (s.alw.pallow * s.settings.headShare / 256) :=
  congrArg Arbiter.gh h
theorem Granted.gs {s : State} (h : Granted s) : s.arb.gs = min s.demandS (s.alw.pallow - s.arb.gh) := by
  have gh : s.arb.gh = s.grantH := congrArg Arbiter.gh h
  rw [gh]
  exact congrArg Arbiter.gs h

/-- With no demand there is no grant. -/
theorem Granted.rest {s : State} (h : Granted s) (rests : s.demandS = 0) : s.arb.ds = 0 ∧ s.arb.gs = 0 := by
  rw [h.gs, h.ds, rests]
  exact ⟨rfl, Nat.zero_min _⟩

/-- A recomputation with the target at rest leaves the regulator alone. -/
theorem recompute_suc_rest {s : State} (rest : s.suc.target = 0) : (recompute s).suc = s.suc := by
  rw [recompute_suc, takeGrant_keeps (by omega)]

/-! ## Notices that stand (09 R171) -/

theorem or_and_absorb {w : Nat} (x b : BitVec w) : (x ||| b) &&& b = b := by
  ext i
  cases x[i] <;> simp_all

theorem and_or_mono {w : Nat} {x b : BitVec w} (c : BitVec w) (h : x &&& b = b) : (x ||| c) &&& b = b := by
  refine BitVec.eq_of_getLsbD_eq fun i _ => ?_
  have bit := congrArg (BitVec.getLsbD · i) h
  rw [BitVec.getLsbD_and] at bit
  rw [BitVec.getLsbD_and, BitVec.getLsbD_or]
  revert bit
  generalize x.getLsbD i = p, b.getLsbD i = q
  cases p <;> cases q <;> simp

/-- Every notice that stood at the handle and the dock link stands. -/
def Standing (s t : State) : Prop := (∀ n, s.noted n → t.noted n) ∧ ∀ n, s.dockNoted n → t.dockNoted n

theorem Standing.refl (s : State) : Standing s s := ⟨fun _ h => h, fun _ h => h⟩

theorem Standing.trans {s t u : State} (h : Standing s t) (k : Standing t u) : Standing s u :=
  ⟨fun n x => k.1 n (h.1 n x), fun n x => k.2 n (h.2 n x)⟩

/-- Where the two sets are as they were, every notice stands. -/
theorem Standing.of_eq {s t : State} (handle : t.ports.handleNotes = s.ports.handleNotes) (dock : t.ports.dockNotes = s.ports.dockNotes) :
    Standing s t := by
  unfold Standing State.noted State.dockNoted
  rw [handle, dock]
  exact ⟨fun _ h => h, fun _ h => h⟩

theorem noted_raise (n : HandleNotice) (s : State) : (raiseHandle n s).noted n := or_and_absorb _ _

theorem dockNoted_raise (n : DockNotice) (s : State) : (raiseDock n s).dockNoted n := or_and_absorb _ _

theorem raiseHandle_standing (n : HandleNotice) (s : State) : Standing s (raiseHandle n s) :=
  ⟨fun _ h => and_or_mono _ h, fun _ h => h⟩

theorem raiseDock_standing (n : DockNotice) (s : State) : Standing s (raiseDock n s) := ⟨fun _ h => h, fun _ h => and_or_mono _ h⟩

theorem recompute_standing (s : State) : Standing s (recompute s) := by
  rw [recompute_spec]
  refine ⟨fun n h => ?_, fun _ h => h⟩
  unfold State.noted
  dsimp only
  split
  · exact and_or_mono _ h
  · exact h

theorem cancelShelf_standing (s : State) : Standing s (cancelShelf s) := by
  unfold cancelShelf
  split
  · exact Standing.refl s
  · exact raiseHandle_standing _ _

theorem setCharge_standing (st : ChargeState) (s : State) : Standing s (setCharge st s) := by
  rcases setCharge_cases st s with ⟨-, e⟩ | ⟨-, e⟩ <;> rw [e]
  · exact Standing.refl s
  · exact raiseHandle_standing _ _

theorem putOrder_standing (current ceil : Nat) (s : State) : Standing s (putOrder current ceil s) := by
  rcases putOrder_cases current ceil s with ⟨-, -, e⟩ | ⟨-, e⟩ <;> rw [e]
  · exact Standing.refl s
  · exact raiseDock_standing _ _

end Sys2Proof.Machine
end

section
/-! PROOFS. The suction states (04, sections 4.1 to 4.3): what each exchange leaves, and the commands of the trigger, the timers, the tach
and the lock. -/

namespace Sys2Proof.Machine

/-! ## What an exchange of the regulator touches -/

/-- `t` is `s` but for the path and the grants, the regulator, the gauge, the charge controller, the notices and the choices made. -/
def ByMotor (s t : State) : Prop :=
  ∃ (a : Arbiter) (u : Suction) (b : Bin) (c : Charger) (k : Nat) (h : BitVec 15) (w : BitVec 1) (d : BitVec 3),
    t = { s with
      arb := { a with suction := s.arb.suction, brush := s.arb.brush, free := s.arb.free }
      suc := u, bin := b, chg := c, choices := k
      ports := { s.ports with handleNotes := h, wandNotes := w, dockNotes := d } }

theorem ByMotor.refl (s : State) : ByMotor s s := ⟨s.arb, _, _, _, _, _, _, _, rfl⟩

theorem ByMotor.trans {s t u : State} (h : ByMotor s t) (k : ByMotor t u) : ByMotor s u := by
  obtain ⟨_, _, _, _, _, _, _, _, rfl⟩ := h
  obtain ⟨a, _, _, _, _, _, _, _, rfl⟩ := k
  exact ⟨a, _, _, _, _, _, _, _, rfl⟩

theorem ByCharger.byMotor {s t : State} (h : ByCharger s t) : ByMotor s t := by
  obtain ⟨p, w, _, _, _, rfl⟩ := h
  exact ⟨{ s.arb with path := p, waiting := w }, _, _, _, _, _, _, _, rfl⟩

theorem suc_byMotor (s : State) (u : Suction) : ByMotor s { s with suc := u } := ⟨s.arb, _, _, _, _, _, _, _, rfl⟩

theorem raiseHandle_byMotor (n : HandleNotice) (s : State) : ByMotor s (raiseHandle n s) := ⟨s.arb, _, _, _, _, _, _, _, rfl⟩

theorem recompute_byMotor (s : State) : ByMotor s (recompute s) := by
  rw [recompute_spec]
  exact ⟨s.formGrants, _, _, _, _, _, _, _, rfl⟩

/-- The gauge after a measurement in flight, if any, is aborted (06 R117). -/
def Bin.aborted (b : Bin) : Bin :=
  if b.meas.isSome = true then { b with meas := none, lastResult := .stale, seq := (b.seq + 1) % 256 } else b

/-- The gauge with its automatic measurement started, where the bin is fitted and none is in flight (06 R116). -/
def Bin.measuring (t : Settings) (b : Bin) : Bin := if b.state ≠ .detached ∧ b.meas = none then b.start t else b

theorem abortMeasurement_spec (s : State) :
    ByMotor s (abortMeasurement s) ∧ Standing s (abortMeasurement s) ∧ (abortMeasurement s).bin = s.bin.aborted
      ∧ (abortMeasurement s).suc = s.suc ∧ (abortMeasurement s).arb = s.arb ∧ (abortMeasurement s).chg = s.chg
      ∧ (s.bin.meas.isSome = true → (abortMeasurement s).noted .binDone ∧ (abortMeasurement s).dockNoted .binDone) := by
  unfold abortMeasurement Bin.aborted
  split
  · refine ⟨⟨s.arb, _, _, _, _, _, _, _, rfl⟩, ?_, rfl, rfl, rfl, rfl, fun _ => ⟨?_, ?_⟩⟩
    · exact Standing.trans (t := raiseHandle .binDone { s with bin := _ }) (raiseHandle_standing _ _) (raiseDock_standing _ _)
    · exact noted_raise _ _
    · exact dockNoted_raise _ _
  · rename_i rests
    exact ⟨ByMotor.refl s, Standing.refl s, rfl, rfl, rfl, rfl, fun flies => absurd flies rests⟩

/-- The gauge's automatic start with MEN off. -/
theorem autoMeasure_off {s : State} (off : s.men = false) : autoMeasure s = { s with bin := s.bin.measuring s.settings } := by
  unfold autoMeasure Bin.measuring
  rw [off]
  split <;> split <;> simp_all

/-- With MEN on the gauge starts nothing. -/
theorem autoMeasure_on {s : State} (on : s.men = true) : autoMeasure s = s := by
  unfold autoMeasure
  rw [on]
  simp

/-- A DETACHED bin is measured by nothing. -/
theorem autoMeasure_detached {s : State} (h : s.bin.state = .detached) : autoMeasure s = s := by
  unfold autoMeasure
  rw [h]
  rfl

/-- Entry to STARTING with the path held (04 R72, 06 R117). -/
theorem enterStarting_spec {s : State} (path : s.arb.path = .discharge) :
    ByMotor s (enterStarting s) ∧ Standing s (enterStarting s) ∧ (enterStarting s).suc = s.suc.toStarting s.now
      ∧ (enterStarting s).bin = s.bin.aborted ∧ (enterStarting s).chg = s.chg
      ∧ (enterStarting s).arb.path = .discharge ∧ (enterStarting s).arb.waiting = s.arb.waiting ∧ Granted (enterStarting s)
      ∧ (s.bin.meas.isSome = true → (enterStarting s).noted .binDone) := by
  obtain ⟨frame, stands, bin, suc, arb, chg, done⟩ := abortMeasurement_spec { s with suc := s.suc.toStarting s.now }
  have men : ({ s with suc := s.suc.toStarting s.now } : State).men = true := by
    unfold State.men
    rw [path]
    rfl
  have entered : enterStarting s = recompute (abortMeasurement { s with suc := s.suc.toStarting s.now }) := by
    unfold enterStarting
    dsimp only
    rw [if_pos men]
  rw [entered]
  refine ⟨(suc_byMotor s _).trans (frame.trans (recompute_byMotor _)), ?_, ?_, ?_, ?_, ?_, ?_, recompute_granted _, fun flies => ?_⟩
  · exact Standing.trans (Standing.of_eq rfl rfl) (stands.trans (recompute_standing _))
  · rw [recompute_suc_rest (by rw [suc]; rfl), suc]
  · rw [recompute_bin, bin]
  · rw [recompute_chg, chg]
  · rw [recompute_arb]
    change (abortMeasurement _).arb.path = _
    rw [arb]
    exact path
  · rw [recompute_arb]
    change (abortMeasurement _).arb.waiting = _
    rw [arb]
  · exact (recompute_standing _).1 _ (done flies).1

/-! ## TAKEN at the charge controller (08 R144) -/

/-- The latest valid scan lets the controller charge (08 R144). -/
def State.admits (s : State) : Prop :=
  s.smp.invalidCount < 3
    ∧ (s.chg.latest.any fun v =>
      !v.thermFault && v.tmin.all (fun x => decide (s.settings.chgTlo ≤ x))
        && v.tmax.all (fun x => decide (x ≤ s.settings.chgThi))) = true

theorem outsideWindow_iff (t : Settings) (tmin tmax : Option Int) :
    outsideWindow t tmin tmax = false
      ↔ tmin.all (fun x => decide (t.chgTlo ≤ x)) = true ∧ tmax.all (fun x => decide (x ≤ t.chgThi)) = true := by
  unfold outsideWindow
  cases tmin <;> cases tmax <;> simp

theorem chg_standing (s : State) (c : Charger) : Standing s { s with chg := c } := Standing.of_eq rfl rfl

theorem reformOrder_standing (s : State) : Standing s (reformOrder s) := putOrder_standing _ _ s

theorem pauseCharge_standing (reason : PauseReason) (s : State) : Standing s (pauseCharge reason s) :=
  (setCharge_standing .paused s).trans ((chg_standing _ _).trans (reformOrder_standing _))

theorem beginPrecharge_standing (s : State) : Standing s (beginPrecharge s) :=
  (setCharge_standing .precharge s).trans ((chg_standing _ _).trans (reformOrder_standing _))

theorem beginBulk_standing (s : State) : Standing s (beginBulk s) :=
  (setCharge_standing .bulk s).trans ((chg_standing _ _).trans (reformOrder_standing _))

theorem putOrder_state (current ceil : Nat) (s : State) : (putOrder current ceil s).chg.state = s.chg.state := by rw [putOrder_eq]

theorem pauseCharge_spec (reason : PauseReason) (s : State) :
    (pauseCharge reason s).arb = s.arb ∧ (pauseCharge reason s).chg.state = .paused := by
  unfold pauseCharge reformOrder
  exact ⟨(putOrder_arb _ _ _).trans (setCharge_arb _ s), (putOrder_state _ _ _).trans (by rw [setCharge_eq])⟩

theorem beginPrecharge_spec (s : State) :
    (beginPrecharge s).arb = s.arb ∧ (beginPrecharge s).chg.state = .precharge := by
  unfold beginPrecharge reformOrder
  exact ⟨(putOrder_arb _ _ _).trans (setCharge_arb _ s), (putOrder_state _ _ _).trans (by rw [setCharge_eq])⟩

theorem beginBulk_spec (s : State) : (beginBulk s).arb = s.arb ∧ (beginBulk s).chg.state = .bulk := by
  unfold beginBulk reformOrder
  exact ⟨(putOrder_arb _ _ _).trans (setCharge_arb _ s), (putOrder_state _ _ _).trans (by rw [setCharge_eq])⟩

/-- The latest scan admits the charge where it has no thermistor fault and lies in the window. -/
theorem admits_iff {s : State} {v : LatestValues} (latest : s.chg.latest = some v) :
    s.admits ↔ s.smp.invalidCount < 3 ∧ v.thermFault = false ∧ outsideWindow s.settings v.tmin v.tmax = false := by
  unfold State.admits
  rw [latest, outsideWindow_iff]
  simp [and_assoc]

/-- Entry selection pauses, and gives the path up, where the latest scan does not allow the charge. -/
theorem entrySelection_refused {s : State} (h : ¬s.admits) :
    ∃ reason, entrySelection s = (arbRelease .charger (pauseCharge reason s)).1 := by
  unfold entrySelection
  split
  · exact ⟨_, rfl⟩
  · rename_i v latest
    rw [admits_iff latest] at h
    split
    · exact ⟨_, rfl⟩
    · rename_i heard
      split
      · exact ⟨_, rfl⟩
      · rename_i sound
        split
        · exact ⟨_, rfl⟩
        · rename_i inside
          exact absurd ⟨by omega, Bool.eq_false_iff.2 sound, Bool.eq_false_iff.2 inside⟩ h

/-- Entry selection charges where it does. -/
theorem entrySelection_admitted {s : State} (h : s.admits) : entrySelection s = beginPrecharge s ∨ entrySelection s = beginBulk s := by
  unfold entrySelection
  split
  · rename_i latest
    have lacks := h.2
    simp [latest] at lacks
  · rename_i v latest
    obtain ⟨heard, sound, inside⟩ := (admits_iff latest).1 h
    rw [if_neg (by omega), if_neg (by simp [sound]), if_neg (by simp [inside])]
    split
    · exact Or.inl rfl
    · exact Or.inr rfl

/-- What the controller that has just taken the path makes of it. -/
theorem entrySelection_taken {s : State} (path : s.arb.path = .charge) (waiting : s.arb.waiting = none) :
    Standing s (entrySelection s)
      ∧ (s.admits → (entrySelection s).arb = s.arb
        ∧ ((entrySelection s).chg.state = .precharge ∨ (entrySelection s).chg.state = .bulk))
      ∧ (¬s.admits → (entrySelection s).arb = { s.arb with path := .idle } ∧ (entrySelection s).chg.state = .paused) := by
  by_cases h : s.admits
  · refine ⟨?_, fun _ => ?_, fun refused => absurd h refused⟩
    · rcases entrySelection_admitted h with e | e <;> rw [e]
      · exact beginPrecharge_standing s
      · exact beginBulk_standing s
    · rcases entrySelection_admitted h with e | e <;> rw [e]
      · exact ⟨(beginPrecharge_spec s).1, Or.inl (beginPrecharge_spec s).2⟩
      · exact ⟨(beginBulk_spec s).1, Or.inr (beginBulk_spec s).2⟩
  · obtain ⟨reason, e⟩ := entrySelection_refused h
    obtain ⟨arb, state⟩ := pauseCharge_spec reason s
    have released : entrySelection s = { pauseCharge reason s with arb := { (pauseCharge reason s).arb with path := .idle } } := by
      rw [e]
      unfold arbRelease
      rw [if_pos (by rw [arb]; exact path), arb, waiting]
    rw [released]
    refine ⟨?_, fun admitted => absurd admitted h, fun _ => ⟨?_, state⟩⟩
    · exact (pauseCharge_standing reason s).trans (Standing.of_eq rfl rfl)
    · dsimp only
      rw [arb]

/-- The regulator's release of the path, with nobody or the charger waiting (03 R61). -/
theorem releaseSuction_spec {s : State} (path : s.arb.path = .discharge)
    (waits : s.arb.waiting = none ∨ s.arb.waiting = some .charger ∧ s.chg.state = .waitIdle) :
    Standing s (releaseSuction s) ∧ (releaseSuction s).arb.waiting = none ∧ (releaseSuction s).arb.path ≠ .discharge
      ∧ (s.arb.waiting = none → (releaseSuction s).arb.path = .idle ∧ (releaseSuction s).chg = s.chg)
      ∧ (s.arb.waiting = some .charger →
        (s.admits → (releaseSuction s).arb.path = .charge
          ∧ ((releaseSuction s).chg.state = .precharge ∨ (releaseSuction s).chg.state = .bulk))
        ∧ (¬s.admits → (releaseSuction s).arb.path = .idle ∧ (releaseSuction s).chg.state = .paused)) := by
  rcases releaseSuction_cases s with ⟨other, -⟩ | ⟨-, none_, e⟩ | ⟨-, own, -⟩ | ⟨-, charger, e⟩
  · exact absurd path other
  · rw [e]
    exact ⟨Standing.of_eq rfl rfl, none_, nofun, fun _ => ⟨rfl, rfl⟩, fun h => absurd (none_.symm.trans h) nofun⟩
  · rcases waits with h | ⟨h, -⟩ <;> rw [own] at h <;> cases h
  · have state : s.chg.state = .waitIdle := by
      rcases waits with h | ⟨-, h⟩
      · rw [charger] at h; cases h
      · exact h
    have taken := entrySelection_taken (s := { s with arb := { s.arb with path := .charge, waiting := none } }) rfl rfl
    have given : releaseSuction s = entrySelection { s with arb := { s.arb with path := .charge, waiting := none } } := by
      rw [e]
      unfold chargeTaken
      exact if_neg (by rw [state]; decide)
    rw [given, charger]
    obtain ⟨stands, admitted, refused⟩ := taken
    by_cases h : s.admits
    · obtain ⟨arb, charges⟩ := admitted h
      rw [arb]
      exact ⟨Standing.trans (Standing.of_eq rfl rfl) stands, rfl, nofun, nofun, fun _ => ⟨fun _ => ⟨rfl, charges⟩, fun no => absurd h no⟩⟩
    · obtain ⟨arb, pauses⟩ := refused h
      rw [arb]
      exact ⟨Standing.trans (Standing.of_eq rfl rfl) stands, rfl, nofun, nofun, fun _ => ⟨fun yes => absurd yes h, fun _ => ⟨rfl, pauses⟩⟩⟩

/-! ## The end of STOPPING (04 R74) -/

/-- The path and the charge controller as a release by the regulator leaves them. -/
def Released (s t : State) : Prop :=
  t.arb.waiting = none ∧ t.arb.path ≠ .discharge
    ∧ (s.arb.waiting = none → t.arb.path = .idle ∧ t.chg = s.chg)
    ∧ (s.arb.waiting = some .charger →
      (s.admits → t.arb.path = .charge ∧ (t.chg.state = .precharge ∨ t.chg.state = .bulk))
        ∧ (¬s.admits → t.arb.path = .idle ∧ t.chg.state = .paused))

/-- The regulator at rest after its release of the path, with the grants recomputed. -/
def State.afterRelease (s : State) (u : Suction) : State := recompute (releaseSuction { s with suc := u })

/-- A regulator that drives nothing is granted nothing. -/
theorem demandS_rest {s : State} (rests : s.suc.state.steered = false) : s.demandS = 0 := demandS_zero (Or.inr (Or.inl rests))

theorem afterRelease_spec {s : State} {u : Suction} (path : s.arb.path = .discharge)
    (waits : s.arb.waiting = none ∨ s.arb.waiting = some .charger ∧ s.chg.state = .waitIdle) (target : u.target = 0)
    (rests : u.state.steered = false) :
    ByMotor s (s.afterRelease u) ∧ Standing s (s.afterRelease u) ∧ (s.afterRelease u).suc = u ∧ (s.afterRelease u).bin = s.bin
      ∧ (s.afterRelease u).choices = s.choices ∧ Released s (s.afterRelease u)
      ∧ (s.afterRelease u).arb.ds = 0 ∧ (s.afterRelease u).arb.gs = 0 := by
  obtain ⟨stands, waiting, leaves, idle, charger⟩ := releaseSuction_spec (s := { s with suc := u }) path waits
  have suc : (s.afterRelease u).suc = u := by
    unfold State.afterRelease
    rw [recompute_suc_rest (by rw [releaseSuction_suc]; exact target), releaseSuction_suc]
  have rest := (recompute_granted (releaseSuction { s with suc := u })).rest (demandS_rest (by
    rw [show (recompute (releaseSuction { s with suc := u })).suc = u from suc]; exact rests))
  refine ⟨?_, ?_, suc, ?_, ?_, ?_, rest⟩
  · exact (suc_byMotor s u).trans ((releaseSuction_byCharger _).byMotor.trans (recompute_byMotor _))
  · exact Standing.trans (Standing.of_eq rfl rfl) (stands.trans (recompute_standing _))
  · unfold State.afterRelease
    rw [recompute_bin, releaseSuction_bin]
  · unfold State.afterRelease
    obtain ⟨_, _, _, _, _, e⟩ := releaseSuction_byCharger { s with suc := u }
    rw [recompute_choices, e]
  · unfold Released State.afterRelease
    rw [recompute_arb, recompute_chg]
    exact ⟨waiting, leaves, idle, charger⟩

theorem endStopping_eq (s : State) : endStopping s = afterStopped (s.afterRelease s.suc.toStopped) := rfl

/-- The end of STOPPING with no run request: STOPPED, and the gauge's automatic measurement. -/
theorem endStopping_absent {s : State} (path : s.arb.path = .discharge)
    (waits : s.arb.waiting = none ∨ s.arb.waiting = some .charger ∧ s.chg.state = .waitIdle) (absent : s.runRequest = false) :
    ByMotor s (endStopping s) ∧ Standing s (endStopping s) ∧ (endStopping s).suc = s.suc.toStopped
      ∧ (endStopping s).bin = s.bin.measuring s.settings ∧ (endStopping s).choices = s.choices ∧ Released s (endStopping s)
      ∧ (endStopping s).arb.ds = 0 ∧ (endStopping s).arb.gs = 0 := by
  obtain ⟨frame, stands, suc, bin, choices, released, ds, gs⟩ := afterRelease_spec (u := s.suc.toStopped) path waits rfl rfl
  have run : (s.afterRelease s.suc.toStopped).runRequest = false := by
    unfold State.runRequest
    rw [suc]
    exact absent
  have men : (s.afterRelease s.suc.toStopped).men = false := by
    unfold State.men
    rw [suc]
    rfl
  have settings : (s.afterRelease s.suc.toStopped).settings = s.settings := by
    obtain ⟨_, _, _, _, _, _, _, _, e⟩ := frame
    rw [e]
  have gauge : (s.afterRelease s.suc.toStopped).bin.measuring (s.afterRelease s.suc.toStopped).settings
      = s.bin.measuring s.settings := by rw [bin, settings]
  have ends : endStopping s
      = { s.afterRelease s.suc.toStopped with bin := s.bin.measuring s.settings } := by
    rw [endStopping_eq]
    unfold afterStopped
    rw [if_neg (by rw [run]; decide), autoMeasure_off men, gauge]
  rw [ends]
  refine ⟨frame.trans ⟨_, _, _, _, _, _, _, _, rfl⟩, stands.trans (Standing.of_eq rfl rfl), suc, rfl, choices, released, ds, gs⟩

/-! ## A new run at the end of STOPPING (04 R70) -/

/-- No shelf entry is pending and no deep-discharge timer runs. -/
def State.unshelved (s : State) : Prop := s.pwr.entry = .none ∧ s.pwr.deepTimer = none

/-- With no shelf entry pending and no timer running, a change away from IDLE cancels nothing. -/
theorem cancels_nothing {s : State} (h : s.unshelved) : stopDeepTimer (cancelShelf s) = s := by
  obtain ⟨entry, timer⟩ := h
  have stands : cancelShelf s = s := if_pos entry
  rw [stands]
  unfold stopDeepTimer
  rw [← timer]

/-- What an arrival of the run request in STOPPED leaves, with the bin fitted and the path IDLE. -/
theorem arriveStopped_idle {s : State} (fitted : s.bin.state ≠ .detached) (path : s.arb.path = .idle) (quiet : s.unshelved) :
    ByMotor s (arriveStopped s) ∧ Standing s (arriveStopped s) ∧ (arriveStopped s).suc = s.suc.toStarting s.now
      ∧ (arriveStopped s).bin = s.bin.aborted ∧ (arriveStopped s).chg = s.chg ∧ (arriveStopped s).arb.path = .discharge
      ∧ (arriveStopped s).arb.waiting = none ∧ (s.bin.meas.isSome = true → (arriveStopped s).noted .binDone) := by
  rcases arriveStopped_cases s with ⟨no, -⟩ | ⟨-, -, e⟩ | ⟨-, no, -⟩ | ⟨-, no, -⟩
  · exact absurd no fitted
  · rw [e, cancels_nothing (s := { s with arb := { s.arb with path := .discharge, waiting := none } }) quiet]
    obtain ⟨frame, stands, suc, bin, chg, held, wait, -, done⟩ :=
      enterStarting_spec (s := { s with arb := { s.arb with path := .discharge, waiting := none } }) rfl
    refine ⟨ByMotor.trans ⟨{ s.arb with path := .discharge, waiting := none }, _, _, _, _, _, _, _, rfl⟩ frame,
      Standing.trans (Standing.of_eq rfl rfl) stands, suc, bin, chg, held, wait, done⟩
  · rw [path] at no; cases no
  · rw [path] at no; cases no

/-- The state of a run that waits for the path, before its recomputation. -/
def State.runWaits (s : State) : State :=
  { s with arb := { s.arb with waiting := some .suction }, suc := { s.suc with state := .waitPath } }

/-- The same with the charger on the path: the run waits. -/
theorem arriveStopped_charge {s : State} (fitted : s.bin.state ≠ .detached) (path : s.arb.path = .charge) (target : s.suc.target = 0) :
    ByMotor s (arriveStopped s) ∧ Standing s (arriveStopped s) ∧ (arriveStopped s).suc = { s.suc with state := .waitPath }
      ∧ (arriveStopped s).bin = s.bin ∧ (arriveStopped s).chg = s.chg ∧ (arriveStopped s).arb.path = .charge
      ∧ (arriveStopped s).arb.waiting = some .suction ∧ (arriveStopped s).noted .runWait
      ∧ (arriveStopped s).choices = s.choices := by
  rcases arriveStopped_cases s with ⟨no, -⟩ | ⟨-, no, -⟩ | ⟨-, no, -⟩ | ⟨-, -, e⟩
  · exact absurd no fitted
  · rw [path] at no; cases no
  · rw [path] at no; cases no
  · have waits : arriveStopped s = raiseHandle .runWait (recompute s.runWaits) := e
    have frame : ByMotor s s.runWaits :=
      ⟨{ s.arb with waiting := some .suction }, { s.suc with state := .waitPath }, _, _, _, _, _, _, rfl⟩
    have stands : Standing s s.runWaits := Standing.of_eq rfl rfl
    rw [waits]
    refine ⟨frame.trans ((recompute_byMotor _).trans (raiseHandle_byMotor _ _)),
      stands.trans ((recompute_standing _).trans (raiseHandle_standing _ _)), ?_, ?_, ?_, ?_, ?_, noted_raise _ _, ?_⟩
    · rw [raiseHandle_suc, recompute_suc_rest (s := s.runWaits) target]
      rfl
    · rw [raiseHandle_bin, recompute_bin]
      rfl
    · rw [raiseHandle_chg, recompute_chg]
      rfl
    · rw [raiseHandle_arb, recompute_arb]
      exact path
    · rw [raiseHandle_arb, recompute_arb]
      rfl
    · rw [raiseHandle_choices, recompute_choices]
      rfl

theorem measuring_aborted (t : Settings) {b : Bin} (fitted : b.state ≠ .detached) :
    (b.measuring t).aborted = { b with meas := none, lastResult := .stale, seq := (b.seq + 1) % 256 } := by
  unfold Bin.measuring
  by_cases rests : b.meas = none
  · rw [if_pos ⟨fitted, rests⟩]
    rfl
  · rw [if_neg (fun h => rests h.2)]
    exact if_pos (Option.isSome_iff_ne_none.2 rests)

theorem measuring_flies (t : Settings) {b : Bin} (fitted : b.state ≠ .detached) : (b.measuring t).meas.isSome = true := by
  unfold Bin.measuring
  by_cases rests : b.meas = none
  · rw [if_pos ⟨fitted, rests⟩]
    rfl
  · rw [if_neg (fun h => rests h.2)]
    exact Option.isSome_iff_ne_none.2 rests

/-- What a driving regulator meets: the path its own, nobody waiting or the charger, no shelf entry (04, section 4.2; 10 R178). -/
def State.holdsPath (s : State) : Prop :=
  s.arb.path = .discharge ∧ (s.arb.waiting = none ∨ s.arb.waiting = some .charger ∧ s.chg.state = .waitIdle) ∧ s.unshelved

theorem pathOk_holds {s : State} (h : PathOk s) (drives : s.suc.state.driving = true) : s.holdsPath := by
  obtain ⟨path, -, -, charger, own, -, -, -, -, entry, deep⟩ := h
  have held := path.2 drives
  refine ⟨held, ?_, ?_, ?_⟩
  · cases waiting : s.arb.waiting with
    | none => exact Or.inl rfl
    | some side =>
      cases side with
      | suction => exact absurd (held.symm.trans (own waiting)) nofun
      | charger => exact Or.inr ⟨rfl, charger.1 waiting⟩
  · by_contra pending
    exact absurd (held.symm.trans (entry pending).1) nofun
  · by_contra running
    exact absurd (held.symm.trans (deep (Option.isSome_iff_ne_none.2 running)).1) nofun

/-- The end of STOPPING with a run request: the entry to STOPPED, and the arrival that the gauge meets before or after. -/
theorem endStopping_present {s : State} (holds : s.holdsPath) (run : s.runRequest = true) :
    ∃ r : State, (endStopping s = arriveStopped (autoMeasure r) ∨ endStopping s = autoMeasure (arriveStopped r))
      ∧ ByMotor s r ∧ Standing s r ∧ r.suc = s.suc.toStopped ∧ r.bin = s.bin ∧ Released s r ∧ r.arb.gs = 0 ∧ r.men = false
      ∧ r.unshelved ∧ r.now = s.now ∧ r.settings = s.settings := by
  obtain ⟨path, waits, quiet⟩ := holds
  obtain ⟨frame, stands, suc, bin, choices, released, ds, gs⟩ := afterRelease_spec (u := s.suc.toStopped) path waits rfl rfl
  have runs : (s.afterRelease s.suc.toStopped).runRequest = true := by
    unfold State.runRequest
    rw [suc]
    exact run
  have men : (s.afterRelease s.suc.toStopped).men = false := by
    unfold State.men
    rw [suc]
    rfl
  refine ⟨{ s.afterRelease s.suc.toStopped with choices := s.choices + 1 }, ?_, frame.trans ⟨Arbiter.mk _ _ _ _ _ _ _ _ _ _ _ _, _, _, _, _, _, _, _, rfl⟩,
    stands.trans (Standing.of_eq rfl rfl), suc, bin, released, gs, men, ?_⟩
  · rw [endStopping_eq]
    unfold afterStopped
    rw [if_pos runs, choices]
    dsimp only
    split
    · exact Or.inl rfl
    · exact Or.inr rfl
  · obtain ⟨_, _, _, _, _, _, _, _, e⟩ := frame
    rw [e]
    exact ⟨quiet, rfl, rfl⟩

section
variable {r t : State}

/-- A run that meets a DETACHED bin at the entry to STOPPED. -/
theorem restart_detached (h : t = arriveStopped (autoMeasure r) ∨ t = autoMeasure (arriveStopped r)) (out : r.bin.state = .detached) :
    t = raiseHandle .binOpen r := by
  have refused : arriveStopped r = raiseHandle .binOpen r := if_pos out
  rcases h with rfl | rfl
  · rw [autoMeasure_detached out, refused]
  · rw [refused, autoMeasure_detached (s := raiseHandle .binOpen r) out]

/-- A run that finds the path free at the entry to STOPPED: the gauge started nothing, or had it aborted. -/
theorem restart_idle (h : t = arriveStopped (autoMeasure r) ∨ t = autoMeasure (arriveStopped r)) (fitted : r.bin.state ≠ .detached)
    (path : r.arb.path = .idle) (quiet : r.unshelved) (men : r.men = false) :
    ByMotor r t ∧ Standing r t ∧ t.suc = r.suc.toStarting r.now ∧ t.chg = r.chg ∧ t.arb.path = .discharge ∧ t.arb.waiting = none
      ∧ ((r.bin.meas = none ∧ t.bin = r.bin)
        ∨ t.bin = { r.bin with meas := none, lastResult := .stale, seq := (r.bin.seq + 1) % 256 } ∧ t.noted .binDone) := by
  rcases h with rfl | rfl
  · rw [autoMeasure_off men]
    obtain ⟨frame, stands, suc, bin, chg, held, waiting, done⟩ :=
      arriveStopped_idle (s := { r with bin := r.bin.measuring r.settings })
        (by dsimp only; unfold Bin.measuring; split <;> exact fitted) path quiet
    refine ⟨ByMotor.trans ⟨r.arb, _, _, _, _, _, _, _, rfl⟩ frame, Standing.trans (Standing.of_eq rfl rfl) stands, suc, chg, held,
      waiting, Or.inr ⟨bin.trans (measuring_aborted _ fitted), done (measuring_flies _ fitted)⟩⟩
  · obtain ⟨frame, stands, suc, bin, chg, held, waiting, done⟩ := arriveStopped_idle fitted path quiet
    have on : (arriveStopped r).men = true := by
      unfold State.men
      rw [suc, held]
      rfl
    rw [autoMeasure_on on]
    refine ⟨frame, stands, suc, chg, held, waiting, ?_⟩
    unfold Bin.aborted at bin
    by_cases flies : r.bin.meas.isSome = true
    · rw [if_pos flies] at bin
      exact Or.inr ⟨bin, done flies⟩
    · rw [if_neg flies] at bin
      exact Or.inl ⟨by simpa using flies, bin⟩

/-- A run that finds the charger on the path at the entry to STOPPED waits, and the gauge measures. -/
theorem restart_charge (h : t = arriveStopped (autoMeasure r) ∨ t = autoMeasure (arriveStopped r)) (fitted : r.bin.state ≠ .detached)
    (path : r.arb.path = .charge) (target : r.suc.target = 0) (men : r.men = false) :
    ByMotor r t ∧ Standing r t ∧ t.suc = { r.suc with state := .waitPath } ∧ t.chg = r.chg ∧ t.arb.path = .charge
      ∧ t.arb.waiting = some .suction ∧ t.bin = r.bin.measuring r.settings ∧ t.noted .runWait := by
  rcases h with rfl | rfl
  · rw [autoMeasure_off men]
    obtain ⟨frame, stands, suc, bin, chg, held, waiting, noted, -⟩ :=
      arriveStopped_charge (s := { r with bin := r.bin.measuring r.settings })
        (by dsimp only; unfold Bin.measuring; split <;> exact fitted) path target
    exact ⟨ByMotor.trans ⟨r.arb, _, _, _, _, _, _, _, rfl⟩ frame, Standing.trans (Standing.of_eq rfl rfl) stands, suc, chg, held,
      waiting, bin, noted⟩
  · obtain ⟨frame, stands, suc, bin, chg, held, waiting, noted, -⟩ := arriveStopped_charge fitted path target
    have off : (arriveStopped r).men = false := by
      unfold State.men
      rw [held]
      simp
    have settings : (arriveStopped r).settings = r.settings := by
      obtain ⟨_, _, _, _, _, _, _, _, e⟩ := frame
      rw [e]
    rw [autoMeasure_off off]
    exact ⟨frame.trans ⟨_, _, _, _, _, _, _, _, rfl⟩, stands.trans (Standing.of_eq rfl rfl), suc, chg, held, waiting,
      by dsimp only; rw [bin, settings], noted⟩

end

/-- `t` is `s` with what an event notes for itself: the generations and the moment of the last switch change. -/
def NotedEvent (s t : State) : Prop := ∃ g m, t = { s with gens := g, smp := { s.smp with lastSwitch := m } }

theorem event_noted (f : State → State) (s : State) : NotedEvent (f s) (event f s) := ⟨_, _, rfl⟩

/-- The end of STOPPING from a regulator `u` leaves what `StoppingEnds` says. -/
theorem stoppingEnds {s t : State} {now : Nat} {u : Suction} (h : PathOk s) (drives : s.suc.state.driving = true)
    (same : u.pressed = s.suc.pressed ∧ u.lock = s.suc.lock)
    (ends : NotedEvent (endStopping { s with now := now, suc := u }) t) : StoppingEnds now u s t := by
  have holds : ({ s with now := now, suc := u } : State).holdsPath := by
    have hs := pathOk_holds h drives
    exact hs
  have run : ({ s with now := now, suc := u } : State).runRequest = s.runRequest := by
    unfold State.runRequest
    rw [same.1, same.2]
  have gauge : ∀ b : Bin, b = s.bin → b.measuring s.settings
      = (if s.bin.state ≠ .detached ∧ s.bin.meas = none then
          { s.bin with
            meas :=
              some ⟨1, s.bin.workStep, s.settings.refwin, s.settings.double, s.settings.hop, s.settings.hopTol, s.bin.lastTry⟩ }
        else s.bin) := by
    rintro b rfl
    rfl
  obtain ⟨g, m, rfl⟩ := ends
  cases runs : s.runRequest with
  | false =>
    obtain ⟨frame, stands, suc, bin, choices, ⟨waiting, leaves, idle, charger⟩, ds, gs⟩ :=
      endStopping_absent holds.1 holds.2.1 (run.trans runs)
    have absent : ¬(s.runRequest = true ∧ s.bin.state ≠ .detached) := fun no => absurd (runs.symm.trans no.1) nofun
    have men : (endStopping { s with now := now, suc := u }).men = false := by
      unfold State.men
      rw [suc]
      rfl
    refine ⟨?_, ?_, fun none_ => (idle none_).2, fun w admitted => (charger w).1 admitted, fun w refused => ?_, fun _ => ?_,
      fun _ => bin.trans (gauge _ rfl), fun no => absurd (runs.symm.trans no) nofun, fun no => absurd no absent,
      fun no => absurd no absent, fun no => absurd no absent⟩
    · obtain ⟨_, _, _, _, _, _, _, _, e⟩ := frame
      rw [e]
    · obtain ⟨_, _, _, _, _, _, _, _, e⟩ := frame
      rw [e]
      exact ⟨rfl, rfl, rfl⟩
    · obtain ⟨path, state⟩ := (charger w).2 refused
      exact ⟨by dsimp only; rw [path]; decide, state⟩
    · exact ⟨suc, men, leaves, waiting, gs, fun none_ => (idle none_).1⟩
  | true =>
    obtain ⟨r, ends, frame, stands, suc, bin, ⟨waiting, leaves, idle, charger⟩, gs, men, quiet, now_, settings⟩ :=
      endStopping_present holds (run.trans runs)
    have frame_ {y : State} (k : ByMotor r y) : y = { ({ s with now := now, suc := u } : State) with
          arb := y.arb, suc := y.suc, bin := y.bin, chg := y.chg, choices := y.choices
          ports := { s.ports with
            handleNotes := y.ports.handleNotes, wandNotes := y.ports.wandNotes, dockNotes := y.ports.dockNotes } }
        ∧ y.arb.suction = s.arb.suction ∧ y.arb.brush = s.arb.brush ∧ y.arb.free = s.arb.free := by
      obtain ⟨_, _, _, _, _, _, _, _, e⟩ := frame.trans k
      rw [e]
      exact ⟨rfl, rfl, rfl, rfl⟩
    generalize endStopping { s with now := now, suc := u } = y at ends ⊢
    by_cases fitted : s.bin.state = .detached
    · have out : r.bin.state = .detached := by rw [bin]; exact fitted
      have refused := restart_detached ends out
      have absent : ¬(s.runRequest = true ∧ s.bin.state ≠ .detached) := fun no => no.2 fitted
      obtain ⟨e, same_⟩ := frame_ (y := y) (by rw [refused]; exact raiseHandle_byMotor _ _)
      have fields : y.suc = r.suc ∧ y.arb = r.arb ∧ y.chg = r.chg ∧ y.bin = r.bin ∧ y.men = r.men := by
        rw [refused]
        exact ⟨rfl, rfl, rfl, rfl, rfl⟩
      obtain ⟨suc_, arb_, chg_, bin_, men_⟩ := fields
      refine ⟨?_, same_, fun none_ => ?_, fun w admitted => ?_, fun w refused => ?_, fun _ => ?_, fun no => ?_, fun _ _ => ?_,
        fun no => absurd no absent, fun no => absurd no absent, fun no => absurd no absent⟩
      · rw [e]
      · exact chg_.trans (idle none_).2
      · dsimp only
        rw [arb_, chg_]
        exact (charger w).1 admitted
      · obtain ⟨path, state⟩ := (charger w).2 refused
        dsimp only
        rw [arb_, chg_, path]
        exact ⟨nofun, state⟩
      · refine ⟨suc_.trans suc, men_.trans men, ?_⟩
        dsimp only
        rw [arb_]
        exact ⟨leaves, waiting, gs, fun none_ => (idle none_).1⟩
      · exact absurd (runs.symm.trans no) nofun
      · refine ⟨bin_.trans bin, ?_⟩
        have noted : y.noted .binOpen := by rw [refused]; exact noted_raise _ _
        exact noted
    · have fits : r.bin.state ≠ .detached := by rw [bin]; exact fitted
      have present : s.runRequest = true ∧ s.bin.state ≠ .detached := ⟨runs, fitted⟩
      cases path : r.arb.path with
      | discharge => exact absurd path leaves
      | idle =>
        obtain ⟨frame', stands', suc', chg', path', waiting', gauge'⟩ := restart_idle ends fits path quiet men
        obtain ⟨e, same_⟩ := frame_ frame'
        have charges : s.arb.waiting = some .charger → ¬s.admits ∧ y.chg.state = .paused := by
          intro w
          by_cases admitted : s.admits
          · exact absurd (path.symm.trans ((charger w).1 admitted).1) nofun
          · exact ⟨admitted, by rw [chg']; exact ((charger w).2 admitted).2⟩
        have men' : y.men = true := by
          unfold State.men
          rw [suc', path']
          rfl
        rw [bin] at gauge'
        refine ⟨?_, same_, fun none_ => ?_, fun w admitted => absurd admitted (charges w).1, fun w _ => ⟨?_, (charges w).2⟩,
          fun no => absurd present no, fun no => absurd (runs.symm.trans no) nofun, fun _ out => absurd out fitted, fun _ _ => path',
          fun _ _ => ⟨?_, men', path', waiting', fun rests => ?_, fun flies => ?_⟩, fun _ no => absurd (path'.symm.trans no) nofun⟩
        · rw [e]
        · exact chg'.trans (idle none_).2
        · dsimp only
          rw [path']
          nofun
        · dsimp only
          rw [suc', suc, now_]
          rfl
        · rcases gauge' with ⟨-, kept⟩ | aborted
          · exact Or.inl kept
          · exact Or.inr aborted
        · rcases gauge' with ⟨rests, -⟩ | aborted
          · exact absurd rests flies
          · exact aborted
      | charge =>
        obtain ⟨frame', stands', suc', chg', path', waiting', gauge', noted'⟩ :=
          restart_charge ends fits path (by rw [suc]; rfl) men
        obtain ⟨e, same_⟩ := frame_ frame'
        have waits : s.arb.waiting = some .charger := by
          rcases holds.2.1 with w | w
          · exact absurd (path.symm.trans (idle w).1) nofun
          · exact w.1
        have admitted : s.admits := by
          by_contra refused
          exact absurd (path.symm.trans ((charger waits).2 refused).1) nofun
        have men' : y.men = false := by
          unfold State.men
          rw [path']
          simp
        have charges := ((charger waits).1 admitted).2
        rw [← chg'] at charges
        refine ⟨?_, same_, fun none_ => absurd (waits.symm.trans none_) nofun, fun _ _ => ⟨path', charges⟩,
          fun _ refused => absurd admitted refused, fun no => absurd present no, fun no => absurd (runs.symm.trans no) nofun,
          fun _ out => absurd out fitted, fun _ none_ => absurd (waits.symm.trans none_) nofun,
          fun _ no => absurd path' no, fun _ _ => ⟨?_, men', ?_, waiting', ?_, noted'⟩⟩
        · rw [e]
        · dsimp only
          rw [suc', suc]
          rfl
        · unfold State.chgg
          dsimp only
          rw [path']
          rcases charges with state | state <;> rw [state] <;> rfl
        · dsimp only
          rw [gauge', bin, settings]
          exact gauge _ rfl

/-! ## The timers and the tach (04 R72, R74, R81) -/

/-- An event that leaves the switches alone leaves its state but for the generations. -/
theorem sameButGens_event {f : State → State} {s b : State} (h : f s = b) (switches : b.switches = s.switches) :
    SameButGens (event f s) b := by
  rw [← h]
  exact event_eq (by rw [h]; exact switches)

/-- The end of STOPPING with no run request leaves the regulator at rest, whatever the path. -/
theorem endStopping_suc {s : State} (absent : s.runRequest = false) : (endStopping s).suc = s.suc.toStopped := by
  have suc : (s.afterRelease s.suc.toStopped).suc = s.suc.toStopped := by
    unfold State.afterRelease
    rw [recompute_suc_rest (by rw [releaseSuction_suc]; rfl), releaseSuction_suc]
  have run : (s.afterRelease s.suc.toStopped).runRequest = false := by
    unfold State.runRequest
    rw [suc]
    exact absent
  rw [endStopping_eq]
  unfold afterStopped
  rw [if_neg (by rw [run]; decide)]
  unfold autoMeasure
  split
  · exact suc
  · exact suc

theorem stopped_at_rest {x y : State} (e : y = endStopping x) (absent : x.runRequest = false) :
    y.suc.state = .stopped ∧ y.men = false ∧ y.suc.duty = 0 ∧ y.suc.speed = x.suc.speed := by
  have suc : y.suc = x.suc.toStopped := by rw [e, endStopping_suc absent]
  unfold State.men
  rw [suc]
  exact ⟨rfl, rfl, rfl, rfl⟩

/-- Settles O39: the stop timer in STOPPING and out of it. -/
theorem stopEnds : Obligations.StopEnds := by
  intro s h
  refine ⟨fun none_ => ?_, fun d timer other => ?_, fun d timer stopping => ?_⟩
  · change execStopTimerExpiry s = _
    unfold execStopTimerExpiry
    rw [none_]
  · refine ⟨event stopExpires (s.reach d), ?_, sameButGens_event (if_neg other) rfl⟩
    change execStopTimerExpiry s = _
    unfold execStopTimerExpiry
    rw [timer]
  · refine ⟨event stopExpires (s.reach d), ?_, ?_⟩
    · change execStopTimerExpiry s = _
      unfold execStopTimerExpiry
      rw [timer]
    · have ends : stopExpires (s.reach d) = endStopping { s with now := max s.now d, suc := s.suc } := if_pos stopping
      refine stoppingEnds h (by rw [stopping]; rfl) ⟨rfl, rfl⟩ ?_
      rw [← ends]
      exact event_noted _ _

/-- The regulator with a speed taken from a pulse at this moment. -/
def Suction.pulsed (now speed : Nat) (u : Suction) : Suction := { u with lastPulse := some now, speed := speed }

theorem tachPulse_first {s : State} (h : s.suc.lastPulse = none) :
    tachPulse s = { s with suc := { s.suc with lastPulse := some s.now } } := by
  unfold tachPulse
  rw [h]

theorem tachPulse_near {s : State} {p : Nat} (h : s.suc.lastPulse = some p) (near : s.now < p + 250) : tachPulse s = s := by
  unfold tachPulse
  rw [h]
  exact if_pos near

theorem tachPulse_far {s : State} {p : Nat} (h : s.suc.lastPulse = some p) (far : p + 250 ≤ s.now) :
    tachPulse s = speedUpdate (60000000 / (s.now - p)) { s with suc := { s.suc with lastPulse := some s.now } } := by
  unfold tachPulse
  rw [h]
  exact if_neg (by omega)

theorem speedUpdate_keeps {s : State} {speed : Nat} (starting : s.suc.state = .starting → speed < 20000)
    (stopping : s.suc.state = .stopping → 5000 ≤ speed) : speedUpdate speed s = { s with suc := { s.suc with speed := speed } } := by
  unfold speedUpdate
  dsimp only
  split
  · rename_i e; exact if_neg (by have := starting e; omega)
  · rename_i e; exact if_neg (by have := stopping e; omega)
  · rfl

theorem speedUpdate_runs {s : State} {speed : Nat} (starting : s.suc.state = .starting) (fast : 20000 ≤ speed) :
    speedUpdate speed s = enterRunning { s with suc := { s.suc with speed := speed } } := by
  unfold speedUpdate
  simp only [starting]
  exact if_pos fast

theorem speedUpdate_stops {s : State} {speed : Nat} (stopping : s.suc.state = .stopping) (slow : speed < 5000) :
    speedUpdate speed s = endStopping { s with suc := { s.suc with speed := speed } } := by
  unfold speedUpdate
  simp only [stopping]
  exact if_pos slow

theorem exec_tachPulse {s : State} (awake : s.pwr.awake = true) (dt : Nat) :
    exec (.tachPulse dt) s = .next (event tachPulse (s.elapse dt)) := by
  change execTachPulse dt s = _
  unfold execTachPulse
  exact if_pos awake

theorem exec_tachTimeout {s : State} {p : Nat} (awake : s.pwr.awake = true) (h : s.suc.lastPulse = some p) :
    exec .tachTimeout s = .next (event tachQuiet (s.reach (p + 50000))) := by
  change execTachTimeout s = _
  unfold execTachTimeout
  rw [awake, h]
  rfl

/-- Settles O40: the pulses by their distance and the suction state, and the timeout. -/
theorem tachSpeeds : Obligations.TachSpeeds := by
  intro dt s awake
  refine ⟨fun none_ => ⟨⟨_, exec_tachPulse awake dt, sameButGens_event (tachPulse_first none_) rfl⟩, ?_⟩, fun p last => ?_⟩
  · change execTachTimeout s = _
    unfold execTachTimeout
    rw [awake, none_]
  have far_ (far : p + 250 ≤ s.now + dt) := tachPulse_far (s := s.elapse dt) last far
  have slow (far : p + 250 ≤ s.now + dt) (stopping : s.suc.state = .stopping) (below : 60000000 / (s.now + dt - p) < 5000) :
      tachPulse (s.elapse dt)
        = endStopping { s with
            now := s.now + dt
            suc := { s.suc with lastPulse := some (s.now + dt), speed := 60000000 / (s.now + dt - p) } } := by
    rw [far_ far]
    exact speedUpdate_stops stopping below
  have quiet (stopping : s.suc.state = .stopping) :
      tachQuiet (s.reach (p + 50000))
        = endStopping { s with now := max s.now (p + 50000), suc := { s.suc with speed := 0, lastPulse := none } } :=
    speedUpdate_stops (s := { s.reach (p + 50000) with suc := { s.suc with lastPulse := none } }) stopping (by omega)
  refine ⟨fun near => ?_, fun far other fast => ?_, fun far starting below => ?_, fun far starting fast => ?_,
    fun far stopping below absent => ?_, fun h far stopping below => ?_, fun other => ?_, fun stopping absent => ?_,
    fun h stopping => ?_⟩
  · exact ⟨_, exec_tachPulse awake dt, sameButGens_event (tachPulse_near (s := s.elapse dt) last near) rfl⟩
  · refine ⟨_, exec_tachPulse awake dt, sameButGens_event ((far_ far).trans (speedUpdate_keeps ?_ fast)) rfl⟩
    exact fun starting => absurd starting other
  · refine ⟨_, exec_tachPulse awake dt, sameButGens_event ((far_ far).trans (speedUpdate_keeps (fun _ => below) ?_)) rfl⟩
    exact fun stopping => absurd (starting.symm.trans stopping) nofun
  · refine ⟨_, exec_tachPulse awake dt, sameButGens_event ((far_ far).trans (speedUpdate_runs starting fast)) ?_⟩
    exact recompute_switches _
  · obtain ⟨state, men, duty, -⟩ := stopped_at_rest (slow far stopping below) absent
    exact ⟨_, exec_tachPulse awake dt, state, men, duty⟩
  · refine ⟨_, exec_tachPulse awake dt, stoppingEnds h (by rw [stopping]; rfl) ⟨rfl, rfl⟩ ?_⟩
    rw [← slow far stopping below]
    exact event_noted _ _
  · refine ⟨_, exec_tachTimeout awake last, sameButGens_event (speedUpdate_keeps ?_ ?_) rfl⟩
    · intro _
      omega
    · exact fun stopping => absurd stopping other
  · obtain ⟨state, men, -, speed⟩ := stopped_at_rest (quiet stopping) absent
    exact ⟨_, exec_tachTimeout awake last, state, men, speed⟩
  · refine ⟨_, exec_tachTimeout awake last, stoppingEnds h (by rw [stopping]; rfl) ⟨rfl, rfl⟩ ?_⟩
    rw [← quiet stopping]
    exact event_noted _ _

/-! ## A suction fault (04 R76) -/

/-- The dirt monitor after an exit from RUNNING, if the regulator is there (06 R101). -/
def State.leftDirt (s : State) : Dirt := if s.suc.state = .running then s.dirt.leave else s.dirt

theorem leaveRunning_eq (s : State) : leaveRunning s = { s with dirt := s.leftDirt } := by
  unfold leaveRunning State.leftDirt
  split <;> rfl

/-- The head after an end of the run request, if there is one (05 R90). -/
def Head.afterRun (ends : Bool) (now : Nat) (h : Head) : Head := if ends then h.runEnd now else h

/-- The state of a fault before the recomputation and the release of the path. -/
def State.faulted (cause : SuctionCause) (s : State) : State :=
  raiseHandle .suctionFault
    { s with
      suc := s.suc.toFault cause, head := s.head.afterRun (s.runRequest && !s.suc.pressed) s.now, dirt := s.leftDirt }

theorem faultSuction_eq (cause : SuctionCause) (s : State) :
    faultSuction cause s = raiseHandle .suctionFault { s with suc := s.suc.toFault cause, dirt := s.leftDirt } := by
  unfold faultSuction
  rw [leaveRunning_eq]

theorem enterFault_eq (cause : SuctionCause) (s : State) : enterFault cause s = releaseSuction (recompute (s.faulted cause)) := by
  have after : (faultSuction cause s).runRequest = s.suc.pressed := by
    rw [faultSuction_eq]
    exact Bool.or_false _
  unfold enterFault State.faulted Head.afterRun
  dsimp only
  rw [after, faultSuction_eq]
  split <;> rfl

/-- What a fault that holds the path leaves. -/
theorem enterFault_spec {s : State} (cause : SuctionCause) (holds : s.holdsPath) :
    (enterFault cause s).suc = s.suc.toFault cause ∧ (enterFault cause s).men = false ∧ Released s (enterFault cause s)
      ∧ (enterFault cause s).arb.gs = 0 ∧ Standing (s.faulted cause) (enterFault cause s)
      ∧ (enterFault cause s).dirt = s.leftDirt ∧ ByMotor (s.faulted cause) (enterFault cause s)
      ∧ (enterFault cause s).bin = s.bin := by
  rw [enterFault_eq]
  have suc : (recompute (s.faulted cause)).suc = s.suc.toFault cause := recompute_suc_rest (s := s.faulted cause) rfl
  have arb : (recompute (s.faulted cause)).arb.path = s.arb.path ∧ (recompute (s.faulted cause)).arb.waiting = s.arb.waiting := by
    rw [recompute_arb]
    exact ⟨rfl, rfl⟩
  have chg : (recompute (s.faulted cause)).chg = s.chg := by rw [recompute_chg]; rfl
  have admits : (recompute (s.faulted cause)).admits ↔ s.admits := by
    unfold State.admits
    rw [recompute_smp, chg, recompute_settings]
    exact Iff.rfl
  obtain ⟨stands, waiting, leaves, idle, charger⟩ := releaseSuction_spec (s := recompute (s.faulted cause))
    (by rw [arb.1]; exact holds.1) (by rw [arb.2, chg]; exact holds.2.1)
  rw [arb.2, chg] at idle
  rw [arb.2, admits] at charger
  have rests : (recompute (s.faulted cause)).suc.state.steered = false := by rw [suc]; rfl
  have grant := ((recompute_granted (s.faulted cause)).rest (demandS_rest rests)).2
  have charger_ := releaseSuction_byCharger (recompute (s.faulted cause))
  refine ⟨?_, ?_, ⟨waiting, leaves, idle, charger⟩, ?_, (recompute_standing _).trans stands, ?_,
    (recompute_byMotor _).trans charger_.byMotor, ?_⟩
  · rw [releaseSuction_suc, suc]
  · unfold State.men
    rw [releaseSuction_suc, suc]
    rfl
  · obtain ⟨_, _, _, _, _, e⟩ := charger_
    rw [e]
    exact grant
  · rw [releaseSuction_dirt, recompute_dirt]
    rfl
  · rw [releaseSuction_bin, recompute_bin]
    rfl

/-- A charge controller that has taken or left the path it waited for waits no more. -/
theorem Released.waits_no_more {s t : State} (h : Released s t) (waits : s.arb.waiting = some .charger) :
    t.arb.waiting = none ∧ t.chg.state ≠ .waitIdle := by
  obtain ⟨waiting, -, -, charger⟩ := h
  refine ⟨waiting, ?_⟩
  by_cases admitted : s.admits
  · rcases ((charger waits).1 admitted).2 with e | e <;> rw [e] <;> decide
  · rw [((charger waits).2 admitted).2]
    decide

/-- Settles O38: the stall timer in STARTING and out of it. -/
theorem stallFaults : Obligations.StallFaults := by
  intro s h
  have exec_ {d : Nat} (timer : s.suc.stallTimer = some d) : exec .stallTimerExpiry s = .next (event stallExpires (s.reach d)) := by
    change execStallTimerExpiry s = _
    unfold execStallTimerExpiry
    rw [timer]
  refine ⟨fun none_ => ?_, fun d timer other => ⟨_, exec_ timer, sameButGens_event (if_neg other) rfl⟩,
    fun d timer starting => ⟨_, exec_ timer, ?_⟩⟩
  · change execStallTimerExpiry s = _
    unfold execStallTimerExpiry
    rw [none_]
  · have holds_ := pathOk_holds h (by rw [starting]; rfl)
    have holds : (s.reach d).holdsPath := holds_
    have fault : stallExpires (s.reach d) = enterFault .stall (s.reach d) := if_pos starting
    obtain ⟨suc, men, released, gs, stands, dirt, frame, bin⟩ := enterFault_spec .stall holds
    have stays : (s.reach d).leftDirt = s.dirt := if_neg (by rw [State.reach_suc, starting]; decide)
    rw [← fault] at *
    obtain ⟨_, _, _, _, _, _, _, _, e⟩ := frame
    refine ⟨suc, men, released.2.1, gs, stands.1 _ (noted_raise _ _), bin, dirt.trans stays, ?_, ?_, ?_, ?_, ?_, ?_,
      fun none_ => released.2.2.1 none_, fun waits => released.waits_no_more waits⟩
    · rw [event_acct, e]
      rfl
    · rw [event_settings, e]
      rfl
    · rw [event_alw, e]
      rfl
    · rw [event_arb, e]
      rfl
    · rw [event_arb, e]
      rfl
    · rw [event_arb, e]
      rfl

end Sys2Proof.Machine
end

section
/-! PROOFS. The run request (04, section 4.1): what its arrival and its end leave, at the trigger, the lock latch and the dock. -/

namespace Sys2Proof.Machine

/-! ## What recomputations touch -/

/-- `t` is `s` but for the grants, the regulator and the notices that recomputations raise. -/
def ByGrants (s t : State) : Prop :=
  ∃ (a : Arbiter) (u : Suction) (h : BitVec 15) (w : BitVec 1),
    t = { s with
      arb := { a with
        suction := s.arb.suction, brush := s.arb.brush, free := s.arb.free, path := s.arb.path, waiting := s.arb.waiting }
      suc := u, ports := { s.ports with handleNotes := h, wandNotes := w } }

theorem ByGrants.refl (s : State) : ByGrants s s := ⟨s.arb, _, _, _, rfl⟩

theorem ByGrants.trans {s t u : State} (h : ByGrants s t) (k : ByGrants t u) : ByGrants s u := by
  obtain ⟨_, _, _, _, rfl⟩ := h
  obtain ⟨a, _, _, _, rfl⟩ := k
  exact ⟨a, _, _, _, rfl⟩

theorem suc_byGrants (s : State) (u : Suction) : ByGrants s { s with suc := u } := ⟨s.arb, _, _, _, rfl⟩

theorem raiseHandle_byGrants (n : HandleNotice) (s : State) : ByGrants s (raiseHandle n s) := ⟨s.arb, _, _, _, rfl⟩

theorem recompute_byGrants (s : State) : ByGrants s (recompute s) := by
  rw [recompute_spec]
  exact ⟨s.formGrants, _, _, _, rfl⟩

theorem ByGrants.byMotor {s t : State} (h : ByGrants s t) : ByMotor s t := by
  obtain ⟨a, _, _, _, rfl⟩ := h
  exact ⟨{ a with path := s.arb.path, waiting := s.arb.waiting }, _, _, _, _, _, _, _, rfl⟩

/-! ## Entry to STOPPING (04 R74) -/

/-- The regulator and the dirt monitor at an entry to STOPPING. -/
def State.stopping (s : State) : State := { s with dirt := s.leftDirt, suc := s.suc.toStopping s.now }

theorem enterStopping_slows {s : State} (fast : 5000 ≤ s.suc.speed) (enabled : s.suc.enableAsked = true) :
    enterStopping s = recompute s.stopping := by
  unfold enterStopping State.stopping
  dsimp only
  rw [leaveRunning_eq]
  refine if_neg ?_
  rintro (slow | off)
  · exact absurd slow (Nat.not_lt.2 fast)
  · exact absurd (enabled.symm.trans off) nofun

theorem enterStopping_ends {s : State} (slow : s.suc.speed < 5000) : enterStopping s = endStopping s.stopping := by
  unfold enterStopping State.stopping
  dsimp only
  rw [leaveRunning_eq]
  exact if_pos (Or.inl slow)

/-! ## The end of the run request (04 R69, 05 R90) -/

/-- The state of a run request just ended, with the wand-off timer started and the grants recomputed. -/
def State.runEnded (s : State) : State := recompute { s with head := s.head.runEnd s.now }

theorem runEnded_spec (s : State) (absent : s.runRequest = false) :
    ByGrants { s with head := s.head.runEnd s.now } s.runEnded ∧ s.runEnded.arb.ds = 0 ∧ s.runEnded.arb.gs = 0
      ∧ s.runEnded.suc = { s.suc with target := s.runEnded.suc.target, duty := s.runEnded.suc.duty } := by
  have suc : s.runEnded.suc = { s.suc with target := s.runEnded.suc.target, duty := s.runEnded.suc.duty } := by
    unfold State.runEnded
    rw [recompute_suc, ← takeGrant_frame]
  have none_ : s.runEnded.runRequest = false := by
    unfold State.runRequest
    rw [suc]
    exact absent
  exact ⟨recompute_byGrants _, (recompute_granted _).rest (demandS_zero (Or.inl none_)) |>.1,
    (recompute_granted _).rest (demandS_zero (Or.inl none_)) |>.2, suc⟩

theorem runEnded_state (s : State) : (recompute { s with head := s.head.runEnd s.now }).suc.state = s.suc.state := by
  rw [recompute_suc, takeGrant_state]

theorem runEnds_drives {s : State} (h : s.suc.state = .starting ∨ s.suc.state = .running) : runEnds s = enterStopping s.runEnded := by
  unfold runEnds
  rcases h with h | h <;> simp only [runEnded_state, h] <;> rfl

theorem runEnds_waits {s : State} (h : s.suc.state = .waitPath) : runEnds s = giveUpWaiting s.runEnded := by
  unfold runEnds
  simp only [runEnded_state, h]
  rfl

theorem runEnds_fault {s : State} (h : s.suc.state = .fault) :
    runEnds s
      = if s.runEnded.mayLeaveFault then recompute { s.runEnded with suc := { s.runEnded.suc with state := .stopped } }
        else s.runEnded := by
  unfold runEnds
  simp only [runEnded_state, h]
  rfl

theorem runEnds_rests {s : State} (h : s.suc.state = .stopping ∨ s.suc.state = .stopped) : runEnds s = s.runEnded := by
  unfold runEnds
  rcases h with h | h <;> simp only [runEnded_state, h] <;> rfl

/-- A run just ended, at its entry to STOPPING. -/
theorem runEnded_stopping (s : State) :
    s.runEnded.stopping = { s.runEnded with dirt := s.leftDirt, suc := s.suc.toStopping s.now }
      ∧ ByGrants { s with head := s.head.runEnd s.now, dirt := s.leftDirt } s.runEnded.stopping
      ∧ s.runEnded.suc.speed = s.suc.speed ∧ s.runEnded.suc.enableAsked = s.suc.enableAsked := by
  have frame : ByGrants { s with head := s.head.runEnd s.now } s.runEnded := recompute_byGrants _
  have suc : s.runEnded.suc = { s.suc with target := s.runEnded.suc.target, duty := s.runEnded.suc.duty } := by
    unfold State.runEnded
    rw [recompute_suc, ← takeGrant_frame]
  have now : s.runEnded.now = s.now := recompute_now _
  have dirt : s.runEnded.leftDirt = s.leftDirt := by
    unfold State.leftDirt State.runEnded
    rw [runEnded_state, recompute_dirt]
  have slowed : s.runEnded.suc.toStopping s.runEnded.now = s.suc.toStopping s.now := by
    rw [now, suc]
    rfl
  have stops : s.runEnded.stopping = { s.runEnded with dirt := s.leftDirt, suc := s.suc.toStopping s.now } := by
    unfold State.stopping
    rw [dirt, slowed]
  refine ⟨stops, ?_, by rw [suc], by rw [suc]⟩
  obtain ⟨a, _, _, _, e⟩ := frame
  rw [stops, e]
  exact ⟨a, _, _, _, rfl⟩

/-- The end of a run at 5000 rpm or more: STOPPING, for 300 ms. -/
theorem runEnds_slows {s : State} (drives : s.suc.state = .starting ∨ s.suc.state = .running)
    (fast : 5000 ≤ s.suc.speed) (enabled : s.suc.enableAsked = true) :
    (runEnds s).suc = s.suc.toStopping s.now ∧ (runEnds s).arb.ds = 0 ∧ (runEnds s).arb.gs = 0
      ∧ ByGrants { s with head := s.head.runEnd s.now, dirt := s.leftDirt } (runEnds s) := by
  obtain ⟨stops, frame, speed, enable⟩ := runEnded_stopping s
  have suc : (recompute s.runEnded.stopping).suc = s.suc.toStopping s.now := by
    rw [recompute_suc_rest (by rw [stops]; rfl), stops]
  have rest := (recompute_granted s.runEnded.stopping).rest (demandS_rest (by rw [suc]; rfl))
  rw [runEnds_drives drives, enterStopping_slows (by rw [speed]; exact fast) (by rw [enable]; exact enabled)]
  exact ⟨suc, rest.1, rest.2, frame.trans (recompute_byGrants _)⟩

/-- The end of a run below 5000 rpm: STOPPING ends at its entry. -/
theorem runEnds_stops {s : State} (absent : s.runRequest = false) (drives : s.suc.state = .starting ∨ s.suc.state = .running)
    (slow : s.suc.speed < 5000) (holds : s.holdsPath) :
    (runEnds s).suc = s.suc.toStopped ∧ (runEnds s).arb.ds = 0 ∧ (runEnds s).arb.gs = 0 ∧ Released s (runEnds s)
      ∧ (runEnds s).bin = s.bin.measuring s.settings
      ∧ ByMotor { s with head := s.head.runEnd s.now, dirt := s.leftDirt } (runEnds s) := by
  obtain ⟨stops, frame, speed, -⟩ := runEnded_stopping s
  have frame_ := frame
  obtain ⟨a, u, _, _, e⟩ := frame_
  have held : s.runEnded.stopping.holdsPath := by rw [e]; exact holds
  have none_ : s.runEnded.stopping.runRequest = false := by
    rw [stops]
    exact absent
  obtain ⟨frame', stands, suc, bin, choices, released, ds, gs⟩ := endStopping_absent held.1 held.2.1 none_
  rw [runEnds_drives drives, enterStopping_ends (by rw [speed]; exact slow)]
  refine ⟨?_, ds, gs, ?_, ?_, frame.byMotor.trans frame'⟩
  · rw [suc, stops]
    rfl
  · rw [e] at released
    rw [e]
    exact released
  · rw [bin, e]

/-- The end of a run that waits for the path: the request is withdrawn. -/
theorem runEnds_withdraws {s : State} (waits : s.suc.state = .waitPath) (waiting : s.arb.waiting = some .suction) :
    (runEnds s).suc = { s.suc with state := .stopped, target := (runEnds s).suc.target, duty := (runEnds s).suc.duty }
      ∧ (runEnds s).arb.ds = 0 ∧ (runEnds s).arb.gs = 0
      ∧ ByGrants { s with head := s.head.runEnd s.now, arb := { s.arb with waiting := none } } (runEnds s) := by
  have frame : ByGrants { s with head := s.head.runEnd s.now } s.runEnded := recompute_byGrants _
  have suc : s.runEnded.suc = { s.suc with target := s.runEnded.suc.target, duty := s.runEnded.suc.duty } := by
    unfold State.runEnded
    rw [recompute_suc, ← takeGrant_frame]
  have gives : giveUpWaiting s.runEnded
      = recompute { s.runEnded with
          arb := { s.runEnded.arb with waiting := none }, suc := { s.runEnded.suc with state := .stopped } } := by
    rcases arbWithdraw_cases .suction s.runEnded with ⟨-, e⟩ | ⟨no, -⟩
    · unfold giveUpWaiting
      rw [e]
    · obtain ⟨_, _, _, _, e⟩ := frame
      rw [e] at no
      exact absurd waiting no
  rw [runEnds_waits waits, gives]
  generalize hx : ({ s.runEnded with
    arb := { s.runEnded.arb with waiting := none }, suc := { s.runEnded.suc with state := .stopped } } : State) = x
  have xsuc : x.suc = { s.suc with state := .stopped, target := s.runEnded.suc.target, duty := s.runEnded.suc.duty } := by
    rw [← hx]
    dsimp only
    rw [suc]
  have after : (recompute x).suc
      = { s.suc with state := .stopped, target := (recompute x).suc.target, duty := (recompute x).suc.duty } := by
    rw [recompute_suc, takeGrant_frame, xsuc]
  have rest := (recompute_granted x).rest (demandS_rest (by rw [after]; rfl))
  have step : ByGrants { s with head := s.head.runEnd s.now, arb := { s.arb with waiting := none } } x := by
    obtain ⟨a, _, _, _, e⟩ := frame
    rw [← hx, e]
    exact ⟨a, _, _, _, rfl⟩
  exact ⟨after, rest.1, rest.2, step.trans (recompute_byGrants _)⟩

/-- The end of a run in FAULT, STOPPING or STOPPED: FAULT is left where R76 allows. -/
theorem runEnds_stands {s : State} (absent : s.runRequest = false)
    (state : s.suc.state = .fault ∨ s.suc.state = .stopping ∨ s.suc.state = .stopped) :
    (runEnds s).suc
        = { s.suc with
            target := (runEnds s).suc.target, duty := (runEnds s).suc.duty
            state := if s.suc.state = .fault ∧ (s.suc.faultCause ≠ .hot ∨ cooled s.suc.lastTemp = true) then .stopped
              else s.suc.state }
      ∧ (runEnds s).arb.ds = 0 ∧ (runEnds s).arb.gs = 0 ∧ ByGrants { s with head := s.head.runEnd s.now } (runEnds s) := by
  obtain ⟨frame, ds, gs, suc⟩ := runEnded_spec s absent
  rcases state with fault | rests
  · have may : s.runEnded.mayLeaveFault = true ↔ s.suc.faultCause ≠ .hot ∨ cooled s.suc.lastTemp = true := by
      unfold State.mayLeaveFault State.runRequest
      rw [suc]
      simp [show (s.suc.pressed || s.suc.lock) = false from absent]
    rw [runEnds_fault fault]
    by_cases leaves : s.suc.faultCause ≠ .hot ∨ cooled s.suc.lastTemp = true
    · rw [if_pos (may.2 leaves), if_pos ⟨fault, leaves⟩]
      generalize hx : ({ s.runEnded with suc := { s.runEnded.suc with state := .stopped } } : State) = x
      have after : (recompute x).suc
          = { s.suc with state := .stopped, target := (recompute x).suc.target, duty := (recompute x).suc.duty } := by
        rw [recompute_suc, takeGrant_frame, ← hx]
        dsimp only
        rw [suc]
      have rest := (recompute_granted x).rest (demandS_rest (by rw [after]; rfl))
      have step : ByGrants s.runEnded x := by
        rw [← hx]
        exact suc_byGrants _ _
      exact ⟨after, rest.1, rest.2, frame.trans (step.trans (recompute_byGrants x))⟩
    · rw [if_neg (fun h => leaves (may.1 h)), if_neg (fun h => leaves h.2)]
      exact ⟨suc, ds, gs, frame⟩
  · rw [runEnds_rests rests, if_neg (by rintro ⟨fault, -⟩; rw [fault] at rests; rcases rests with h | h <;> cases h)]
    exact ⟨suc, ds, gs, frame⟩

/-! ## The debounced release of the trigger (04 R66, R69) -/

/-- `s` with the trigger's debounce timer run out at a release. -/
def State.letGo (s : State) (d : Nat) : State :=
  { s with now := max s.now d, suc := { s.suc with trigTimer := none, pressed := false } }

theorem exec_triggerDebounce {s : State} {d : Nat} (timer : s.suc.trigTimer = some d) :
    exec .triggerDebounceCompletion s
      = .next (event takeTrigger { s.reach d with suc := { s.suc with trigTimer := none } }) := by
  change execTriggerDebounceCompletion s = _
  unfold execTriggerDebounceCompletion
  rw [timer]
  rfl

theorem takeTrigger_letGo {s : State} {d : Nat} (line : s.trigLine = false) (pressed : s.suc.pressed = true) :
    takeTrigger { s.reach d with suc := { s.suc with trigTimer := none } } = runChanged true (s.letGo d) := by
  unfold takeTrigger
  rw [if_neg (by dsimp only [State.reach]; rw [line, pressed]; decide)]
  have run : State.runRequest { s.reach d with suc := { s.suc with trigTimer := none } } = true := by
    unfold State.runRequest
    dsimp only
    rw [pressed]
    rfl
  rw [run]
  unfold State.letGo State.reach
  dsimp only
  rw [line, Bool.not_false, Bool.and_true]

theorem runChanged_ends {s : State} (absent : s.runRequest = false) : runChanged true s = runEnds s := by
  unfold runChanged
  rw [absent]

theorem runChanged_stands {b : Bool} {s : State} (same : s.runRequest = b) : runChanged b s = s := by
  unfold runChanged
  rw [same]
  cases b <;> rfl

theorem runChanged_arrives {s : State} (present : s.runRequest = true) : runChanged false s = runArrives s := by
  unfold runChanged
  rw [present]

theorem cooled_iff (t : Option Therm) : cooled t = true ↔ ∃ x, t = some (.ok x) ∧ x ≤ 100 := by
  match t with
  | none => exact ⟨nofun, fun ⟨_, no, _⟩ => absurd no nofun⟩
  | some .opened => exact ⟨nofun, fun ⟨_, no, _⟩ => absurd no nofun⟩
  | some .shorted => exact ⟨nofun, fun ⟨_, no, _⟩ => absurd no nofun⟩
  | some (.ok x) =>
    refine ⟨fun h => ⟨x, rfl, of_decide_eq_true h⟩, fun ⟨y, e, le⟩ => decide_eq_true ?_⟩
    obtain rfl : x = y := by injection e with e; injection e
    exact le

theorem runEnd_wandOff (now : Nat) (h : Head) :
    h.runEnd now = { h with wandOff := if h.wand = true then some (now + 2000000) else h.wandOff } := by
  unfold Head.runEnd
  by_cases wand : h.wand = true
  · rw [if_pos wand, if_pos wand]
    rfl
  · rw [if_neg wand, if_neg wand]

/-- Settles O37: by the state of the regulator. -/
theorem triggerReleased : Obligations.TriggerReleased := by
  intro d s timer line pressed
  have exec_ : exec .triggerDebounceCompletion s
      = .next (event takeTrigger { s.reach d with suc := { s.suc with trigTimer := none } }) := exec_triggerDebounce timer
  refine ⟨fun running lock => ⟨_, exec_, sameButGens_event ?_ rfl⟩, fun running lock enabled fast => ⟨_, exec_, ?_⟩,
    fun ok lock => ?_⟩
  · rw [takeTrigger_letGo line pressed]
    exact runChanged_stands lock
  · have ends : takeTrigger { s.reach d with suc := { s.suc with trigTimer := none } } = runEnds (s.letGo d) :=
      (takeTrigger_letGo line pressed).trans (runChanged_ends lock)
    obtain ⟨suc, ds, gs, frame⟩ := runEnds_slows (s := s.letGo d) (Or.inr running) fast enabled
    have left : (s.letGo d).leftDirt = s.dirt.leave := if_pos running
    have switches : (runEnds (s.letGo d)).switches = s.switches := by
      unfold State.switches State.men State.chgg
      rw [suc]
      obtain ⟨_, _, _, _, e⟩ := frame
      rw [e]
      dsimp only
      rw [runEnd_wandOff]
      rfl
    obtain ⟨g, e⟩ : ∃ g, event takeTrigger { s.reach d with suc := { s.suc with trigTimer := none } } = { runEnds (s.letGo d) with gens := g } :=
      ⟨_, sameButGens_event ends switches⟩
    rw [e]
    obtain ⟨a, _, _, _, e⟩ := frame
    refine ⟨suc, ?_, ?_, ?_, ?_, ds, gs, ?_, ?_, ?_, ?_⟩
    · rw [e]
      exact left
    · rw [e]
      exact runEnd_wandOff _ _
    · rw [e]; rfl
    · rw [e]; rfl
    · rw [e]; rfl
    · rw [e]; rfl
    · rw [e]; rfl
    · rw [e]; rfl
  · have absent : (s.letGo d).runRequest = false := lock
    have ends : takeTrigger { s.reach d with suc := { s.suc with trigTimer := none } } = runEnds (s.letGo d) :=
      (takeTrigger_letGo line pressed).trans (runChanged_ends lock)
    obtain ⟨-, -, queued, -, behind, -, asks, -⟩ := id ok
    obtain ⟨g, m, noted⟩ := event_noted takeTrigger { s.reach d with suc := { s.suc with trigTimer := none } }
    rw [ends] at noted
    rw [noted] at exec_
    intro ended released
    have ended_ {x : Dirt} (frame : ByMotor { s.letGo d with head := (s.letGo d).head.runEnd (s.letGo d).now, dirt := x } (runEnds (s.letGo d)))
        (none_ : (runEnds (s.letGo d)).runRequest = false) (ds : (runEnds (s.letGo d)).arb.ds = 0)
        (gs : (runEnds (s.letGo d)).arb.gs = 0) :
        ended { runEnds (s.letGo d) with gens := g, smp := { (runEnds (s.letGo d)).smp with lastSwitch := m } } := by
      obtain ⟨_, _, _, _, _, _, _, _, e⟩ := frame
      refine ⟨none_, ?_, ?_, ?_, ?_, ds, gs, ?_, ?_, ?_⟩
      · rw [e]
        exact runEnd_wandOff _ _
      all_goals rw [e]; rfl
    refine ⟨fun starting fast => ⟨_, exec_, ?_⟩, fun drives slow => ⟨_, exec_, ?_⟩, fun waits => ⟨_, exec_, ?_⟩,
      fun rests => ⟨_, exec_, ?_⟩⟩
    · have enabled : s.suc.enableAsked = true := by rw [asks, starting]; rfl
      obtain ⟨suc, ds, gs, frame⟩ := runEnds_slows (s := s.letGo d) (Or.inl starting) fast enabled
      refine ⟨ended_ frame.byMotor (by unfold State.runRequest; rw [suc]; exact absent) ds gs, suc, ?_⟩
      obtain ⟨a, _, _, _, e⟩ := frame
      rw [e]
      exact ⟨rfl, rfl, rfl, rfl⟩
    · have holds : s.holdsPath := pathOk_holds ok (by rcases drives with h | h <;> rw [h] <;> rfl)
      obtain ⟨suc, ds, gs, away, bin, frame⟩ := runEnds_stops (s := s.letGo d) absent drives slow holds
      refine ⟨ended_ frame (by unfold State.runRequest; rw [suc]; exact absent) ds gs, ⟨?_, away.2.1, away.2.2.1, away.waits_no_more⟩,
        suc, ?_, bin⟩
      · unfold State.men
        dsimp only
        rw [suc]
        rfl
      · obtain ⟨a, _, _, _, _, _, _, _, e⟩ := frame
        rw [e]
        change (s.letGo d).leftDirt.window = _
        unfold State.leftDirt
        by_cases running : s.suc.state = .running
        · rw [if_pos running, if_pos (show (s.letGo d).suc.state = .running from running)]
          rfl
        · rw [if_neg running, if_neg (show ¬(s.letGo d).suc.state = .running from running)]
          rfl
    · have waiting := queued.2 waits
      obtain ⟨suc, ds, gs, frame⟩ := runEnds_withdraws (s := s.letGo d) waits waiting
      refine ⟨ended_ (x := s.dirt) (ByMotor.trans ?_ frame.byMotor) (by unfold State.runRequest; rw [suc]; exact absent) ds gs, suc, ?_⟩
      · exact ⟨{ s.arb with waiting := none }, _, _, _, _, _, _, _, rfl⟩
      · obtain ⟨a, _, _, _, e⟩ := frame
        rw [e]
        exact ⟨behind waiting, rfl, rfl, rfl⟩
    · obtain ⟨suc, ds, gs, frame⟩ := runEnds_stands (s := s.letGo d) absent rests
      refine ⟨ended_ (x := s.dirt) frame.byMotor (by unfold State.runRequest; rw [suc]; exact absent) ds gs, ?_, ?_, ?_⟩
      · rw [suc]
        rfl
      · intro leaves
        have same : (s.suc.state = .fault ∧ (s.suc.faultCause ≠ .hot ∨ cooled s.suc.lastTemp = true)) ↔ leaves :=
          and_congr Iff.rfl (or_congr Iff.rfl (cooled_iff _))
        have state : (runEnds (s.letGo d)).suc.state
            = if s.suc.state = .fault ∧ (s.suc.faultCause ≠ .hot ∨ cooled s.suc.lastTemp = true) then .stopped else s.suc.state := by
          rw [suc]
          rfl
        exact ⟨fun yes => state.trans (if_pos (same.2 yes)), fun no => state.trans (if_neg (fun h => no (same.1 h)))⟩
      · obtain ⟨a, _, _, _, e⟩ := frame
        rw [e]
        exact ⟨rfl, rfl, rfl, rfl⟩

/-! ## The debounced press of the trigger (04 R66, R70; 10 R178) -/

theorem cancelShelf_notes (s : State) :
    cancelShelf s
      = { s with
          ports := { s.ports with handleNotes := (cancelShelf s).ports.handleNotes }, pwr := { s.pwr with entry := .none } } := by
  unfold cancelShelf
  by_cases quiet : s.pwr.entry = .none
  · rw [if_pos quiet, ← quiet]
  · rw [if_neg quiet]
    rfl

theorem cancelShelf_noted {s : State} (pending : s.pwr.entry ≠ .none) : (cancelShelf s).noted .shelfRefused := by
  rw [show cancelShelf s = raiseHandle .shelfRefused { s with pwr := { s.pwr with entry := .none } } from if_neg pending]
  exact noted_raise _ _

/-- The run request just arrived: a shelf entry cancelled, the wand power on with the bin fitted, the grants recomputed. -/
def State.runBegun (s : State) : State :=
  recompute { stopDeepTimer (cancelShelf s) with head := s.head.arrive s.bin.state }

theorem runArrives_eq (s : State) :
    runArrives s = if s.suc.state = .stopped then arriveStopped s.runBegun else s.runBegun := by
  have state : s.runBegun.suc.state = s.suc.state := by
    unfold State.runBegun
    rw [recompute_suc, takeGrant_state, cancelShelf_notes]
    rfl
  rw [← state]
  unfold runArrives State.runBegun
  rw [cancelShelf_notes]
  rfl

theorem runBegun_spec (s : State) :
    ByGrants { s with head := s.head.arrive s.bin.state, pwr := { s.pwr with entry := .none, deepTimer := none } } s.runBegun
      ∧ s.runBegun.suc = { s.suc with target := s.runBegun.suc.target, duty := s.runBegun.suc.duty }
      ∧ s.runBegun.suc.target = min s.suc.target s.runBegun.arb.gs
      ∧ Granted s.runBegun ∧ (s.pwr.entry ≠ .none → s.runBegun.noted .shelfRefused) := by
  have frame : ByGrants { s with head := s.head.arrive s.bin.state, pwr := { s.pwr with entry := .none, deepTimer := none } }
      { stopDeepTimer (cancelShelf s) with head := s.head.arrive s.bin.state } := by
    rw [cancelShelf_notes]
    exact ⟨s.arb, _, _, _, rfl⟩
  have suc : ({ stopDeepTimer (cancelShelf s) with head := s.head.arrive s.bin.state } : State).suc = s.suc := by
    rw [cancelShelf_notes]
    rfl
  refine ⟨frame.trans (recompute_byGrants _), ?_, ?_, recompute_granted _, fun pending => ?_⟩
  · unfold State.runBegun
    rw [recompute_suc, suc, ← takeGrant_frame]
  · unfold State.runBegun
    rw [recompute_suc, suc, takeGrant_target, recompute_arb]
    rfl
  · exact (recompute_standing _).1 _ (cancelShelf_noted pending)

/-- A run arriving in STOPPED, with the bin fitted and the path IDLE, makes no choice and leaves the grants recomputed. -/
theorem arriveStopped_starts {s : State} (fitted : s.bin.state ≠ .detached) (path : s.arb.path = .idle) (quiet : s.unshelved) :
    Granted (arriveStopped s) ∧ (arriveStopped s).choices = s.choices := by
  rcases arriveStopped_cases s with ⟨no, -⟩ | ⟨-, -, e⟩ | ⟨-, no, -⟩ | ⟨-, no, -⟩
  · exact absurd no fitted
  · rw [e, cancels_nothing (s := { s with arb := { s.arb with path := .discharge, waiting := none } }) quiet]
    obtain ⟨-, -, -, -, -, -, -, granted, -⟩ :=
      enterStarting_spec (s := { s with arb := { s.arb with path := .discharge, waiting := none } }) rfl
    refine ⟨granted, ?_⟩
    unfold enterStarting
    rw [recompute_choices]
    split
    · unfold abortMeasurement
      split <;> rfl
    · rfl
  · rw [path] at no; cases no
  · rw [path] at no; cases no

/-- A run arriving with the charger on the path waits for it. -/
theorem arriveStopped_waits {s : State} (fitted : s.bin.state ≠ .detached) (path : s.arb.path = .charge) :
    ByGrants { s with arb := { s.arb with waiting := some .suction } } (arriveStopped s) ∧ Standing s (arriveStopped s)
      ∧ (arriveStopped s).suc.state = .waitPath ∧ (arriveStopped s).suc.enableAsked = s.suc.enableAsked
      ∧ (arriveStopped s).noted .runWait := by
  rcases arriveStopped_cases s with ⟨no, -⟩ | ⟨-, no, -⟩ | ⟨-, no, -⟩ | ⟨-, -, e⟩
  · exact absurd no fitted
  · rw [path] at no; cases no
  · rw [path] at no; cases no
  · have waits : arriveStopped s = raiseHandle .runWait (recompute s.runWaits) := e
    have frame : ByGrants { s with arb := { s.arb with waiting := some .suction } } s.runWaits := suc_byGrants _ _
    have stands : Standing s s.runWaits := Standing.of_eq rfl rfl
    have suc : (recompute s.runWaits).suc = takeGrant s.settings.pfull s.runWaits.grantS { s.suc with state := .waitPath } :=
      recompute_suc _
    rw [waits]
    refine ⟨frame.trans ((recompute_byGrants _).trans (raiseHandle_byGrants _ _)),
      stands.trans ((recompute_standing _).trans (raiseHandle_standing _ _)), ?_, ?_, noted_raise _ _⟩
    · rw [raiseHandle_suc, suc, takeGrant_state]
    · rw [raiseHandle_suc, suc, takeGrant_frame]

/-- `s` with the trigger's debounce timer run out at a press. -/
def State.squeezed (s : State) (d : Nat) : State :=
  { s with now := max s.now d, suc := { s.suc with trigTimer := none, pressed := true } }

theorem takeTrigger_squeezed {s : State} {d : Nat} (line : s.trigLine = true) (pressed : s.suc.pressed = false)
    (lock : s.suc.lock = false) :
    takeTrigger { s.reach d with suc := { s.suc with trigTimer := none } } = runArrives (s.squeezed d) := by
  have state : ({ s.reach d with suc := { s.suc with trigTimer := none, pressed := s.trigLine, lock := s.suc.lock && !s.trigLine } } : State)
      = s.squeezed d := by
    have latch : (s.suc.lock && !s.trigLine) = s.suc.lock := by rw [lock]; rfl
    unfold State.squeezed State.reach
    rw [latch, line]
  have absent : State.runRequest { s.reach d with suc := { s.suc with trigTimer := none } } = false := by
    unfold State.runRequest
    dsimp only
    rw [pressed, lock]
    rfl
  unfold takeTrigger
  rw [if_neg (by dsimp only [State.reach]; rw [line, pressed]; decide), absent]
  refine (congrArg (runChanged false) state).trans (runChanged_arrives rfl)

theorem arrive_wand (bin : BinState) (h : Head) :
    h.arrive bin = { h with wandOff := none, wand := h.wand || decide (bin ≠ .detached) } := by
  unfold Head.arrive
  cases bin <;> rfl

theorem arrive_fitted {bin : BinState} {h : Head} (fitted : bin ≠ .detached) :
    h.arrive bin = { h with wand := true, wandOff := none } := by
  rw [arrive_wand, decide_eq_true fitted, Bool.or_true]

theorem arrive_detached {bin : BinState} {h : Head} (out : bin = .detached) : h.arrive bin = { h with wandOff := none } := by
  rw [arrive_wand, out, show decide (BinState.detached ≠ .detached) = false from rfl, Bool.or_false]

/-- Settles O36: by the state of the regulator, the bin and the path that a press meets. -/
theorem triggerPressed : Obligations.TriggerPressed := by
  intro d s timer
  have exec_ : exec .triggerDebounceCompletion s
      = .next (event takeTrigger { s.reach d with suc := { s.suc with trigTimer := none } }) := exec_triggerDebounce timer
  obtain ⟨g, m, noted⟩ := event_noted takeTrigger { s.reach d with suc := { s.suc with trigTimer := none } }
  obtain ⟨begun, suc, target, granted, refused⟩ := runBegun_spec (s.squeezed d)
  have unshelved : (s.squeezed d).runBegun.unshelved := by
    obtain ⟨_, _, _, _, e⟩ := begun
    rw [e]
    exact ⟨rfl, rfl⟩
  have arrives (line : s.trigLine = true) (pressed : s.suc.pressed = false) (lock : s.suc.lock = false) :
      exec .triggerDebounceCompletion s
        = .next { runArrives (s.squeezed d) with gens := g, smp := { (runArrives (s.squeezed d)).smp with lastSwitch := m } } := by
    rw [exec_, noted, takeTrigger_squeezed line pressed lock]
  have stopped (state : s.suc.state = .stopped) : runArrives (s.squeezed d) = arriveStopped (s.squeezed d).runBegun :=
    (runArrives_eq _).trans (if_pos state)
  refine ⟨fun same => ⟨_, exec_, sameButGens_event (if_pos same) rfl⟩, fun line pressed lock => ⟨_, exec_, sameButGens_event ?_ rfl⟩,
    fun line pressed lock state fitted path => ⟨_, arrives line pressed lock, ?_⟩,
    fun line pressed lock state fitted path => ⟨_, arrives line pressed lock, ?_⟩,
    fun line pressed lock state out => ⟨_, arrives line pressed lock, ?_⟩,
    fun line pressed lock state => ⟨_, arrives line pressed lock, ?_⟩⟩
  · unfold takeTrigger
    have present : State.runRequest { s.reach d with suc := { s.suc with trigTimer := none } } = true := by
      unfold State.runRequest
      dsimp only
      rw [lock, Bool.or_true]
    have latch : (s.suc.lock && !s.trigLine) = false := by rw [lock, line]; rfl
    rw [if_neg (by dsimp only [State.reach]; rw [line, pressed]; decide), present,
      runChanged_stands (by unfold State.runRequest; dsimp only [State.reach]; rw [line]; rfl)]
    dsimp only [State.reach]
    rw [latch, line]
  · rw [stopped state]
    obtain ⟨_, _, _, _, e⟩ := begun
    have idle : (s.squeezed d).runBegun.arb.path = .idle := by rw [e]; exact path
    have closed : (s.squeezed d).runBegun.bin.state ≠ .detached := by rw [e]; exact fitted
    obtain ⟨frame, stands, suc', bin, chg, held, waiting, -⟩ := arriveStopped_idle closed idle unshelved
    obtain ⟨granted', choices⟩ := arriveStopped_starts closed idle unshelved
    have suc : (arriveStopped (s.squeezed d).runBegun).suc = (s.squeezed d).suc.toStarting (max s.now d) := by
      have now : (s.squeezed d).runBegun.now = max s.now d := by rw [e]; rfl
      rw [suc', now, suc]
      rfl
    obtain ⟨a, u, b, c, k, _, _, _, e'⟩ := frame
    have made : k = s.choices := by
      rw [e', e] at choices
      exact choices
    have charger : c = s.chg := by
      rw [e', e] at chg
      exact chg
    refine ⟨suc, ?_, held, waiting, ?_, ?_, ?_, granted'.ds, granted'.gs, ?_, ?_, ?_, fun pending => ?_, ?_⟩
    · unfold State.men
      dsimp only
      rw [suc, held]
      rfl
    · rw [e', e]; rfl
    · rw [e', e]; rfl
    · rw [e', e]; rfl
    · rw [e', e]
      exact arrive_fitted fitted
    · exact bin.trans (congrArg Bin.aborted (by rw [e]; rfl))
    · rw [e', e]; rfl
    · exact stands.1 _ (refused pending)
    · rw [e', made, charger, e]
      rfl
  · rw [stopped state]
    obtain ⟨_, _, _, _, e⟩ := begun
    have taken : (s.squeezed d).runBegun.arb.path = .charge := by rw [e]; exact path
    have closed : (s.squeezed d).runBegun.bin.state ≠ .detached := by rw [e]; exact fitted
    obtain ⟨frame, stands, waits, enable, noted⟩ := arriveStopped_waits closed taken
    rw [suc] at enable
    obtain ⟨_, _, _, _, e'⟩ := frame
    refine ⟨waits, enable, ?_, ?_, ?_, ?_, ?_, ?_, fun pending => stands.1 _ (refused pending), noted⟩
    · rw [e']; exact taken
    · rw [e']
    · rw [e', e]; rfl
    · rw [e', e]; rfl
    · rw [e', e]
      exact arrive_fitted fitted
    · rw [e', e]; rfl
  · rw [stopped state]
    obtain ⟨_, _, _, _, e⟩ := begun
    have detached : (s.squeezed d).runBegun.bin.state = .detached := by rw [e]; exact out
    have turned : arriveStopped (s.squeezed d).runBegun = raiseHandle .binOpen (s.squeezed d).runBegun := if_pos detached
    rw [turned]
    refine ⟨?_, ?_, ?_, ?_, ?_, ?_, ?_, fun pending => (raiseHandle_standing _ _).1 _ (refused pending), noted_raise _ _⟩
    · rw [raiseHandle_suc, suc]
      exact state
    · rw [e]; rfl
    · rw [e]; rfl
    · rw [e]; rfl
    · rw [e]; rfl
    · rw [e]
      exact arrive_detached out
    · rw [e]; rfl
  · rw [runArrives_eq, if_neg (by rcases state with h | h <;> exact fun no => absurd (h.symm.trans no) nofun)]
    have rests : (s.squeezed d).runBegun.suc.state.steered = false := by
      rw [suc]
      rcases state with h | h <;> exact (congrArg SuctionState.steered h)
    have rest := granted.rest (demandS_rest rests)
    obtain ⟨_, _, _, _, e⟩ := begun
    refine ⟨?_, suc, target, rest.1, rest.2, ?_, ?_, refused, ?_⟩
    · unfold State.runRequest
      dsimp only
      rw [suc]
      rfl
    · rw [e]
      exact arrive_wand _ _
    · rw [e]; rfl
    · rw [e]
      rfl

/-! ## The lock latch (04 R67, R68) -/

theorem atHandle_unshelved {s : State} (dt : Nat) (quiet : s.unshelved) : (s.atHandle dt).unshelved := by
  obtain ⟨entry, timer⟩ := quiet
  have stands : replaceAnswer (s.elapse dt) = s.elapse dt := by
    unfold replaceAnswer shelfDelivered
    split
    · rw [show (s.elapse dt).pwr.entry = .none from entry]
    · rfl
  have pwr : (s.atHandle dt).pwr = s.pwr := by
    unfold State.atHandle
    rw [event_pwr, stands]
    rfl
  unfold State.unshelved
  rw [pwr]
  exact ⟨entry, timer⟩

/-- Settles O41: the latch in RUNNING and elsewhere, and the run that it alone held. -/
theorem lockRequests : Obligations.LockRequests := by
  intro dt tag s opens path
  have owner {k : ReqKind} {x : State} {c : Status} {d : List Byte} (plain : k = .lockOn ∨ k = .lockOff)
      (owned : ownerServe k .handle [] (s.atHandle dt) = ⟨x, c, d⟩) (switches : x.switches = (s.atHandle dt).switches) :
      ∃ t, exec (k.row dt .handle tag []) s = .next t ∧ SameButGens t (x.handleAnswers tag c d) :=
    row_served (link := .handle) opens (by rcases plain with rfl | rfl <;> rfl) (by rcases plain with rfl | rfl <;> decide) nofun
      (by rcases plain with rfl | rfl <;> rfl) owned switches
  have suc : (s.atHandle dt).suc = s.suc := arrived_suc s .handle dt
  have holdsRun : s.suc.state = .running → s.runRequest = true := fun running => path.2.2.2.2.2.2.2.1 (Or.inr (Or.inr running))
  have latched : s.suc.lock = true → s.suc.state = .running := path.2.2.2.2.2.2.2.2.1
  refine ⟨fun running => ?_, fun rests => ?_, fun keeps => ?_, fun lock released => ?_⟩
  · have run : (s.atHandle dt).runRequest = true := by
      unfold State.runRequest
      rw [suc]
      exact holdsRun running
    refine owner (k := .lockOn) (Or.inl rfl) ?_ ?_
    · change serveLockOn (s.atHandle dt) = _
      unfold serveLockOn
      rw [if_pos (by rw [suc]; exact running), run, runChanged_stands (by unfold State.runRequest; exact Bool.or_true _), suc]
      unfold lockReply
      dsimp only
      rw [running]
      rfl
    · unfold State.switches State.men State.chgg
      rw [suc]
  · refine owner (k := .lockOn) (Or.inl rfl) ?_ rfl
    have off : s.suc.lock = false := Bool.eq_false_iff.2 fun on => rests (latched on)
    change serveLockOn (s.atHandle dt) = _
    unfold serveLockOn
    rw [if_neg (by rw [suc]; exact rests)]
    unfold lockReply
    rw [suc, off]
    rfl
  · refine owner (k := .lockOff) (Or.inr rfl) ?_ ?_
    · have same : ({ s.atHandle dt with suc := { (s.atHandle dt).suc with lock := false } } : State).runRequest = (s.atHandle dt).runRequest := by
        unfold State.runRequest
        rw [suc]
        rcases keeps with off | on
        · rw [off]
        · rw [on]
          rfl
      change lockReply (clearLock (s.atHandle dt)) .ok = _
      unfold clearLock
      rw [runChanged_stands same, suc]
      rfl
    · unfold State.switches State.men State.chgg
      rw [suc]
  · have running := latched lock
    obtain ⟨off, unpressed, state, handle⟩ : (clearLock (s.atHandle dt)).suc.lock = false ∧ (clearLock (s.atHandle dt)).suc.pressed = false
        ∧ (clearLock (s.atHandle dt)).suc.state = (if s.suc.speed < 5000 then .stopped else .stopping)
        ∧ (clearLock (s.atHandle dt)).ports.handle = s.ports.handle := by
      have holds : s.holdsPath := pathOk_holds path (by rw [running]; rfl)
      have enabled : s.suc.enableAsked = true := path.2.2.2.2.2.2.1.trans (by rw [running]; rfl)
      have present : (s.atHandle dt).runRequest = true := by
        unfold State.runRequest
        rw [suc]
        exact holdsRun running
      generalize hx : ({ s.atHandle dt with suc := { (s.atHandle dt).suc with lock := false } } : State) = x
      have xsuc : x.suc = { s.suc with lock := false } := by rw [← hx, ← suc]
      have absent : x.runRequest = false := by
        unfold State.runRequest
        rw [xsuc, released]
        rfl
      have cleared : clearLock (s.atHandle dt) = runEnds x := by
        unfold clearLock
        rw [present, hx]
        exact runChanged_ends absent
      have drives : x.suc.state = .starting ∨ x.suc.state = .running := Or.inr (by rw [xsuc]; exact running)
      have ports : x.ports.handle = s.ports.handle := by
        rw [← hx]
        exact congrArg Ports.handle (arrived_ports s .handle dt)
      have held : x.holdsPath := by
        obtain ⟨own, waits, quiet⟩ := holds
        have quiet' : (s.atHandle dt).unshelved := atHandle_unshelved dt quiet
        have arb : (s.atHandle dt).arb = s.arb := arrived_arb s .handle dt
        have chg : (s.atHandle dt).chg = s.chg := arrived_chg s .handle dt
        rw [← arb, ← chg] at waits
        rw [← arb] at own
        rw [← hx]
        exact ⟨own, waits, quiet'⟩
      rw [cleared]
      by_cases slow : s.suc.speed < 5000
      · obtain ⟨suc', -, -, -, -, frame⟩ := runEnds_stops absent drives (by rw [xsuc]; exact slow) held
        rw [xsuc] at suc'
        obtain ⟨_, _, _, _, _, _, _, _, e⟩ := frame
        rw [suc', if_pos slow]
        refine ⟨rfl, released, rfl, ?_⟩
        rw [e]
        exact ports
      · obtain ⟨suc', -, -, frame⟩ := runEnds_slows drives (by rw [xsuc]; exact Nat.not_lt.1 slow) (by rw [xsuc]; exact enabled)
        rw [xsuc] at suc'
        obtain ⟨_, _, _, _, e⟩ := frame
        rw [suc', if_neg slow]
        refine ⟨rfl, released, rfl, ?_⟩
        rw [e]
        exact ports
    obtain ⟨f, u, e, -, served⟩ := exec_row_event .lockOff .handle dt tag [] (s := s) opens (Nat.zero_le _) nofun
    obtain ⟨g, m, noted⟩ := event_noted f u
    have owned : serve .handle ⟨ReqKind.lockOff.byte, tag, []⟩ (s.atHandle dt) = lockReply (clearLock (s.atHandle dt)) .ok := by
      rcases serve_cases .handle .lockOff tag [] (s.atHandle dt) with ⟨c', no, -⟩ | ⟨-, served⟩
      · rw [portRefusal_passes (k := .lockOff) (link := .handle) (p := []) rfl nofun nofun rfl rfl] at no
        cases no
      · exact served
    rw [show s.arrived .handle dt = s.atHandle dt from rfl, owned] at served
    refine ⟨_, e, ?_⟩
    rw [noted, served]
    refine ⟨off, ?_, state, ?_⟩
    · change ((clearLock (s.atHandle dt)).suc.pressed || (clearLock (s.atHandle dt)).suc.lock) = false
      rw [off, unpressed]
      rfl
    · change ({ (clearLock (s.atHandle dt)).ports.handle with slot := _, buf := frame _ tag _ } : HandlePort) = _
      have data : (lockReply (clearLock (s.atHandle dt)) .ok).data = [0, BitVec.ofNat 8 (clearLock (s.atHandle dt)).suc.state.pos] := by
        unfold lockReply
        dsimp only
        rw [off]
        rfl
      rw [handle, data]
      rfl

end Sys2Proof.Machine
end

section
/-! PROOFS. The bin gauge's commands (06, sections 6.2 and 6.3): the debounced latch, and a try judged. -/

namespace Sys2Proof.Machine

/-! ## The debounced latch (06 R111, R116, R117; 04 R71, R72) -/

theorem demandS_detached {s : State} (out : s.bin.state = .detached) : s.demandS = 0 := by rw [demandS_capped, if_pos out]

/-- The demands see of the gauge its state only. -/
theorem formGrants_bin {s : State} {b : Bin} (same : b.state = s.bin.state) :
    State.formGrants { s with bin := b } = s.formGrants := by
  have demand : State.demandS { s with bin := b } = s.demandS := by
    unfold State.demandS
    dsimp only
    rw [same]
    rfl
  unfold State.formGrants State.grantS
  rw [demand]
  rfl

theorem giveUpWaiting_eq {s : State} (waiting : s.arb.waiting = some .suction) :
    giveUpWaiting s = recompute { s with arb := { s.arb with waiting := none }, suc := { s.suc with state := .stopped } } := by
  unfold giveUpWaiting
  rcases arbWithdraw_cases .suction s with ⟨-, e⟩ | ⟨no, -⟩
  · rw [e]
  · exact absurd waiting no

/-- `s` with the latch's debounce timer run out. -/
def State.unlatching (s : State) (d : Nat) : State :=
  { s with now := max s.now d, bin := { s.bin with latchTimer := none } }

theorem exec_latchDebounce {s : State} {d : Nat} (timer : s.bin.latchTimer = some d) :
    exec .latchDebounceCompletion s
      = .next (event takeLatch (s.unlatching d)) := by
  change execLatchDebounceCompletion s = _
  unfold execLatchDebounceCompletion
  rw [timer]
  rfl

/-- The gauge at a latch close, before its measurement. -/
def Bin.shut (b : Bin) : Bin := { b with closed := true, state := .uncal }

/-- The gauge at a latch open, its measurement over. -/
def Bin.opened (b : Bin) : Bin := { b with closed := false, state := .detached, cal := none, calPending := false }

theorem latchCloses_spec {s : State} (rests : s.bin.meas = none) :
    ByGrants { s with bin := (latchCloses s).bin } (latchCloses s) ∧ Granted (latchCloses s)
      ∧ (latchCloses s).suc = { s.suc with target := (latchCloses s).suc.target, duty := (latchCloses s).suc.duty }
      ∧ (latchCloses s).bin = if s.men = true then s.bin.shut else s.bin.shut.start s.settings := by
  have closes : latchCloses s = autoMeasure (recompute { s with bin := s.bin.shut }) := rfl
  have suc : (recompute { s with bin := s.bin.shut }).suc
      = { s.suc with
          target := (recompute { s with bin := s.bin.shut }).suc.target
          duty := (recompute { s with bin := s.bin.shut }).suc.duty } := by
    rw [recompute_suc, ← takeGrant_frame]
  have men : (recompute { s with bin := s.bin.shut }).men = s.men := by
    unfold State.men
    rw [suc, recompute_arb]
    rfl
  have granted := recompute_granted { s with bin := s.bin.shut }
  rw [closes]
  by_cases on : s.men = true
  · rw [autoMeasure_on (men.trans on), if_pos on, recompute_bin]
    exact ⟨recompute_byGrants _, granted, suc, rfl⟩
  · rw [autoMeasure_off (men.trans (Bool.eq_false_iff.2 on)), if_neg on]
    have starts : Bin.measuring (recompute { s with bin := s.bin.shut }).settings (recompute { s with bin := s.bin.shut }).bin
        = s.bin.shut.start s.settings := by
      rw [recompute_bin, recompute_settings]
      exact if_pos ⟨nofun, rests⟩
    rw [starts]
    refine ⟨?_, granted.congr ?_ rfl, suc, rfl⟩
    · obtain ⟨a, _, _, _, e⟩ := recompute_byGrants { s with bin := s.bin.shut }
      rw [e]
      exact ⟨a, _, _, _, rfl⟩
    · exact formGrants_bin (by rw [recompute_bin]; rfl)

theorem latchOpens_eq {s : State} (fitted : s.bin.state ≠ .detached) :
    latchOpens s = binDetached (recompute { abortMeasurement s with bin := (abortMeasurement s).bin.opened }) := if_neg fitted

/-- The latch just open, with the measurement aborted and the grants recomputed. -/
def State.unlatched (s : State) : State := recompute { abortMeasurement s with bin := (abortMeasurement s).bin.opened }

theorem unlatched_spec (s : State) :
    ByMotor s s.unlatched ∧ Standing (abortMeasurement s) s.unlatched ∧ s.unlatched.arb.path = s.arb.path
      ∧ s.unlatched.arb.waiting = s.arb.waiting ∧ s.unlatched.chg = s.chg ∧ s.unlatched.bin = s.bin.aborted.opened
      ∧ s.unlatched.suc = { s.suc with target := s.unlatched.suc.target, duty := s.unlatched.suc.duty }
      ∧ s.unlatched.suc.target = 0 ∧ s.unlatched.arb.ds = 0 ∧ s.unlatched.arb.gs = 0 := by
  obtain ⟨frame, stands, bin, suc, arb, chg, -⟩ := abortMeasurement_spec s
  have demand := demandS_detached (s := { abortMeasurement s with bin := (abortMeasurement s).bin.opened }) rfl
  have rest := (recompute_granted { abortMeasurement s with bin := (abortMeasurement s).bin.opened }).rest
    (demandS_detached (by rw [recompute_bin]; rfl))
  unfold State.unlatched
  refine ⟨?_, ?_, ?_, ?_, ?_, ?_, ?_, ?_, rest⟩
  · refine ByMotor.trans frame (ByMotor.trans ?_ (recompute_byMotor _))
    exact ⟨(abortMeasurement s).arb, _, _, _, _, _, _, _, rfl⟩
  · exact Standing.trans (t := { abortMeasurement s with bin := (abortMeasurement s).bin.opened }) (Standing.of_eq rfl rfl)
      (recompute_standing _)
  · rw [recompute_arb, ← arb]
    rfl
  · rw [recompute_arb, ← arb]
    rfl
  · rw [recompute_chg]
    exact chg
  · rw [recompute_bin, bin]
  · rw [recompute_suc, ← suc]
    exact takeGrant_frame _ _ _
  · rw [recompute_suc, takeGrant_target]
    unfold State.grantS
    rw [demand, Nat.zero_min, Nat.min_zero]

theorem binDetached_waits {s : State} (waits : s.suc.state = .waitPath) : binDetached s = raiseHandle .binOpen (giveUpWaiting s) := by
  unfold binDetached
  rw [waits]

theorem binDetached_starts {s : State} (starts : s.suc.state = .starting) :
    binDetached s = enterStopping (raiseHandle .binOpen s) := by
  unfold binDetached
  rw [starts]

theorem binDetached_rests {s : State} (waits : s.suc.state ≠ .waitPath) (starts : s.suc.state ≠ .starting) : binDetached s = s := by
  unfold binDetached
  split
  · rename_i h; exact absurd h waits
  · rename_i h; exact absurd h starts
  · rfl

/-- A run request that meets a DETACHED bin at the entry to STOPPED is turned away. -/
theorem afterStopped_detached {s : State} (run : s.runRequest = true) (out : s.bin.state = .detached) :
    afterStopped s = raiseHandle .binOpen { s with choices := s.choices + 1 } := by
  refine restart_detached (r := { s with choices := s.choices + 1 }) ?_ out
  unfold afterStopped
  rw [if_pos run]
  dsimp only
  split
  · exact Or.inl rfl
  · exact Or.inr rfl

/-- A start that meets the open latch: STOPPING, or STOPPED below 5000 rpm. -/
theorem enterStopping_detached {s : State} (starting : s.suc.state = .starting) (out : s.bin.state = .detached)
    (holds : s.holdsPath) (enabled : s.suc.enableAsked = true) (run : s.runRequest = true) :
    ByMotor s (enterStopping s) ∧ Standing s (enterStopping s) ∧ (enterStopping s).bin = s.bin
      ∧ (enterStopping s).suc.state = (if s.suc.speed < 5000 then .stopped else .stopping)
      ∧ (enterStopping s).suc.target = 0 ∧ (enterStopping s).suc.duty = 0
      ∧ (enterStopping s).arb.ds = 0 ∧ (enterStopping s).arb.gs = 0 := by
  have left : s.leftDirt = s.dirt := if_neg (by rw [starting]; decide)
  have frame : ByMotor s s.stopping := by
    unfold State.stopping
    rw [left]
    exact suc_byMotor _ _
  by_cases slow : s.suc.speed < 5000
  · rw [enterStopping_ends slow, if_pos slow]
    obtain ⟨frame', stands, suc, bin, -, -, rest⟩ := afterRelease_spec (s := s.stopping) (u := s.stopping.suc.toStopped) holds.1 holds.2.1 rfl rfl
    have runs : (s.stopping.afterRelease s.stopping.suc.toStopped).runRequest = true := by
      unfold State.runRequest
      rw [suc]
      exact run
    have detached : (s.stopping.afterRelease s.stopping.suc.toStopped).bin.state = .detached := by rw [bin]; exact out
    rw [endStopping_eq, afterStopped_detached runs detached]
    refine ⟨frame.trans (frame'.trans ?_), stands.trans ?_, bin, ?_, ?_, ?_, rest⟩
    · exact ⟨(s.stopping.afterRelease s.stopping.suc.toStopped).arb, _, _, _, _, _, _, _, rfl⟩
    · exact raiseHandle_standing _ _
    · exact congrArg Suction.state suc
    · exact congrArg Suction.target suc
    · exact congrArg Suction.duty suc
  · have suc : (recompute s.stopping).suc = s.suc.toStopping s.now := recompute_suc_rest (s := s.stopping) rfl
    have rest := (recompute_granted s.stopping).rest (demandS_rest (by rw [suc]; rfl))
    rw [enterStopping_slows (Nat.not_lt.1 slow) enabled, if_neg slow]
    refine ⟨frame.trans (recompute_byMotor _), Standing.trans (t := s.stopping) (Standing.of_eq rfl rfl) (recompute_standing _), ?_,
      by rw [suc]; rfl, by rw [suc]; rfl, by rw [suc]; rfl, rest⟩
    rw [recompute_bin]
    rfl

theorem aborted_opened (b : Bin) (timer : Option Nat) :
    Bin.opened (Bin.aborted { b with latchTimer := timer })
      = { b with
          latchTimer := timer, closed := false, state := .detached, cal := none, calPending := false, meas := none
          lastResult := if b.meas.isSome = true then .stale else b.lastResult
          seq := if b.meas.isSome = true then (b.seq + 1) % 256 else b.seq } := by
  unfold Bin.aborted Bin.opened
  dsimp only
  by_cases flies : b.meas.isSome = true
  · rw [if_pos flies, if_pos flies, if_pos flies]
  · rw [if_neg flies, if_neg flies, if_neg flies, show b.meas = none by simpa using flies]

/-- Settles O50: the timer without a change, a close, and an open by the state of the regulator. -/
theorem latchDebounced : Obligations.LatchDebounced := by
  intro s
  refine ⟨fun none_ => ?_, fun d timer => ⟨fun same => ⟨_, exec_latchDebounce timer, ?_⟩, fun line closed rests => ?_,
    fun line closed fitted ok => ⟨_, exec_latchDebounce timer, ?_⟩⟩⟩
  · change execLatchDebounceCompletion s = _
    unfold execLatchDebounceCompletion
    rw [none_]
  · refine sameButGens_event ?_ rfl
    unfold takeLatch
    dsimp only [State.unlatching]
    rw [same]
    cases s.bin.closed <;> rfl
  · have takes : takeLatch (s.unlatching d) = latchCloses (s.unlatching d) := by
      unfold takeLatch
      rw [show (s.unlatching d).latchLine = true from line, show (s.unlatching d).bin.closed = false from closed]
    obtain ⟨frame, granted, suc, bin⟩ := latchCloses_spec (s := s.unlatching d) rests
    have switches : (latchCloses (s.unlatching d)).switches = s.switches := by
      unfold State.switches State.men State.chgg
      rw [suc]
      obtain ⟨_, _, _, _, e⟩ := frame
      rw [e]
      rfl
    obtain ⟨g, e⟩ : ∃ g, event takeLatch (s.unlatching d) = { latchCloses (s.unlatching d) with gens := g } :=
      ⟨_, sameButGens_event takes switches⟩
    refine ⟨_, (exec_latchDebounce timer).trans (congrArg Host.Outcome.next e), ?_⟩
    obtain ⟨_, _, _, _, e⟩ := frame
    refine ⟨?_, granted.ds, ?_, ?_, ?_, ?_, ?_⟩
    · dsimp only
      rw [bin]
      by_cases on : s.men = true
      · rw [if_pos on, if_pos (show (s.unlatching d).men = true from on), ← rests]
        rfl
      · rw [if_neg on, if_neg (show ¬(s.unlatching d).men = true from on)]
        rfl
    · refine granted.gs.trans ?_
      rw [e]
      rfl
    · rw [e]; rfl
    · rw [e]; rfl
    · exact (congrArg Suction.state suc :)
    · dsimp only
      rw [e]
      rfl
  · have takes : takeLatch (s.unlatching d) = binDetached (s.unlatching d).unlatched := by
      unfold takeLatch
      rw [show (s.unlatching d).latchLine = false from line, show (s.unlatching d).bin.closed = true from closed]
      exact latchOpens_eq fitted
    obtain ⟨g, m, noted⟩ := event_noted takeLatch (s.unlatching d)
    obtain ⟨frame, stands, path, waiting, chg, bin, suc, target, ds, gs⟩ := unlatched_spec (s.unlatching d)
    obtain ⟨-, -, -, -, -, -, done⟩ := abortMeasurement_spec (s.unlatching d)
    have gauge : (s.unlatching d).bin.aborted.opened
        = { s.bin with
            latchTimer := none, closed := false, state := .detached, cal := none, calPending := false, meas := none
            lastResult := if s.bin.meas.isSome = true then .stale else s.bin.lastResult
            seq := if s.bin.meas.isSome = true then (s.bin.seq + 1) % 256 else s.bin.seq } := aborted_opened _ _
    have told {t : State} (after : Standing (s.unlatching d).unlatched t) (flies : s.bin.meas.isSome = true) :
        t.noted .binDone ∧ t.dockNoted .binDone :=
      ⟨(stands.trans after).1 _ (done flies).1, (stands.trans after).2 _ (done flies).2⟩
    rw [noted, takes]
    have stage (t : State) (kept : ByMotor (s.unlatching d) t) :
        t.arb.suction = s.arb.suction ∧ t.arb.brush = s.arb.brush ∧ t.arb.free = s.arb.free
          ∧ t.head = s.head ∧ t.dirt = s.dirt ∧ t.acct = s.acct ∧ t.alw = s.alw ∧ t.settings = s.settings := by
      obtain ⟨_, _, _, _, _, _, _, _, e⟩ := kept
      rw [e]
      exact ⟨rfl, rfl, rfl, rfl, rfl, rfl, rfl, rfl⟩
    have state : (s.unlatching d).unlatched.suc.state = s.suc.state := (congrArg Suction.state suc :)
    by_cases waits : s.suc.state = .waitPath
    · have queued : (s.unlatching d).unlatched.arb.waiting = some .suction := waiting.trans (ok.2.2.1.2 waits)
      rw [binDetached_waits (by rw [state]; exact waits), giveUpWaiting_eq queued]
      generalize hx : ({ (s.unlatching d).unlatched with
        arb := { (s.unlatching d).unlatched.arb with waiting := none }
        suc := { (s.unlatching d).unlatched.suc with state := .stopped } } : State) = x
      have after : (recompute x).suc = x.suc := recompute_suc_rest (by rw [← hx]; exact target)
      have stopped : x.suc.state = .stopped := by rw [← hx]
      have rest := (recompute_granted x).rest (demandS_rest (by rw [after, stopped]; rfl))
      have moved : ByMotor (s.unlatching d).unlatched x := by
        rw [← hx]
        exact ⟨{ (s.unlatching d).unlatched.arb with waiting := none }, _, _, _, _, _, _, _, rfl⟩
      have stands' : Standing (s.unlatching d).unlatched x := by rw [← hx]; exact Standing.of_eq rfl rfl
      refine ⟨?_, told (stands'.trans ((recompute_standing _).trans (raiseHandle_standing _ _))), rest.1, rest.2, ?_, fun _ => ⟨?_, ?_, ?_,
        noted_raise _ _⟩, fun h => absurd (waits.symm.trans h) nofun, fun h => absurd waits h,
        (stage _ (frame.trans (moved.trans ((recompute_byMotor _).trans (raiseHandle_byMotor .binOpen _)))) :)⟩
      · rw [raiseHandle_bin, recompute_bin, ← hx]
        exact bin.trans gauge
      · rw [raiseHandle_suc, after, ← hx]
        exact target
      · rw [raiseHandle_suc, after, ← hx]
      · rw [raiseHandle_arb, recompute_arb, ← hx]
        exact path.trans (ok.2.2.2.2.1 (ok.2.2.1.2 waits))
      · rw [raiseHandle_arb, recompute_arb, ← hx]
        rfl
    by_cases starts : s.suc.state = .starting
    · rw [binDetached_starts (by rw [state]; exact starts)]
      have holds : (s.unlatching d).unlatched.holdsPath := by
        obtain ⟨own, queue, quiet⟩ : s.holdsPath := pathOk_holds ok (by rw [starts]; rfl)
        refine ⟨path.trans own, ?_, ?_⟩
        · rw [waiting, chg]
          exact queue
        · obtain ⟨_, _, _, _, _, _, _, _, e⟩ := frame
          rw [e]
          exact quiet
      have enabled : (s.unlatching d).unlatched.suc.enableAsked = true := by
        rw [suc]
        exact ok.2.2.2.2.2.2.1.trans (by rw [starts]; rfl)
      have run : (s.unlatching d).unlatched.runRequest = true := by
        unfold State.runRequest
        rw [suc]
        exact ok.2.2.2.2.2.2.2.1 (Or.inr (Or.inl starts))
      have speed : (s.unlatching d).unlatched.suc.speed = s.suc.speed := (congrArg Suction.speed suc :)
      obtain ⟨moved, stands', bin', state', target', duty', ds', gs'⟩ :=
        enterStopping_detached (s := raiseHandle .binOpen (s.unlatching d).unlatched) (state.trans starts) (by rw [raiseHandle_bin, bin]; rfl) holds enabled run
      refine ⟨(bin'.trans bin).trans gauge, told ((raiseHandle_standing _ _).trans stands'), ds', gs', target', fun h => absurd h waits,
        fun _ => ⟨?_, stands'.1 _ (noted_raise _ _), duty'⟩, fun _ h => absurd starts h,
        (stage _ (frame.trans ((raiseHandle_byMotor .binOpen _).trans moved)) :)⟩
      rw [state', raiseHandle_suc, speed]
    · rw [binDetached_rests (by rw [state]; exact waits) (by rw [state]; exact starts)]
      exact ⟨bin.trans gauge, told (Standing.refl _), ds, gs, target, fun h => absurd h waits, fun h => absurd h starts,
        fun _ _ => ⟨state, path, waiting⟩, (stage _ frame :)⟩

/-! ## A try judged (06 R112 to R114, R119 to R121) -/

/-- `t` is `s` but for the gauge, the grants and what they lower, and the notices. -/
def ByTry (s t : State) : Prop :=
  ∃ (a : Arbiter) (b : Bin) (target duty : Nat) (h : BitVec 15) (w : BitVec 1) (d : BitVec 3),
    t = { s with
      arb := { s.arb with
        ds := a.ds, dh := a.dh, gs := a.gs, gh := a.gh, shortS := a.shortS, shortH := a.shortH, used := a.used }
      bin := b, suc := { s.suc with target := target, duty := duty }
      ports := { s.ports with handleNotes := h, wandNotes := w, dockNotes := d } }

theorem ByTry.trans {s t u : State} (h : ByTry s t) (k : ByTry t u) : ByTry s u := by
  obtain ⟨_, _, _, _, _, _, _, rfl⟩ := h
  obtain ⟨a, _, _, _, _, _, _, rfl⟩ := k
  exact ⟨a, _, _, _, _, _, _, rfl⟩

theorem bin_byTry (s : State) (b : Bin) : ByTry s { s with bin := b } := ⟨s.arb, _, _, _, _, _, _, rfl⟩

theorem raiseHandle_byTry (n : HandleNotice) (s : State) : ByTry s (raiseHandle n s) := ⟨s.arb, _, _, _, _, _, _, rfl⟩

theorem recompute_byTry (s : State) : ByTry s (recompute s) := by
  rw [recompute_spec, takeGrant_frame]
  exact ⟨s.formGrants, _, _, _, _, _, _, rfl⟩

/-- The switches and the marks of events are no business of a try's. -/
theorem ByTry.switches {s t : State} (h : ByTry s t) : t.switches = s.switches := by
  obtain ⟨_, _, _, _, _, _, _, rfl⟩ := h
  rfl

/-- A measurement ended with a result (06 R114). -/
def Bin.ended (result : BinResult) (b : Bin) : Bin := { b with meas := none, lastResult := result, seq := (b.seq + 1) % 256 }

theorem completeMeasurement_spec (result : BinResult) (s : State) :
    ByTry s (completeMeasurement result s) ∧ (completeMeasurement result s).bin = s.bin.ended result
      ∧ (completeMeasurement result s).noted .binDone ∧ (completeMeasurement result s).dockNoted .binDone
      ∧ (completeMeasurement result s).arb = s.arb ∧ (completeMeasurement result s).suc = s.suc :=
  ⟨⟨s.arb, _, _, _, _, _, _, rfl⟩, rfl, noted_raise _ _, dockNoted_raise _ _, rfl, rfl⟩

theorem raiseIfFull_spec (raised : Bool) (s : State) :
    ByTry s (raiseIfFull raised s) ∧ Standing s (raiseIfFull raised s) ∧ (raiseIfFull raised s).bin = s.bin
      ∧ (raiseIfFull raised s).arb = s.arb ∧ (raiseIfFull raised s).suc = s.suc
      ∧ (raised = true → (raiseIfFull raised s).noted .binFull) := by
  cases raised with
  | false => exact ⟨bin_byTry s s.bin, Standing.refl s, rfl, rfl, rfl, nofun⟩
  | true => exact ⟨raiseHandle_byTry _ s, raiseHandle_standing _ s, rfl, rfl, rfl, fun _ => noted_raise _ s⟩

/-- A GOOD count applied: the gauge, its notices, and a recomputation where its state changes. -/
theorem completeGood_spec (count : Nat) (s : State) :
    ByTry s (completeGood count s)
      ∧ (completeGood count s).bin = ((s.bin.ended .good).applyGood s.settings count).1
      ∧ (completeGood count s).noted .binDone ∧ (completeGood count s).dockNoted .binDone
      ∧ (((s.bin.ended .good).applyGood s.settings count).2 = true → (completeGood count s).noted .binFull)
      ∧ ((completeGood count s).bin.state = s.bin.state → (completeGood count s).arb = s.arb ∧ (completeGood count s).suc = s.suc)
      ∧ ((completeGood count s).bin.state ≠ s.bin.state → Granted (completeGood count s)) := by
  obtain ⟨frame, bin, done, dock, arb, suc⟩ := completeMeasurement_spec .good s
  generalize hb : (s.bin.ended .good).applyGood s.settings count = g
  obtain ⟨frame', stands, bin', arb', suc', full⟩ :=
    raiseIfFull_spec g.2 { completeMeasurement .good s with bin := g.1 }
  generalize hx : raiseIfFull g.2 { completeMeasurement .good s with bin := g.1 } = x at *
  have good : completeGood count s = if g.1.state = s.bin.state then x else recompute x := by
    rw [← hx, ← hb]
    rfl
  have stands : Standing (completeMeasurement .good s) x := Standing.trans (Standing.of_eq rfl rfl) stands
  have frame : ByTry s x := frame.trans ((bin_byTry _ _).trans frame')
  rw [good]
  by_cases same : g.1.state = s.bin.state
  · rw [if_pos same]
    exact ⟨frame, bin', stands.1 _ done, stands.2 _ dock, full, fun _ => ⟨arb', suc'⟩,
      fun h => absurd ((congrArg Bin.state bin').trans same) h⟩
  · rw [if_neg same]
    have kept := stands.trans (recompute_standing x)
    have bin : (recompute x).bin = g.1 := (recompute_bin x).trans bin'
    exact ⟨frame.trans (recompute_byTry x), bin, kept.1 _ done, kept.2 _ dock, fun r => (recompute_standing x).1 _ (full r),
      fun h => absurd ((congrArg Bin.state bin).symm.trans h) same, fun _ => recompute_granted x⟩

theorem applyGood_baseline {b : Bin} (t : Settings) (count : Nat) (h : b.state = .uncal ∨ b.calPending = true) :
    (b.applyGood t count).1
      = { b with
          lastCount := some count, calPending := false, state := .ready
          cal := some ⟨count, count * t.fullRatio / 256, 0⟩ } := by
  unfold Bin.applyGood
  rw [if_pos h]
  rfl

/-- The state that a fill calls for (06 R121). -/
theorem judgeFill_calls (pct fill : Nat) (st : BinState) :
    (judgeFill pct fill st).1
      = if st = .ready ∧ pct ≤ fill then .full else if st = .full ∧ fill + 10 < pct then .ready else st := by
  cases st with
  | detached => rfl
  | uncal => rfl
  | ready =>
    by_cases full : pct ≤ fill
    · simp [judgeFill, full]
    · simp [judgeFill, full]
  | full =>
    by_cases low : fill + 10 < pct
    · simp [judgeFill, low]
    · simp [judgeFill, low]

theorem judgeFill_raises {pct fill : Nat} (h : (judgeFill pct fill .ready).1 = .full) : (judgeFill pct fill .ready).2 = true := by
  by_cases full : pct ≤ fill
  · exact congrArg Prod.snd (if_pos full)
  · rw [show judgeFill pct fill .ready = (.ready, false) from if_neg full] at h
    cases h

theorem applyGood_fill {b : Bin} (t : Settings) (count : Nat) (h : ¬(b.state = .uncal ∨ b.calPending = true)) {c : Calibration}
    (cal : b.cal = some c) :
    b.applyGood t count
      = ({ b with
            lastCount := some count, cal := some { c with fill := fillOf c.baseline c.full count }
            state := (judgeFill t.fullPct (fillOf c.baseline c.full count) b.state).1 },
          (judgeFill t.fullPct (fillOf c.baseline c.full count) b.state).2) := by
  unfold Bin.applyGood
  rw [if_neg h, cal]

/-- A GOOD count that makes a READY bin FULL raises BIN_FULL. -/
theorem applyGood_raises {b : Bin} {t : Settings} {count : Nat} (ready : b.state = .ready)
    (full : (b.applyGood t count).1.state = .full) : (b.applyGood t count).2 = true := by
  by_cases base : b.state = .uncal ∨ b.calPending = true
  · rw [applyGood_baseline t count base] at full
    cases full
  · cases cal : b.cal with
    | none =>
      unfold Bin.applyGood at full
      rw [if_neg base, cal] at full
      exact absurd (ready.symm.trans full) nofun
    | some c =>
      rw [applyGood_fill t count base cal] at full ⊢
      dsimp only at full ⊢
      rw [ready] at full ⊢
      exact judgeFill_raises full

/-- `s` with a try's halves noted. -/
def State.tried (s : State) (dt a b : Nat) : State := { s with now := s.now + dt, bin := { s.bin with lastTry := some ⟨a, b⟩ } }

theorem tryCompleted_dead {m : Measurement} {a b dt : Nat} (s : State) (dead : a = 0 ∨ b = 0) :
    tryCompleted m a b (s.elapse dt) = completeMeasurement .dead (s.tried dt a b) := if_pos dead

theorem tryCompleted_hops {m : Measurement} {a b dt : Nat} (s : State) (live : ¬(a = 0 ∨ b = 0)) (far : m.hopTol < (a - b) + (b - a))
    (hops : m.hop = true ∧ m.tryNo < 4) :
    tryCompleted m a b (s.elapse dt)
      = { s.tried dt a b with
          bin := { (s.tried dt a b).bin with meas := some { m with tryNo := m.tryNo + 1, step := (m.step + 1) % 4 } } } := by
  unfold tryCompleted
  dsimp only
  rw [if_neg live, if_pos far, if_pos (by simpa using hops)]
  rfl

theorem tryCompleted_noisy {m : Measurement} {a b dt : Nat} (s : State) (live : ¬(a = 0 ∨ b = 0)) (far : m.hopTol < (a - b) + (b - a))
    (stays : ¬(m.hop = true ∧ m.tryNo < 4)) :
    tryCompleted m a b (s.elapse dt) = completeMeasurement .noisy (s.tried dt a b) := by
  unfold tryCompleted
  dsimp only
  rw [if_neg live, if_pos far, if_neg (by simpa using stays)]
  rfl

/-- The count of a GOOD try (06 R114). -/
def Measurement.count (m : Measurement) (a b : Nat) : Nat := min 4095 (if m.double = true then 2 * (a + b) else a + b)

/-- `s` with a GOOD try's halves and its frequency step noted. -/
def State.stepped (s : State) (dt a b step : Nat) : State :=
  { s.tried dt a b with bin := { (s.tried dt a b).bin with workStep := step } }

theorem tryCompleted_good {m : Measurement} {a b dt : Nat} (s : State) (live : ¬(a = 0 ∨ b = 0)) (near : ¬m.hopTol < (a - b) + (b - a)) :
    tryCompleted m a b (s.elapse dt) = completeGood (m.count a b) (s.stepped dt a b m.step) := by
  unfold tryCompleted Measurement.count
  dsimp only
  rw [if_neg live, if_neg near, Nat.mul_comm]
  rfl

/-- Settles O51: a DEAD try, a hop, a NOISY end, and a GOOD count. -/
theorem tryJudged : Obligations.TryJudged := by
  intro dt h1 h2 s a b
  refine ⟨fun none_ => ?_, fun m flies => ?_⟩
  · change execTryCompletion dt h1 h2 s = _
    unfold execTryCompletion
    dsimp only [State.elapse]
    rw [none_]
  · intro far hops count ended
    have exec_ : exec (.tryCompletion dt h1 h2) s = .next (event (tryCompleted m a b) (s.elapse dt)) := by
      change execTryCompletion dt h1 h2 s = _
      unfold execTryCompletion
      dsimp only [State.elapse]
      rw [flies]
      rfl
    have spread : m.hopTol < (a - b) + (b - a) ↔ far := by
      change _ ↔ m.hopTol < max a b - min a b
      omega
    have noted (x : State) (result : tryCompleted m a b (s.elapse dt) = x) (frame : ByTry (s.elapse dt) x) :
        ∃ g, event (tryCompleted m a b) (s.elapse dt) = { x with gens := g } ∧ { x with gens := g } = { s with
          now := s.now + dt, bin := x.bin
          arb := { s.arb with
            ds := x.arb.ds, dh := x.arb.dh, gs := x.arb.gs, gh := x.arb.gh, shortS := x.arb.shortS, shortH := x.arb.shortH
            used := x.arb.used }
          suc := { s.suc with target := x.suc.target, duty := x.suc.duty }
          ports := { s.ports with
            handleNotes := x.ports.handleNotes, wandNotes := x.ports.wandNotes, dockNotes := x.ports.dockNotes }
          gens := g } := by
      refine ⟨_, sameButGens_event result frame.switches, ?_⟩
      obtain ⟨_, _, _, _, _, _, _, e⟩ := frame
      rw [e]
      rfl
    by_cases live : a = 0 ∨ b = 0
    · obtain ⟨frame, bin, done, dock, arb, suc⟩ := completeMeasurement_spec .dead (s.tried dt a b)
      obtain ⟨g, e, framed⟩ := noted _ (tryCompleted_dead s live) ((bin_byTry _ _).trans frame)
      have dead {p : Prop} (ha : a ≠ 0) (hb : b ≠ 0) : p := (live.elim ha hb).elim
      exact ⟨_, exec_.trans (congrArg Host.Outcome.next e), fun _ => bin, fun ha hb => dead ha hb, fun ha hb => dead ha hb,
        fun ha hb => dead ha hb, fun ha hb => dead ha hb, fun _ => ⟨done, dock⟩, fun ready full => absurd (ready.symm.trans full) nofun,
        fun _ => ⟨arb, suc⟩, fun moved => absurd rfl moved, framed⟩
    have lives : a ≠ 0 ∧ b ≠ 0 := not_or.1 live
    by_cases apart : far
    · by_cases hop : m.hop = true ∧ m.tryNo < 4
      · have hops_ : hops := ⟨apart, hop⟩
        obtain ⟨g, e, framed⟩ := noted _ (tryCompleted_hops s live (spread.2 apart) hop) ((bin_byTry _ _).trans (bin_byTry _ _))
        exact ⟨_, exec_.trans (congrArg Host.Outcome.next e), fun dead => absurd dead live, fun _ _ _ => rfl,
          fun _ _ _ stays => absurd hops_ stays, fun _ _ near => absurd apart near, fun _ _ near => absurd apart near,
          fun ends => absurd ends (not_or.2 ⟨not_not.2 hops_, live⟩), fun ready full => absurd (ready.symm.trans full) nofun,
          fun _ => ⟨rfl, rfl⟩, fun moved => absurd rfl moved, framed⟩
      · have stays : ¬hops := fun h => hop h.2
        obtain ⟨frame, bin, done, dock, arb, suc⟩ := completeMeasurement_spec .noisy (s.tried dt a b)
        obtain ⟨g, e, framed⟩ := noted _ (tryCompleted_noisy s live (spread.2 apart) hop) ((bin_byTry _ _).trans frame)
        exact ⟨_, exec_.trans (congrArg Host.Outcome.next e), fun dead => absurd dead live, fun _ _ h => absurd h stays,
          fun _ _ _ _ => bin, fun _ _ near => absurd apart near, fun _ _ near => absurd apart near,
          fun _ => ⟨done, dock⟩, fun ready full => absurd (ready.symm.trans full) nofun,
          fun _ => ⟨arb, suc⟩, fun moved => absurd rfl moved, framed⟩
    · have stays : ¬hops := fun h => apart h.1
      obtain ⟨frame, bin, done, dock, full, same, moves⟩ := completeGood_spec (m.count a b) (s.stepped dt a b m.step)
      have whole : ByTry (s.elapse dt) (completeGood (m.count a b) (s.stepped dt a b m.step)) := (bin_byTry _ _).trans frame
      obtain ⟨g, e, framed⟩ := noted _ (tryCompleted_good s live (fun h => apart (spread.1 h))) whole
      refine ⟨_, exec_.trans (congrArg Host.Outcome.next e), fun dead => absurd dead live, fun _ _ h => absurd h stays,
        fun _ _ h => absurd h apart, fun _ _ _ base => ?_, fun _ _ _ state pending c cal => ?_, fun _ => ⟨done, dock⟩,
        fun ready becomes => full ?_, same, fun moved => ?_, framed⟩
      · exact bin.trans (applyGood_baseline (b := (s.stepped dt a b m.step).bin.ended .good) _ _ base)
      · intro fill
        refine bin.trans ?_
        have settled : ¬(s.bin.state = .uncal ∨ s.bin.calPending = true) := not_or.2 ⟨state, Bool.eq_false_iff.1 pending⟩
        rw [applyGood_fill (b := (s.stepped dt a b m.step).bin.ended .good) _ _ settled (c := c) cal]
        dsimp only
        rw [judgeFill_calls]
        rfl
      · refine applyGood_raises ready ?_
        rw [← bin]
        exact becomes
      · have granted := moves moved
        obtain ⟨_, _, _, _, _, _, _, alw⟩ := whole
        refine ⟨granted.ds, granted.gs.trans ?_⟩
        rw [show (completeGood (m.count a b) (s.stepped dt a b m.step)).alw = s.alw by rw [alw]; rfl]
        rfl

end Sys2Proof.Machine
end

section
/-! PROOFS. The bleed selection (08 R155): the cells in the order of their visits, and what each visit finds. -/

namespace Sys2Proof.Machine

/-- The cell is visited before the other: a higher voltage, or the same at a lower index. -/
def Before (a b : Nat × Nat) : Prop := b.2 < a.2 ∨ b.2 = a.2 ∧ a.1 < b.1

theorem insertCell_perm (c : Nat × Nat) (l : List (Nat × Nat)) : (insertCell c l).Perm (c :: l) := by
  induction l with
  | nil => exact List.Perm.refl _
  | cons d rest ih =>
    unfold insertCell
    split
    · exact List.Perm.refl _
    · exact (ih.cons d).trans (List.Perm.swap c d rest)

theorem insertCell_ordered {c : Nat × Nat} {l : List (Nat × Nat)} (ordered : l.Pairwise Before) (last : ∀ d ∈ l, d.1 < c.1) :
    (insertCell c l).Pairwise Before := by
  induction l with
  | nil => exact List.pairwise_singleton _ _
  | cons d rest ih =>
    obtain ⟨first, tail⟩ := List.pairwise_cons.1 ordered
    have lower := last d List.mem_cons_self
    unfold insertCell
    split
    · rename_i higher
      refine List.pairwise_cons.2 ⟨fun e mem => ?_, ordered⟩
      rcases List.mem_cons.1 mem with rfl | mem
      · exact Or.inl higher
      · have := first e mem
        unfold Before at *
        omega
    · rename_i higher
      refine List.pairwise_cons.2 ⟨fun e mem => ?_, ih tail fun e mem => last e (List.mem_cons_of_mem _ mem)⟩
      rcases List.mem_cons.1 ((insertCell_perm c rest).mem_iff.1 mem) with rfl | mem
      · unfold Before
        omega
      · exact first e mem

/-- Cells put in one after the other, by rising index, stand in the order of their visits. -/
theorem insertCells_ordered (l : List (Nat × Nat)) : ∀ acc : List (Nat × Nat), acc.Pairwise Before →
    (∀ d ∈ acc, ∀ c ∈ l, d.1 < c.1) → l.Pairwise (fun a b => a.1 < b.1) →
      (l.foldl (fun acc c => insertCell c acc) acc).Pairwise Before ∧ (l.foldl (fun acc c => insertCell c acc) acc).Perm (acc ++ l) := by
  induction l with
  | nil => exact fun acc ordered _ _ => ⟨ordered, by simp⟩
  | cons c rest ih =>
    intro acc ordered below rising
    obtain ⟨first, tail⟩ := List.pairwise_cons.1 rising
    have perm := insertCell_perm c acc
    obtain ⟨sorted, perm'⟩ := ih (insertCell c acc) (insertCell_ordered ordered fun d mem => below d mem c List.mem_cons_self)
      (fun d mem e mem' => by
        rcases List.mem_cons.1 (perm.mem_iff.1 mem) with rfl | mem
        · exact first e mem'
        · exact below d mem e (List.mem_cons_of_mem _ mem')) tail
    refine ⟨sorted, perm'.trans ((perm.append_right rest).trans ?_)⟩
    exact List.perm_middle.symm

/-- The cells with their numbers, 1 to 7. -/
def Cells.numbered (c : Cells) : List (Nat × Nat) := (List.range 7).map fun n => (n + 1, c.toList.getD n 0)

theorem visitOrder_spec (c : Cells) : (visitOrder c).Pairwise Before ∧ (visitOrder c).Perm c.numbered := by
  have rising : c.numbered.Pairwise (fun a b => a.1 < b.1) :=
    List.pairwise_map.2 (List.pairwise_lt_range.imp (Nat.add_lt_add_right · 1))
  obtain ⟨ordered, perm⟩ := insertCells_ordered c.numbered [] List.Pairwise.nil nofun rising
  exact ⟨ordered, perm⟩

/-! ## What the visits take -/

section
variable (threshold : Nat)

theorem visit_grows {taken : List Nat} {c : Nat × Nat} {n : Nat} (h : n ∈ taken) : n ∈ visit threshold taken c := by
  unfold visit
  split
  · exact List.mem_cons_of_mem _ h
  · exact h

theorem visits_grow {n : Nat} (l : List (Nat × Nat)) : ∀ taken : List Nat, n ∈ taken → n ∈ l.foldl (visit threshold) taken := by
  induction l with
  | nil => exact fun _ h => h
  | cons c rest ih => exact fun taken h => ih _ (visit_grows threshold h)

/-- What the visits take is taken before, or is one of the cells visited. -/
theorem visits_take {n : Nat} (l : List (Nat × Nat)) : ∀ taken : List Nat, n ∈ l.foldl (visit threshold) taken →
    n ∈ taken ∨ n ∈ l.map Prod.fst := by
  induction l with
  | nil => exact fun _ h => Or.inl h
  | cons c rest ih =>
    intro taken h
    rcases ih _ h with h | h
    · unfold visit at h
      split at h
      · rcases List.mem_cons.1 h with rfl | h
        · exact Or.inr List.mem_cons_self
        · exact Or.inl h
      · exact Or.inl h
    · exact Or.inr (List.mem_cons_of_mem _ h)

theorem visit_mem_iff {taken : List Nat} {c : Nat × Nat} (new : c.1 ∉ taken) :
    c.1 ∈ visit threshold taken c ↔ threshold < c.2 ∧ c.1 - 1 ∉ taken ∧ c.1 + 1 ∉ taken := by
  unfold visit
  simp only [List.contains_eq_mem, decide_eq_false_iff_not]
  split
  · rename_i free
    exact ⟨fun _ => free, fun _ => List.mem_cons_self⟩
  · rename_i busy
    exact ⟨fun h => absurd h new, fun h => absurd h busy⟩

/-- A cell among distinct ones is taken exactly when it stands above the threshold and neither neighbour visited before is taken. -/
theorem visits_take_iff {before after : List (Nat × Nat)} {c : Nat × Nat}
    (distinct : ((before ++ c :: after).map Prod.fst).Nodup) :
    c.1 ∈ (before ++ c :: after).foldl (visit threshold) []
      ↔ threshold < c.2
        ∧ ∀ n, n = c.1 - 1 ∨ n = c.1 + 1 → n ∈ before.map Prod.fst → n ∉ (before ++ c :: after).foldl (visit threshold) [] := by
  have split_ : (before ++ c :: after).foldl (visit threshold) []
      = after.foldl (visit threshold) (visit threshold (before.foldl (visit threshold) []) c) := List.foldl_append
  rw [List.map_append, List.map_cons] at distinct
  obtain ⟨-, tail, apart⟩ := List.nodup_append.1 distinct
  have fresh : c.1 ∉ after.map Prod.fst := (List.nodup_cons.1 tail).1
  have earlier {n : Nat} (h : n ∈ before.foldl (visit threshold) []) : n ∈ before.map Prod.fst :=
    (visits_take threshold before [] h).resolve_left List.not_mem_nil
  have new : c.1 ∉ before.map Prod.fst := fun h => apart _ h _ List.mem_cons_self rfl
  have settled {n : Nat} (h : n ∈ before.map Prod.fst) :
      n ∈ (before ++ c :: after).foldl (visit threshold) [] ↔ n ∈ before.foldl (visit threshold) [] := by
    rw [split_]
    refine ⟨fun taken => ?_, fun taken => visits_grow threshold after _ (visit_grows threshold taken)⟩
    rcases visits_take threshold after _ taken with now | later
    · unfold visit at now
      split at now
      · rcases List.mem_cons.1 now with rfl | old
        · exact absurd h new
        · exact old
      · exact now
    · exact absurd rfl (apart n h n (List.mem_cons_of_mem _ later))
  have own : c.1 ∈ (before ++ c :: after).foldl (visit threshold) []
      ↔ c.1 ∈ visit threshold (before.foldl (visit threshold) []) c := by
    rw [split_]
    exact ⟨fun taken => (visits_take threshold after _ taken).resolve_right fresh, visits_grow threshold after _⟩
  rw [own, visit_mem_iff threshold fun h => new (earlier h)]
  refine and_congr Iff.rfl ⟨fun ⟨low, high⟩ n beside h taken => ?_, fun free => ⟨fun h => ?_, fun h => ?_⟩⟩
  · rcases beside with rfl | rfl
    · exact low ((settled h).1 taken)
    · exact high ((settled h).1 taken)
  · exact free _ (Or.inl rfl) (earlier h) ((settled (earlier h)).2 h)
  · exact free _ (Or.inr rfl) (earlier h) ((settled (earlier h)).2 h)

end

theorem mem_numbered {c : Cells} {m w : Nat} : (m, w) ∈ c.numbered ↔ ∃ n, n < 7 ∧ m = n + 1 ∧ w = c.toList.getD n 0 := by
  unfold Cells.numbered
  simp only [List.mem_map, List.mem_range, Prod.mk.injEq]
  exact ⟨fun ⟨n, lt, a, b⟩ => ⟨n, lt, a.symm, b.symm⟩, fun ⟨n, lt, a, b⟩ => ⟨n, lt, a.symm, b.symm⟩⟩

/-- A bleed is a cell taken. -/
theorem selectBleeds_iff (delta : Nat) (c : Cells) {n : Nat} (h : n < 7) :
    (selectBleeds delta c).toList.getD n false = true
      ↔ n + 1 ∈ (visitOrder c).foldl (visit (c.vmin + delta)) [] := by
  rw [← decide_eq_true_iff (p := n + 1 ∈ _), ← List.contains_eq_mem]
  unfold selectBleeds Bleeds.toList
  match n, h with
  | 0, _ | 1, _ | 2, _ | 3, _ | 4, _ | 5, _ | 6, _ => rfl

/-- Settles O57: the cell's own visit, by the visits before it. -/
theorem bleedsSelected : Obligations.BleedsSelected := by
  intro delta c i bound v bleeds
  obtain ⟨ordered, perm⟩ := visitOrder_spec c
  have mem : (i + 1, v i) ∈ visitOrder c := perm.mem_iff.2 (mem_numbered.2 ⟨i, bound, rfl, rfl⟩)
  obtain ⟨before, after, cut⟩ := List.append_of_mem mem
  have distinct : ((before ++ (i + 1, v i) :: after).map Prod.fst).Nodup := by
    rw [← cut]
    refine (perm.map Prod.fst).nodup_iff.2 ?_
    exact List.nodup_range' (s := 1) (n := 7)
  have taken := visits_take_iff (c.vmin + delta) distinct
  rw [← cut] at taken
  rw [cut] at ordered
  obtain ⟨-, tail, first⟩ := List.pairwise_append.1 ordered
  have behind := (List.pairwise_cons.1 tail).1
  refine (selectBleeds_iff delta c bound).trans (taken.trans (and_congr Iff.rfl ?_))
  constructor
  · intro free j lt beside ahead bleeding
    refine free (j + 1) (by omega) ?_ ((selectBleeds_iff delta c lt).1 bleeding)
    have mem : (j + 1, v j) ∈ visitOrder c := perm.mem_iff.2 (mem_numbered.2 ⟨j, lt, rfl, rfl⟩)
    rw [cut] at mem
    rcases List.mem_append.1 mem with h | h
    · exact List.mem_map.2 ⟨_, h, rfl⟩
    · rcases List.mem_cons.1 h with same | later
      · have := congrArg Prod.fst same
        dsimp only at this
        omega
      · have := behind _ later
        unfold Before at this
        dsimp only at this
        omega
  · intro free n beside earlier
    obtain ⟨⟨m, w⟩, h, rfl⟩ := List.mem_map.1 earlier
    have mem : (m, w) ∈ visitOrder c := by
      rw [cut]
      exact List.mem_append_left _ h
    obtain ⟨j, lt, rfl, rfl⟩ := mem_numbered.1 (perm.mem_iff.1 mem)
    have ahead := first _ h _ List.mem_cons_self
    unfold Before at ahead
    dsimp only at ahead beside
    exact fun h => free j lt (by omega) (by change v i < v j ∨ v i = v j ∧ i + 1 > j + 1 at ahead; omega) ((selectBleeds_iff delta c lt).2 h)

end Sys2Proof.Machine
end

section
/-! PROOFS. The dirt monitor (06, section 6.1): edges and the expiry of the window. -/

namespace Sys2Proof.Machine

/-! ## What recomputations leave -/

/-- `t` is `s` but for the grants, what they lower, and the notices that recomputations raise. -/
def Regranted (s t : State) : Prop :=
  ∃ (a : Arbiter) (target duty : Nat) (h : BitVec 15) (w : BitVec 1),
    t = { s with
      arb := { s.arb with
        ds := a.ds, dh := a.dh, gs := a.gs, gh := a.gh, shortS := a.shortS, shortH := a.shortH, used := a.used }
      suc := { s.suc with target := target, duty := duty }
      ports := { s.ports with handleNotes := h, wandNotes := w } }

theorem Regranted.refl (s : State) : Regranted s s := ⟨s.arb, _, _, _, _, rfl⟩

theorem Regranted.trans {s t u : State} (h : Regranted s t) (k : Regranted t u) : Regranted s u := by
  obtain ⟨_, _, _, _, _, rfl⟩ := h
  obtain ⟨a, _, _, _, _, rfl⟩ := k
  exact ⟨a, _, _, _, _, rfl⟩

theorem raiseHandle_regranted (n : HandleNotice) (s : State) : Regranted s (raiseHandle n s) := ⟨s.arb, _, _, _, _, rfl⟩

theorem recompute_regranted (s : State) : Regranted s (recompute s) := by
  rw [recompute_spec, takeGrant_frame]
  exact ⟨s.formGrants, _, _, _, _, rfl⟩

/-- No switch is a recomputation's business. -/
theorem Regranted.switches {s t : State} (h : Regranted s t) : t.switches = s.switches := by
  obtain ⟨_, _, _, _, _, rfl⟩ := h
  rfl

theorem recompute_target (s : State) : (recompute s).suc.target = min s.suc.target (recompute s).arb.gs := by
  rw [recompute_suc, takeGrant_target, recompute_arb]
  rfl

/-! ## Edges (06 R100) -/

theorem edge_stands {d : Dirt} {now : Nat} (h : d.window = none ∨ ∃ p, d.lastEdge = some p ∧ now < p + 50) : d.edge now = d := by
  unfold Dirt.edge
  rcases h with closed | ⟨p, last, near⟩
  · rw [closed]
  · split
    · rfl
    · rw [last, if_neg (by simpa using near)]

theorem edge_counts {d : Dirt} {now : Nat} {w : Window} (open_ : d.window = some w) (far : ∀ p, d.lastEdge = some p → p + 50 ≤ now) :
    d.edge now = { d with count := min 1023 (d.count + 1), lastEdge := some now } := by
  unfold Dirt.edge
  rw [open_]
  dsimp only
  rw [if_pos (by
    cases last : d.lastEdge with
    | none => rfl
    | some p => exact decide_eq_true (far p last))]
  rfl

/-! ## The expiry of a window (06 R102 to R108) -/

theorem joinRing_eq {ring : List Nat} (count : Nat) (bound : ring.length ≤ 16) :
    joinRing ring count = (if ring.length = 16 then ring.tail else ring) ++ [count] := by
  unfold joinRing
  by_cases full : ring.length = 16
  · rw [if_pos full.ge, if_pos full]
  · rw [if_neg (by omega), if_neg full]

theorem noiseFloor_manual {mode : NoiseMode} {manual : Nat} {ring : List Nat} (h : mode = .manual ∨ ring.length < 4) :
    noiseFloor mode manual ring = manual := by
  cases mode with
  | manual => rfl
  | auto => exact if_pos (h.resolve_left nofun)

theorem noiseFloor_least {mode : NoiseMode} {manual : Nat} {ring : List Nat} (auto : mode = .auto) (long : 4 ≤ ring.length) :
    noiseFloor mode manual ring ∈ ring ∧ ∀ x ∈ ring, noiseFloor mode manual ring ≤ x := by
  subst auto
  match ring, long with
  | c :: rest, long =>
    have least : noiseFloor .auto manual (c :: rest) = rest.foldl min c := if_neg (Nat.not_lt.2 long)
    obtain ⟨among, head, tail⟩ := foldl_min rest c
    rw [least]
    refine ⟨?_, fun x mem => ?_⟩
    · rcases among with e | e
      · rw [e]
        exact List.mem_cons_self
      · exact List.mem_cons_of_mem _ e
    · rcases List.mem_cons.1 mem with rfl | mem
      · exact head
      · exact tail x mem

/-- The monitor as the heavy detector finds it: the ring, the floor and the raw index of the window just over. -/
def Dirt.indexed (t : Settings) (d : Dirt) : Dirt :=
  { d with
    ring := joinRing d.ring d.count
    floorN := some (noiseFloor t.noiseMode t.noiseManual (joinRing d.ring d.count))
    raw := rawIndex d.count (noiseFloor t.noiseMode t.noiseManual (joinRing d.ring d.count)) t.offset t.gain }

/-- The monitor and the notice that the heavy detector leaves. -/
def Dirt.judged (t : Settings) (d : Dirt) : Dirt × Bool := (d.indexed t).judgeHeavy t.heavyThr t.heavyLock t.heavyUnlock

theorem expire_eq (t : Settings) (now : Nat) (d : Dirt) :
    d.expire t now
      = ({ (d.judged t).1 with
            eff := if (d.judged t).1.heavy then max (d.indexed t).raw t.heavyFloor else (d.indexed t).raw
            completed := min 65535 ((d.judged t).1.completed + 1)
            count := 0
            window := some ⟨t.win, now + ms t.win⟩ }, (d.judged t).2) := rfl

/-- The counts of a light monitor that locks, or goes on counting. -/
theorem judgeHeavy_light {d : Dirt} (thr lock unlock : Nat) (light : d.heavy = false) :
    d.judgeHeavy thr lock unlock
      = if lock ≤ (if thr ≤ d.raw then min 15 (d.lockCount + 1) else 0) then
          ({ d with heavy := true, lockCount := 0, unlockCount := 0 }, true)
        else ({ d with lockCount := if thr ≤ d.raw then min 15 (d.lockCount + 1) else 0 }, false) := by
  unfold Dirt.judgeHeavy
  rw [light]
  rfl

/-- The counts of a heavy monitor that unlocks, or goes on counting. -/
theorem judgeHeavy_heavy {d : Dirt} (thr lock unlock : Nat) (heavy : d.heavy = true) :
    d.judgeHeavy thr lock unlock
      = if unlock ≤ (if d.raw < thr then min 15 (d.unlockCount + 1) else 0) then
          ({ d with heavy := false, lockCount := 0, unlockCount := 0 }, false)
        else ({ d with unlockCount := if d.raw < thr then min 15 (d.unlockCount + 1) else 0 }, false) := by
  unfold Dirt.judgeHeavy
  rw [heavy]
  rfl

theorem rawIndex_eq (count n offset gain : Nat) :
    rawIndex count n offset gain = min 255 ((max 0 ((count : Int) - n - offset)).toNat * gain / 4) := by
  unfold rawIndex
  rw [show (max 0 ((count : Int) - n - offset)).toNat = count - n - offset by omega]

/-- The state with the window over, before the recomputation. -/
def State.windowOver (s : State) : State :=
  if (s.dirt.expire s.settings s.now).2 = true then raiseHandle .heavyDirt { s with dirt := (s.dirt.expire s.settings s.now).1 }
  else { s with dirt := (s.dirt.expire s.settings s.now).1 }

theorem windowOver_spec (s : State) :
    Regranted { s with dirt := (s.dirt.expire s.settings s.now).1 } s.windowOver ∧ s.windowOver.arb = s.arb ∧ s.windowOver.suc = s.suc
      ∧ ((s.dirt.expire s.settings s.now).2 = true → s.windowOver.noted .heavyDirt) := by
  unfold State.windowOver
  split
  · exact ⟨raiseHandle_regranted _ _, rfl, rfl, fun _ => noted_raise _ _⟩
  · rename_i quiet
    exact ⟨Regranted.refl _, rfl, rfl, fun h => absurd h quiet⟩

theorem windowExpires_eq (s : State) :
    windowExpires s
      = if (s.dirt.expire s.settings s.now).1.eff = s.dirt.eff then s.windowOver else recompute s.windowOver := rfl

/-- What an expiry leaves: the monitor, and a recomputation where the effective index changes. -/
theorem windowExpires_spec (s : State) :
    Regranted { s with dirt := (s.dirt.expire s.settings s.now).1 } (windowExpires s)
      ∧ ((s.dirt.expire s.settings s.now).2 = true → (windowExpires s).noted .heavyDirt)
      ∧ ((s.dirt.expire s.settings s.now).1.eff = s.dirt.eff → (windowExpires s).arb = s.arb ∧ (windowExpires s).suc = s.suc)
      ∧ ((s.dirt.expire s.settings s.now).1.eff ≠ s.dirt.eff →
        Granted (windowExpires s) ∧ (windowExpires s).suc.target = min s.suc.target (windowExpires s).arb.gs) := by
  obtain ⟨frame, arb, suc, heavy⟩ := windowOver_spec s
  rw [windowExpires_eq]
  split
  · rename_i same
    exact ⟨frame, heavy, fun _ => ⟨arb, suc⟩, fun moved => absurd same moved⟩
  · rename_i moved
    refine ⟨frame.trans (recompute_regranted _), fun h => (recompute_standing _).1 _ (heavy h), fun same => absurd same moved,
      fun _ => ⟨recompute_granted _, ?_⟩⟩
    rw [recompute_target, suc]

theorem exec_windowExpiry {s : State} {w : Window} (open_ : s.dirt.window = some w) :
    exec .windowExpiry s = .next (event windowExpires (s.reach w.expiry)) := by
  change execWindowExpiry s = _
  unfold execWindowExpiry
  rw [open_]

/-- Settles O49: the ranges; edges; the expiry by the heavy detector's state. -/
theorem dirtWindow : Obligations.DirtWindow := by
  refine ⟨rfl, rfl, rfl, rfl, rfl, rfl, rfl, by decide, fun s => ⟨fun dt idle => ⟨_, rfl, sameButGens_event ?_ rfl⟩,
    fun dt w open_ far => ⟨_, rfl, sameButGens_event ?_ rfl⟩, fun closed => ?_, fun w open_ bound => ?_⟩⟩
  · rw [edge_stands (d := (s.elapse dt).dirt) (now := (s.elapse dt).now) idle]
  · rw [edge_counts (d := (s.elapse dt).dirt) (now := (s.elapse dt).now) open_ far]
    rfl
  · change execWindowExpiry s = _
    unfold execWindowExpiry
    rw [closed]
  · obtain ⟨frame, heavy, same, moves⟩ := windowExpires_spec (s.reach w.expiry)
    obtain ⟨g, e⟩ : ∃ g, event windowExpires (s.reach w.expiry) = { windowExpires (s.reach w.expiry) with gens := g } :=
      ⟨_, sameButGens_event rfl frame.switches⟩
    obtain ⟨_, l, u, judged⟩ :=
      judgeHeavy_frame s.settings.heavyThr s.settings.heavyLock s.settings.heavyUnlock (s.dirt.indexed s.settings)
    change (s.dirt.judged s.settings).1 = _ at judged
    have dirt : (windowExpires (s.reach w.expiry)).dirt = (s.dirt.expire s.settings (max s.now w.expiry)).1 := by
      obtain ⟨_, _, _, _, _, e⟩ := frame
      rw [e]
      rfl
    have expired : (windowExpires (s.reach w.expiry)).dirt
        = ((s.reach w.expiry).dirt.expire (s.reach w.expiry).settings (s.reach w.expiry).now).1 := dirt
    rw [← expired] at same moves
    have alw : (windowExpires (s.reach w.expiry)).alw = s.alw := by
      obtain ⟨_, _, _, _, _, e⟩ := frame
      rw [e]
      rfl
    have now : (windowExpires (s.reach w.expiry)).now = max s.now w.expiry := by
      obtain ⟨_, _, _, _, _, e⟩ := frame
      rw [e]
      rfl
    rw [expire_eq] at dirt
    have raw : (windowExpires (s.reach w.expiry)).dirt.raw = (s.dirt.indexed s.settings).raw := by
      rw [dirt, judged]
    have ring : (windowExpires (s.reach w.expiry)).dirt.ring = joinRing s.dirt.ring s.dirt.count := by
      rw [dirt, judged]
      rfl
    refine ⟨_, noiseFloor s.settings.noiseMode s.settings.noiseManual (joinRing s.dirt.ring s.dirt.count),
      (exec_windowExpiry open_).trans (congrArg Host.Outcome.next e), now, ring.trans (joinRing_eq _ bound), ?_, fun manual => ?_,
      fun auto long => ?_, raw.trans (rawIndex_eq _ _ _ _), fun light => ?_, fun heavy_ => ?_, ?_, ?_, ?_, ?_, ?_, same, fun moved => ?_, ?_⟩
    · dsimp only
      rw [dirt, judged]
      rfl
    · refine noiseFloor_manual (manual.imp id fun short => ?_)
      rw [← ring]
      exact short
    · dsimp only at long ⊢
      rw [ring] at long ⊢
      exact noiseFloor_least auto long
    · have found : s.dirt.judged s.settings = _ := judgeHeavy_light (d := s.dirt.indexed s.settings) _ _ _ light
      rw [← raw] at found
      refine ⟨fun locks => ?_, fun counts => ?_⟩
      · replace found := found.trans (if_pos locks)
        refine ⟨?_, ?_, ?_, heavy (congrArg Prod.snd found)⟩
        all_goals dsimp only; rw [dirt, found]
      · replace found := found.trans (if_neg (Nat.not_le.2 counts))
        refine ⟨?_, ?_, ?_⟩
        · dsimp only
          rw [dirt, found]
          exact light
        · exact (congrArg Dirt.lockCount dirt).trans (congrArg (fun p => p.1.lockCount) found)
        · exact (congrArg Dirt.unlockCount dirt).trans (congrArg (fun p => p.1.unlockCount) found)
    · have found : s.dirt.judged s.settings = _ := judgeHeavy_heavy (d := s.dirt.indexed s.settings) _ _ _ heavy_
      rw [← raw] at found
      refine ⟨fun unlocks => ?_, fun counts => ?_⟩
      · replace found := found.trans (if_pos unlocks)
        refine ⟨?_, ?_, ?_⟩
        all_goals dsimp only; rw [dirt, found]
      · replace found := found.trans (if_neg (Nat.not_le.2 counts))
        refine ⟨?_, ?_, ?_⟩
        · dsimp only
          rw [dirt, found]
          exact heavy_
        · exact (congrArg Dirt.unlockCount dirt).trans (congrArg (fun p => p.1.unlockCount) found)
        · exact (congrArg Dirt.lockCount dirt).trans (congrArg (fun p => p.1.lockCount) found)
    · dsimp only
      rw [raw, dirt]
    · dsimp only
      rw [dirt, judged]
      rfl
    · dsimp only
      rw [dirt]
    · dsimp only
      rw [now, dirt]
      exact congrArg (fun m => some (Window.mk s.settings.win (max s.now w.expiry + m))) (Nat.mul_comm _ _)
    · dsimp only
      rw [dirt, judged]
      rfl
    · obtain ⟨granted, lowered⟩ := moves moved
      refine ⟨granted.ds, ?_, lowered⟩
      rw [← alw]
      exact granted.gs
    · dsimp only
      obtain ⟨_, _, _, _, _, e⟩ := frame
      rw [e]
      rfl

end Sys2Proof.Machine
end

section
/-! PROOFS. The allowance unit (02): the derate curve, the stages of a computation, the publish. -/

namespace Sys2Proof.Machine

/-! ## The derate curve (02 R35) -/

theorem increasing_pairwise {points : List DeratePoint} (h : increasing points = true) : points.Pairwise (fun p q => p.t < q.t) := by
  induction points with
  | nil => exact List.Pairwise.nil
  | cons p rest ih =>
    cases rest with
    | nil => exact List.pairwise_singleton _ _
    | cons q rest =>
      obtain ⟨first, tail⟩ : p.t < q.t ∧ increasing (q :: rest) = true := by simpa [increasing] using h
      have later := ih tail
      refine List.pairwise_cons.2 ⟨fun r mem => ?_, later⟩
      rcases List.mem_cons.1 mem with rfl | mem
      · exact first
      · exact first.trans ((List.pairwise_cons.1 later).1 r mem)

/-- Past the last point the curve stays at it. -/
theorem derateWalk_last {points : List DeratePoint} {last : DeratePoint} {x : Int} (ends : points.getLast? = some last)
    (rising : points.Pairwise (fun p q => p.t < q.t)) (past : last.t ≤ x) : derateWalk points x = last.d := by
  induction points with
  | nil => cases ends
  | cons p rest ih =>
    cases rest with
    | nil =>
      cases ends
      rfl
    | cons q rest =>
      have tail := (List.pairwise_cons.1 rising).2
      have ends : (q :: rest).getLast? = some last := by rw [← ends, List.getLast?_cons_cons]
      have le : q.t ≤ x := by
        rcases List.mem_cons.1 (List.mem_of_getLast? ends) with rfl | mem
        · exact past
        · exact ((List.pairwise_cons.1 tail).1 last mem).le.trans past
      exact (if_neg (not_lt.2 le)).trans (ih ends tail)

/-- Between two points the curve is the line through them, truncated toward zero. -/
theorem derateWalk_between {points : List DeratePoint} {b : DeratePoint × DeratePoint} {x : Int} (mem : b ∈ points.zip points.tail)
    (rising : points.Pairwise (fun p q => p.t < q.t)) (lower : b.1.t ≤ x) (upper : x < b.2.t) :
    derateWalk points x = b.1.d + Int.tdiv ((b.2.d - b.1.d) * (x - b.1.t)) (b.2.t - b.1.t) := by
  induction points with
  | nil => cases mem
  | cons p rest ih =>
    cases rest with
    | nil => cases mem
    | cons q rest =>
      rcases List.mem_cons.1 mem with rfl | mem
      · exact if_pos upper
      · have tail := (List.pairwise_cons.1 rising).2
        have le : q.t ≤ x := by
          rcases List.mem_cons.1 (List.of_mem_zip mem).1 with e | later
          · rw [← e]
            exact lower
          · exact ((List.pairwise_cons.1 tail).1 _ later).le.trans lower
        exact (if_neg (not_lt.2 le)).trans (ih mem tail)

/-- The factor D at the ends of the curve and between its points. -/
theorem derateAt_spec (points : List DeratePoint) (x : Int) (ok : derateOk points = true) :
    (∀ p, points.head? = some p → x ≤ p.t → derateAt points x = p.d)
      ∧ (∀ p, points.getLast? = some p → p.t ≤ x → derateAt points x = p.d)
      ∧ ∀ b ∈ points.zip points.tail, b.1.t ≤ x → x < b.2.t →
        derateAt points x = b.1.d + Int.tdiv ((b.2.d - b.1.d) * (x - b.1.t)) (b.2.t - b.1.t) := by
  have rising := increasing_pairwise (Bool.and_eq_true_iff.1 ok).1
  cases points with
  | nil => exact ⟨nofun, nofun, nofun⟩
  | cons p rest =>
    have first := (List.pairwise_cons.1 rising).1
    refine ⟨fun q e le => ?_, fun q e le => ?_, fun b mem lower upper => ?_⟩
    · cases e
      exact if_pos le
    · by_cases below : x ≤ p.t
      · rcases List.mem_cons.1 (List.mem_of_getLast? e) with rfl | mem
        · exact if_pos below
        · exact absurd (first q mem) (not_lt.2 (le.trans below))
      · exact (if_neg below).trans (derateWalk_last e rising le)
    · by_cases below : x ≤ p.t
      · rcases List.mem_cons.1 (List.of_mem_zip mem).1 with e | later
        · have at_ : x - b.1.t = 0 := by rw [e] at lower ⊢; omega
          rw [at_, mul_zero, Int.zero_tdiv, add_zero, e]
          exact if_pos below
        · exact absurd (first _ later) (not_lt.2 (lower.trans below))
      · exact (if_neg below).trans (derateWalk_between mem rising lower upper)

/-! ## Stage 0, the resistance estimate (02 R26, R27) -/

theorem figures_stage0 (c : Capture) :
    (figures c).inputs = c ∧ (figures c).rnew = (stage0 c).rnew ∧ (figures c).discarded = (stage0 c).discarded
      ∧ (figures c).rclamp = (stage0 c).rclamp := by
  unfold figures
  dsimp only
  split
  · exact ⟨rfl, rfl, rfl, rfl⟩
  · split <;> exact ⟨rfl, rfl, rfl, rfl⟩

theorem stage0_first {c : Capture} (h : c.snapshot = none) : stage0 c = ⟨none, c.rcell, false, false⟩ := by
  unfold stage0
  rw [h]

theorem stage0_unfit {c : Capture} {p : Snapshot} (h : c.snapshot = some p)
    (unfit : p.sat = true ∨ c.iSat = true ∨ (c.i - p.i).natAbs < c.stepMin) : stage0 c = ⟨none, c.rcell, false, false⟩ := by
  unfold stage0
  rw [h]
  exact if_pos (by simpa [or_assoc] using unfit)

/-- The estimate of two fit scans (02 R26). -/
def Capture.rnew (c : Capture) (p : Snapshot) : Int := Int.tdiv (((p.vmean : Int) - c.vmean) * 10000) (c.i - p.i)

theorem stage0_fit {c : Capture} {p : Snapshot} (h : c.snapshot = some p) (clean : p.sat = false) (clean' : c.iSat = false)
    (far : c.stepMin ≤ (c.i - p.i).natAbs) :
    stage0 c
      = if c.rnew p ≤ 0 then ⟨some (c.rnew p), c.rcell, true, false⟩
        else ⟨some (c.rnew p), stepRcell c.rcell (c.rnew p), false, decide (c.rnew p < 50 ∨ 2000 < c.rnew p)⟩ := by
  unfold stage0
  rw [h]
  exact if_neg (by simp [clean, clean', far])

/-! ## Stages 1 to 7 (02 R29 to R35) -/

/-- The temperatures are out of the discharge window (02 R29). -/
def Capture.outside (c : Capture) : Prop := (∃ x, c.tmax = some x ∧ c.tdisHi < x) ∨ ∃ x, c.tmin = some x ∧ x < c.tdisLo

theorem outside_iff (c : Capture) :
    ((c.tmax.any fun t => decide (c.tdisHi < t)) || (c.tmin.any fun t => decide (t < c.tdisLo))) = true ↔ c.outside := by
  unfold Capture.outside
  cases c.tmax <;> cases c.tmin <;> simp

theorem hardStop_volt {c : Capture} (low : c.vmin < c.vstop) : hardStop c = some .stopVolt := if_pos low

theorem hardStop_therm {c : Capture} (volt : ¬c.vmin < c.vstop) (fault : c.thermFault = true) : hardStop c = some .stopTherm :=
  (if_neg volt).trans (if_pos fault)

theorem hardStop_temp {c : Capture} (volt : ¬c.vmin < c.vstop) (therm : c.thermFault = false) (temp : c.outside) :
    hardStop c = some .stopTemp :=
  (if_neg volt).trans ((if_neg (Bool.eq_false_iff.1 therm)).trans (if_pos ((outside_iff c).2 temp)))

theorem hardStop_none {c : Capture} (volt : ¬c.vmin < c.vstop) (therm : c.thermFault = false) (temp : ¬c.outside) :
    hardStop c = none :=
  (if_neg volt).trans ((if_neg (Bool.eq_false_iff.1 therm)).trans (if_neg fun h => temp ((outside_iff c).1 h)))

theorem figures_stopped {c : Capture} {cause : Cause} (h : hardStop c = some cause) :
    (figures c).computed = 0 ∧ (figures c).cause = cause ∧ (figures c).ovfV = false ∧ (figures c).ovfI = false
      ∧ (figures c).limited = false := by
  unfold figures
  rw [h]
  exact ⟨rfl, rfl, rfl, rfl, rfl⟩

/-- The open-circuit estimate of a computation that no check stops (02 R31, R32). -/
def Capture.sag (c : Capture) : Nat := (effCurrent c.i).toNat * (stage0 c).rcell / 10000

def Capture.voc (c : Capture) : Nat := min 4500 (c.vmin + c.sag)

theorem figures_open {c : Capture} (h : hardStop c = none) :
    (figures c).sag = some c.sag ∧ (figures c).voc = some c.voc ∧ (figures c).headroom = some ((c.voc : Int) - c.vcut)
      ∧ (figures c).d = some (derateAt c.derate (c.tmax.getD 0)) ∧ ((figures c).ovfV = true ↔ 4500 < c.vmin + c.sag) := by
  unfold Capture.voc Capture.sag figures
  rw [h]
  dsimp only
  split
  · exact ⟨rfl, rfl, rfl, rfl, decide_eq_true_iff⟩
  · exact ⟨rfl, rfl, rfl, rfl, decide_eq_true_iff⟩

theorem figures_noHeadroom {c : Capture} (h : hardStop c = none) (none_ : c.voc ≤ c.vcut) :
    (figures c).cause = .noHeadroom ∧ (figures c).computed = 0 ∧ (figures c).imax = none ∧ (figures c).pmax = some 0
      ∧ (figures c).ovfI = false := by
  have room : (c.voc : Int) - c.vcut ≤ 0 := by omega
  unfold Capture.voc Capture.sag at room
  have zero (d : Int) : computedPower 0 d = 0 := by
    unfold computedPower
    rw [Nat.cast_zero, zero_mul]
    rfl
  unfold figures
  rw [h]
  dsimp only
  rw [if_pos room]
  exact ⟨rfl, zero _, rfl, rfl, rfl⟩

/-- The greatest current that the headroom allows (02 R33). -/
def Capture.most (c : Capture) : Nat := (c.voc - c.vcut) * 10000 / (stage0 c).rcell

/-- The power at that current, within the fuse path's (02 R34). -/
def Capture.pmax (c : Capture) : Nat := min 40000 c.most * c.vcut * 7 / 1000000

theorem figures_ok {c : Capture} (h : hardStop c = none) (room : c.vcut < c.voc) :
    (figures c).cause = .ok ∧ (figures c).imax = some (min 40000 c.most) ∧ ((figures c).ovfI = true ↔ 40000 < c.most)
      ∧ (figures c).pmax = some c.pmax ∧ (figures c).plim = some (min c.pmax c.prated)
      ∧ ((figures c).limited = true ↔ c.prated < c.pmax)
      ∧ (figures c).computed
        = (Int.tdiv ((min c.pmax c.prated : Nat) * derateAt c.derate (c.tmax.getD 0)) 256).toNat := by
  have head : ¬(c.voc : Int) - c.vcut ≤ 0 := by omega
  have most : Int.tdiv (((c.voc : Int) - c.vcut) * 10000) (stage0 c).rcell = (c.most : Int) := by
    rw [show ((c.voc : Int) - c.vcut) * 10000 = (((c.voc - c.vcut) * 10000 : Nat) : Int) by omega]
    rfl
  have imax : min ifuse (c.most : Int) = ((min 40000 c.most : Nat) : Int) := by
    rw [Nat.cast_min]
    rfl
  have pmax : (Int.tdiv (((min 40000 c.most : Nat) : Int) * c.vcut * 7) 1000000).toNat = c.pmax := by
    rw [show ((min 40000 c.most : Nat) : Int) * c.vcut * 7 = ((min 40000 c.most * c.vcut * 7 : Nat) : Int) by push_cast; rfl]
    rfl
  unfold Capture.voc Capture.sag at head most
  unfold figures
  rw [h]
  dsimp only
  rw [if_neg head, most, imax, pmax]
  exact ⟨rfl, rfl, decide_eq_true_iff.trans Nat.cast_lt, rfl, rfl, decide_eq_true_iff, rfl⟩

/-! ## The publish (02 R30, R36, R37; 03 R58) -/

/-- The account at a completion: the empty mark where the episode opens (02 R30). -/
def State.marked (s : State) (f : Figures) : Account :=
  if f.cause = .stopVolt ∧ s.alw.episode = false then s.acct.emptyMark else s.acct

theorem completeBudget_eq (f : Figures) (s : State) :
    completeBudget f s = recomputeCompletion f.cause.isStop { s with alw := s.alw.complete f, acct := s.marked f } := by
  have opens : (f.cause == .stopVolt && !s.alw.episode) = true ↔ f.cause = .stopVolt ∧ s.alw.episode = false := by simp
  have acct : (if (f.cause == .stopVolt && !s.alw.episode) = true then s.acct.emptyMark else s.acct) = s.marked f :=
    if_congr opens rfl rfl
  rw [← acct]
  rfl

theorem recomputeCompletion_spec (stop : Bool) (s : State) :
    Regranted s (recomputeCompletion stop s) ∧ Granted (recomputeCompletion stop s)
      ∧ (recomputeCompletion stop s).suc.target = min s.suc.target (recomputeCompletion stop s).arb.gs
      ∧ (stop = true → 0 < s.arb.gs → (recomputeCompletion stop s).noted .grantCut) := by
  have granted := recompute_granted s
  by_cases cuts : (stop && decide (0 < s.arb.gs)) = true
  · rw [show recomputeCompletion stop s = raiseHandle .grantCut (recompute s) from if_pos cuts]
    exact ⟨(recompute_regranted s).trans (raiseHandle_regranted _ _), granted.congr rfl rfl, recompute_target s,
      fun _ _ => noted_raise _ _⟩
  · rw [show recomputeCompletion stop s = recompute s from if_neg cuts]
    exact ⟨recompute_regranted s, granted, recompute_target s, fun stops held => absurd (by simp [stops, held]) cuts⟩

/-- From 0 the default RISE_STEP raises the published value by 8 W a completion, up to 520 W. -/
theorem publishedValue_rises (n : Nat) : (fun p => publishedValue p 520 8)^[n] 0 = min 520 (8 * n) := by
  induction n with
  | zero => rfl
  | succ n ih =>
    rw [Function.iterate_succ_apply', ih]
    unfold publishedValue
    split <;> omega

theorem exec_allowanceCompletion {s : State} {c : Computation} (flies : s.alw.inflight = some c) :
    exec .allowanceCompletion s = .next (event (completeBudget (figures c.inputs)) (s.reach c.due)) := by
  change execAllowanceCompletion s = _
  unfold execAllowanceCompletion
  rw [flies]

/-- The cause of a computation, by its checks (02 R29, R33). -/
theorem figures_cause (c : Capture) :
    let f := figures c
    let volt := c.vmin < c.vstop
    (f.cause = .stopVolt ↔ volt) ∧ (f.cause = .stopTherm ↔ ¬volt ∧ c.thermFault = true)
      ∧ (f.cause = .stopTemp ↔ ¬volt ∧ c.thermFault = false ∧ c.outside)
      ∧ (f.cause ≠ .ok → f.cause ≠ .noHeadroom → f.cause.isStop = true) := by
  intro f volt
  by_cases low : volt
  · have cause : f.cause = .stopVolt := (figures_stopped (hardStop_volt low)).2.1
    rw [cause]
    simp [low, Cause.isStop]
  by_cases therm : c.thermFault = true
  · have cause : f.cause = .stopTherm := (figures_stopped (hardStop_therm low therm)).2.1
    rw [cause]
    simp [low, therm, Cause.isStop]
  have fine := Bool.eq_false_iff.2 therm
  by_cases temp : c.outside
  · have cause : f.cause = .stopTemp := (figures_stopped (hardStop_temp low fine temp)).2.1
    rw [cause]
    simp [low, therm, temp, Cause.isStop]
  · have free := hardStop_none low fine temp
    by_cases room : c.voc ≤ c.vcut
    · have cause : f.cause = .noHeadroom := (figures_noHeadroom free room).1
      rw [cause]
      simp [low, therm, temp]
    · have cause : f.cause = .ok := (figures_ok free (Nat.lt_of_not_le room)).1
      rw [cause]
      simp [low, therm, temp]

/-- Settles O48: the curve, the figures, the publish. -/
theorem allowancePublishes : Obligations.AllowancePublishes := by
  refine ⟨rfl, publishedValue_rises 65, (publishedValue_rises 64).trans_lt (by decide), derateAt_spec, fun s => ⟨fun rests => ?_, fun c flies => ?_⟩⟩
  · change execAllowanceCompletion s = _
    unfold execAllowanceCompletion
    rw [rests]
  · intro i
    obtain ⟨frame, granted, target, cut⟩ := recomputeCompletion_spec (figures i).cause.isStop
      { s.reach c.due with alw := s.alw.complete (figures i), acct := s.marked (figures i) }
    have budget : completeBudget (figures i) (s.reach c.due) = recomputeCompletion (figures i).cause.isStop
        { s.reach c.due with alw := s.alw.complete (figures i), acct := s.marked (figures i) } := completeBudget_eq _ _
    rw [← budget] at frame granted target cut
    obtain ⟨g, e⟩ : ∃ g, event (completeBudget (figures i)) (s.reach c.due) = { completeBudget (figures i) (s.reach c.due) with gens := g } :=
      ⟨_, sameButGens_event rfl frame.switches⟩
    obtain ⟨inputs, rnew, discarded, rclamp⟩ := figures_stage0 i
    obtain ⟨stopVolt, stopTherm, stopTemp, stops⟩ := figures_cause i
    have alw : (completeBudget (figures i) (s.reach c.due)).alw = s.alw.complete (figures i) := by
      obtain ⟨_, _, _, _, _, e⟩ := frame
      rw [e]
    have share : (completeBudget (figures i) (s.reach c.due)).settings = s.settings := by
      obtain ⟨_, _, _, _, _, e⟩ := frame
      rw [e]
      rfl
    have gs := granted.gs
    have gh := granted.gh
    rw [share] at gh
    refine ⟨_, figures i, (exec_allowanceCompletion flies).trans (congrArg Host.Outcome.next e), ?_, inputs, fun first => ?_,
      fun p last unfit => ?_, fun p last clean clean' far => ?_, ?_, ?_, ?_, granted.ds, granted.dh, gh, gs, target, fun zero => ?_,
      fun notOk room held => cut (stops notOk room) held, ?_⟩
    · refine alw.trans ?_
      unfold Allowance.complete publishedValue
      rw [inputs]
      rfl
    · rw [rnew, figures_rcell, discarded, rclamp, stage0_first first]
      exact ⟨rfl, rfl, rfl, rfl⟩
    · rw [rnew, figures_rcell, discarded, rclamp, stage0_unfit last unfit]
      exact ⟨rfl, rfl, rfl, rfl⟩
    · intro r
      have fit : stage0 i = _ := stage0_fit last clean clean' far
      rw [rnew, figures_rcell, discarded, rclamp, fit]
      by_cases low : i.rnew p ≤ 0
      · rw [if_pos low]
        exact ⟨rfl, fun _ => ⟨rfl, rfl, rfl⟩, fun high => absurd low (not_le.2 high)⟩
      · rw [if_neg low]
        exact ⟨rfl, fun low' => absurd low' low, fun _ => ⟨rfl, rfl, decide_eq_true_iff⟩⟩
    · intro volt temp
      refine ⟨fun stopped => ?_, stopVolt, stopTherm, stopTemp, fun high sane inside => ?_⟩
      · have stop : ∃ cause, hardStop i = some cause := by
          by_cases low : i.vmin < i.vstop
          · exact ⟨_, hardStop_volt low⟩
          by_cases therm : i.thermFault = true
          · exact ⟨_, hardStop_therm low therm⟩
          · exact ⟨_, hardStop_temp low (Bool.eq_false_iff.2 therm) ((stopped.resolve_left low).resolve_left therm)⟩
        obtain ⟨cause, stop⟩ := stop
        obtain ⟨computed, -, ovfV, ovfI, limited⟩ := figures_stopped stop
        exact ⟨computed, ovfV, ovfI, limited⟩
      · have free : hardStop i = none := hardStop_none high sane inside
        intro sag voc d
        have drop : sag = i.sag := by
          change (max 0 i.i).toNat * (figures i).rcellAfter / 10000 = _
          rw [figures_rcell]
          rfl
        have level : voc = i.voc := by
          change min 4500 (i.vmin + sag) = _
          rw [drop]
          rfl
        obtain ⟨sagged, voced, headroom, factor, raised⟩ := figures_open free
        rw [drop, level]
        refine ⟨sagged, voced, headroom, factor, raised, figures_noHeadroom free, fun room => ?_⟩
        rw [figures_rcell]
        exact figures_ok free room
    · obtain ⟨_, _, _, _, _, e⟩ := frame
      dsimp only
      rw [e]
      rfl
    · dsimp only
      rw [granted]
      rfl
    · have dark : (completeBudget (figures i) (s.reach c.due)).alw.pallow = 0 := by
        rw [alw]
        change publishedValue _ (figures i).computed _ = 0
        rw [zero]
        rfl
      have none_ : (completeBudget (figures i) (s.reach c.due)).arb.gs = 0 := by
        rw [gs, dark, Nat.zero_sub, Nat.min_zero]
      refine ⟨none_, ?_⟩
      rw [none_, Nat.min_zero] at target
      exact target
    · obtain ⟨_, _, _, _, _, e⟩ := frame
      dsimp only
      rw [e]
      rfl

end Sys2Proof.Machine
end

section
/-! PROOFS. The charge controller's own changes of state (08): the order each forms, the notices, the release of the path. -/

namespace Sys2Proof.Machine

/-! ## A change of charge state and its order (08 R145) -/

/-- The controller with this order current put: the number advances and unread since is set where it differs (08 R145). -/
def Charger.ordered (current now : Nat) (c : Charger) : Charger :=
  { c with
    orderCur := current
    orderNum := if current = c.orderCur then c.orderNum else (c.orderNum + 1) % 256
    unreadSince := if current = c.orderCur then c.unreadSince else some (c.unreadSince.getD now) }

/-- `t` is `s` but for the account, the controller and the notices of the handle and the dock link. -/
def ChargedTo (a : Account) (c : Charger) (s t : State) : Prop :=
  ∃ (h : BitVec 15) (d : BitVec 3), t = { s with acct := a, chg := c, ports := { s.ports with handleNotes := h, dockNotes := d } }

theorem ChargedTo.trans {a b : Account} {c e : Charger} {s t u : State} (h : ChargedTo a c s t) (k : ChargedTo b e t u) :
    ChargedTo b e s u := by
  obtain ⟨_, _, rfl⟩ := h
  obtain ⟨_, _, rfl⟩ := k
  exact ⟨_, _, rfl⟩

theorem putOrder_spec {ceil : Nat} (current : Nat) {s : State} (stands : s.chg.orderCeil = ceil) :
    ChargedTo s.acct (s.chg.ordered current s.now) s (putOrder current ceil s)
      ∧ (current ≠ s.chg.orderCur → (putOrder current ceil s).dockNoted .orderChanged) := by
  subst stands
  unfold Charger.ordered
  by_cases same : current = s.chg.orderCur
  · rw [show putOrder current s.chg.orderCeil s = s from if_pos ⟨same, rfl⟩, if_pos same, if_pos same]
    refine ⟨⟨s.ports.handleNotes, s.ports.dockNotes, ?_⟩, fun moved => absurd same moved⟩
    rw [same]
  · rw [show putOrder current s.chg.orderCeil s = _ from if_neg fun h => same h.1, if_neg same, if_neg same]
    exact ⟨⟨_, _, rfl⟩, fun _ => dockNoted_raise _ _⟩

/-- A change to a charge state, with the controller's fields and the account put, and the order re-formed. -/
def State.charged (s : State) (c : Charger) (a : Account) : State := reformOrder { setCharge c.state s with chg := c, acct := a }

theorem charged_spec {s : State} {c : Charger} (a : Account) {current : Nat} (ceil : c.orderCeil = s.settings.chgVcell)
    (forms : State.formedCurrent { s with chg := c } = current) :
    ChargedTo a (c.ordered current s.now) s (s.charged c a) ∧ Standing s (s.charged c a)
      ∧ (s.chg.state ≠ c.state → (s.charged c a).noted .chargeState)
      ∧ (current ≠ c.orderCur → (s.charged c a).dockNoted .orderChanged) := by
  have frame : ChargedTo a c s { setCharge c.state s with chg := c, acct := a } := by
    rw [setCharge_eq]
    exact ⟨_, _, rfl⟩
  have stands : Standing s { setCharge c.state s with chg := c, acct := a } :=
    (setCharge_standing c.state s).trans (Standing.of_eq rfl rfl)
  have formed : State.formedCurrent { setCharge c.state s with chg := c, acct := a } = current := by
    rw [← forms]
    obtain ⟨_, _, e⟩ := frame
    rw [e]
    rfl
  have settings : (setCharge c.state s).settings.chgVcell = s.settings.chgVcell := by rw [setCharge_eq]
  have now : (setCharge c.state s).now = s.now := by rw [setCharge_eq]
  obtain ⟨put, changed⟩ := putOrder_spec (s := { setCharge c.state s with chg := c, acct := a }) current (ceil.trans settings.symm)
  have charged : s.charged c a = putOrder current (setCharge c.state s).settings.chgVcell { setCharge c.state s with chg := c, acct := a } := by
    unfold State.charged reformOrder
    rw [formed]
  have reordered : c.ordered current (setCharge c.state s).now = c.ordered current s.now := by rw [now]
  rw [charged, ← reordered]
  refine ⟨frame.trans put, stands.trans (putOrder_standing _ _ _), fun moved => ?_, changed⟩
  refine (putOrder_standing _ _ _).1 _ ?_
  rw [show setCharge c.state s = _ from if_neg moved]
  exact noted_raise .chargeState _

/-! ## The release of the path (03 R61) -/

theorem releaseCharge_alone {s : State} (path : s.arb.path = .charge) (alone : s.arb.waiting = none) :
    releaseCharge s = { s with arb := { s.arb with path := .idle } } := by
  rcases releaseCharge_cases s with ⟨no, -⟩ | ⟨-, -, e⟩ | ⟨-, no, -⟩ | ⟨-, no, -⟩
  · exact absurd path no
  · exact e
  · exact absurd (alone.symm.trans no) nofun
  · exact absurd (alone.symm.trans no) nofun

theorem releaseCharge_starts {s : State} (path : s.arb.path = .charge) (queued : s.arb.waiting = some .suction)
    (waits : s.suc.state = .waitPath) :
    releaseCharge s = enterStarting { s with arb := { s.arb with path := .discharge, waiting := none } } := by
  rcases releaseCharge_cases s with ⟨no, -⟩ | ⟨-, no, -⟩ | ⟨-, no, -⟩ | ⟨-, -, e⟩
  · exact absurd path no
  · exact absurd (queued.symm.trans no) nofun
  · exact absurd (queued.symm.trans no) nofun
  · rw [e]
    unfold suctionTaken
    rw [show State.suc { s with arb := { s.arb with path := .discharge, waiting := none } } = s.suc from rfl, waits]

/-- What a release of the path by the charge controller leaves. -/
theorem releaseCharge_spec {s : State} (path : s.arb.path = .charge)
    (waits : s.arb.waiting = none ∨ s.arb.waiting = some .suction ∧ s.suc.state = .waitPath) :
    ByMotor s (releaseCharge s) ∧ Standing s (releaseCharge s) ∧ (releaseCharge s).chg = s.chg
      ∧ (releaseCharge s).arb.path ≠ .charge ∧ (releaseCharge s).arb.waiting = none
      ∧ (s.arb.waiting = none → releaseCharge s = { s with arb := { s.arb with path := .idle } })
      ∧ (s.arb.waiting = some .suction →
        (releaseCharge s).arb.path = .discharge ∧ (releaseCharge s).suc = s.suc.toStarting s.now
          ∧ (releaseCharge s).men = true ∧ (releaseCharge s).bin = s.bin.aborted) := by
  rcases waits with alone | ⟨queued, waiting⟩
  · rw [releaseCharge_alone path alone]
    exact ⟨⟨{ s.arb with path := .idle }, _, _, _, _, _, _, _, rfl⟩, Standing.of_eq rfl rfl, rfl, nofun, alone, fun _ => rfl,
      fun no => absurd (alone.symm.trans no) nofun⟩
  · rw [releaseCharge_starts path queued waiting]
    obtain ⟨frame, stands, suc, bin, chg, held, wait, -, -⟩ :=
      enterStarting_spec (s := { s with arb := { s.arb with path := .discharge, waiting := none } }) rfl
    refine ⟨ByMotor.trans ⟨{ s.arb with path := .discharge, waiting := none }, _, _, _, _, _, _, _, rfl⟩ frame,
      Standing.trans (Standing.of_eq rfl rfl) stands, chg, ?_, wait, fun no => absurd (queued.symm.trans no) nofun,
      fun _ => ⟨held, suc, ?_, bin⟩⟩
    · rw [held]
      nofun
    · unfold State.men
      rw [suc, held]
      rfl

/-! ## Entry to FAULT and to DONE (08 R151, R152, R156) -/

/-- The controller at entry to FAULT, but for its order. -/
def Charger.failed (cause : ChargeCause) (c : Charger) : Charger :=
  { c with
    state := .fault, faultCause := cause, helloTimer := none, preTimer := none, balTimer := none, bleeds := Bleeds.off
    excess := 0 }

/-- The controller's own part of an entry to FAULT. -/
def State.chargeFailed (cause : ChargeCause) (s : State) : State :=
  raiseDock .chargeFault (raiseHandle .chargeFault (s.charged (s.chg.failed cause) { s.acct with learning := false }))

theorem enterChargeFault_eq (cause : ChargeCause) (s : State) : enterChargeFault cause s = releaseCharge (s.chargeFailed cause) := by
  unfold enterChargeFault State.chargeFailed State.charged Charger.failed
  simp only [setCharge_chg, setCharge_acct]

theorem chargeFailed_spec {s : State} (cause : ChargeCause) (ceil : s.chg.orderCeil = s.settings.chgVcell) :
    ChargedTo { s.acct with learning := false } ((s.chg.failed cause).ordered 0 s.now) s (s.chargeFailed cause)
      ∧ Standing s (s.chargeFailed cause) ∧ (s.chg.state ≠ .fault → (s.chargeFailed cause).noted .chargeState)
      ∧ (0 ≠ s.chg.orderCur → (s.chargeFailed cause).dockNoted .orderChanged)
      ∧ (s.chargeFailed cause).noted .chargeFault ∧ (s.chargeFailed cause).dockNoted .chargeFault := by
  obtain ⟨frame, stands, state, changed⟩ :=
    charged_spec (s := s) (c := s.chg.failed cause) { s.acct with learning := false } (current := 0) ceil rfl
  have raised : Standing (s.charged (s.chg.failed cause) { s.acct with learning := false }) (s.chargeFailed cause) :=
    (raiseHandle_standing _ _).trans (raiseDock_standing _ _)
  refine ⟨?_, stands.trans raised, fun h => raised.1 _ (state h), fun h => raised.2 _ (changed h),
    (raiseDock_standing _ _).1 _ (noted_raise _ _), dockNoted_raise _ _⟩
  obtain ⟨_, _, e⟩ := frame
  unfold State.chargeFailed
  rw [e]
  exact ⟨_, _, rfl⟩

/-- The controller at entry to DONE, but for its order. -/
def Charger.filled (c : Charger) : Charger := { c with state := .done, balTimer := none, bleeds := Bleeds.off, excess := 0 }

theorem enterDone_eq (s : State) :
    enterDone s = releaseCharge (s.charged s.chg.filled (s.acct.fullMark s.settings.designCap)) := by
  unfold enterDone State.charged Charger.filled
  simp only [setCharge_chg, setCharge_acct, setCharge_settings]

/-- A controller with its order put, as its fields read. -/
theorem ordered_fields (current now : Nat) (c : Charger) :
    (c.ordered current now).orderCur = current ∧ (c.ordered current now).orderCeil = c.orderCeil
      ∧ (c.ordered current now).orderNum = (if c.orderCur = current then c.orderNum else (c.orderNum + 1) % 256)
      ∧ (c.ordered current now).unreadSince
        = (if c.orderCur = current then c.unreadSince else some (c.unreadSince.getD now)) :=
  ⟨rfl, rfl, if_congr eq_comm rfl rfl, if_congr eq_comm rfl rfl⟩

/-- An account with a cycle comparison made (07 R127). -/
theorem countCycles_fields {a : Account} (held : 0 < a.fcc) :
    a.countCycles = { a with cycles := min 65535 (a.cycles + a.discharged / a.fcc), discharged := a.discharged % a.fcc } :=
  if_neg held.ne'

theorem countCycles_frame (a : Account) :
    a.countCycles = { a with cycles := a.countCycles.cycles, discharged := a.countCycles.discharged } := by
  unfold Account.countCycles
  split <;> rfl

/-- The account with its learned FCC (07 R131). -/
def Account.relearned (designCap : Nat) (a : Account) : Account :=
  { a with fcc := holdFcc designCap ((a.fcc : Int) + Int.tdiv ((a.charged : Int) - a.fcc) 4) }

/-- The full mark (07 R131): Q at FCC, and learning's new FCC with its cycles. -/
theorem fullMark_spec (designCap : Nat) (a : Account) :
    a.fullMark designCap
        = { a with
            q := (a.fullMark designCap).fcc, acc := 0, qEstimated := false, learning := false, fcc := (a.fullMark designCap).fcc
            discharged := (a.fullMark designCap).discharged, cycles := (a.fullMark designCap).cycles }
      ∧ (a.learning = false →
        (a.fullMark designCap).fcc = a.fcc ∧ (a.fullMark designCap).discharged = a.discharged
          ∧ (a.fullMark designCap).cycles = a.cycles)
      ∧ (a.learning = true →
        ((a.fullMark designCap).fcc : Int)
            = max ((designCap / 2 : Nat) : Int)
              (min ((designCap * 11 / 10 : Nat) : Int) ((a.fcc : Int) + Int.tdiv ((a.charged : Int) - a.fcc) 4))
          ∧ (0 < (a.fullMark designCap).fcc →
            (a.fullMark designCap).discharged = a.discharged % (a.fullMark designCap).fcc
              ∧ (a.fullMark designCap).cycles = min 65535 (a.cycles + a.discharged / (a.fullMark designCap).fcc))) := by
  by_cases learning : a.learning = true
  · have marked : a.fullMark designCap
        = { (a.relearned designCap).countCycles with
            q := (a.relearned designCap).fcc, acc := 0, qEstimated := false, learning := false } := by
      unfold Account.fullMark Account.learn
      rw [if_pos learning, show ({ a with fcc := holdFcc designCap _ } : Account) = a.relearned designCap from rfl, countCycles_frame]
    have fcc : (a.fullMark designCap).fcc = (a.relearned designCap).fcc := by rw [marked, countCycles_frame]
    refine ⟨?_, fun no => absurd (learning.symm.trans no) nofun, fun _ => ⟨?_, fun held => ?_⟩⟩
    · rw [marked, countCycles_frame]
      rfl
    · rw [fcc]
      unfold Account.relearned holdFcc clampInt
      exact Int.toNat_of_nonneg (by omega)
    · rw [fcc] at held ⊢
      rw [marked, countCycles_fields held]
      exact ⟨rfl, rfl⟩
  · have marked : a.fullMark designCap = { a with q := a.fcc, acc := 0, qEstimated := false, learning := false } := by
      unfold Account.fullMark Account.learn
      rw [if_neg learning]
    rw [marked]
    exact ⟨rfl, fun _ => ⟨rfl, rfl, rfl⟩, fun yes => absurd yes learning⟩

/-- Settles O56: the three timers, in and out of their state. -/
theorem chargeTimers : Obligations.ChargeTimers := by
  intro s ok charge
  refine ⟨fun none_ => ?_, fun none_ => ?_, fun none_ => ?_, fun d => ?_⟩
  · change execHelloTimerExpiry s = _
    unfold execHelloTimerExpiry
    rw [none_]
  · change execPrechargeTimerExpiry s = _
    unfold execPrechargeTimerExpiry
    rw [none_]
  · change execBalanceTimerExpiry s = _
    unfold execBalanceTimerExpiry
    rw [none_]
  · intro at_ ordered faulted
    have hello (timer : s.chg.helloTimer = some d) : exec .helloTimerExpiry s = .next (event helloExpires (s.reach d)) := by
      change execHelloTimerExpiry s = _
      unfold execHelloTimerExpiry
      rw [timer]
    have pre (timer : s.chg.preTimer = some d) : exec .prechargeTimerExpiry s = .next (event prechargeExpires (s.reach d)) := by
      change execPrechargeTimerExpiry s = _
      unfold execPrechargeTimerExpiry
      rw [timer]
    have bal (timer : s.chg.balTimer = some d) : exec .balanceTimerExpiry s = .next (event balanceExpires (s.reach d)) := by
      change execBalanceTimerExpiry s = _
      unfold execBalanceTimerExpiry
      rw [timer]
    have ceil : s.chg.orderCeil = s.settings.chgVcell := charge.2.1
    have faulted_ {y t : State} {cause : ChargeCause} (now : y.now = at_) (same : y.chg.failed cause = s.chg.failed cause)
        (settings : y.settings = s.settings) (acct : y.acct = s.acct) (live : y.chg.state ≠ .fault)
        (chg : t.chg = (y.chargeFailed cause).chg) (acct' : t.acct = (y.chargeFailed cause).acct)
        (stands : Standing (y.chargeFailed cause) t) : faulted t cause := by
      have cur : y.chg.orderCur = s.chg.orderCur := (congrArg Charger.orderCur same :)
      have top : y.chg.orderCeil = s.chg.orderCeil := (congrArg Charger.orderCeil same :)
      obtain ⟨frame, -, raised, changed, fault, dock⟩ := chargeFailed_spec (s := y) cause (by rw [top, settings]; exact ceil)
      obtain ⟨_, _, frame⟩ := frame
      have put : t.chg = (s.chg.failed cause).ordered 0 at_ := by rw [chg, frame, same, now]
      refine ⟨?_, ⟨?_, ?_, ?_, ?_, fun moved => stands.2 _ (changed (by rw [cur]; exact moved.symm))⟩, ?_, stands.1 _ (raised live),
        stands.1 _ fault, stands.2 _ dock⟩
      · rw [put]
        rfl
      · rw [put]
        exact (ordered_fields _ _ _).1
      · rw [put]
        exact (ordered_fields _ _ _).2.1
      · rw [put]
        exact (ordered_fields _ _ _).2.2.1
      · rw [put]
        exact (ordered_fields _ _ _).2.2.2
      · rw [acct', frame, acct]
    refine ⟨fun timer other => ⟨_, hello timer, sameButGens_event (if_neg other) rfl⟩, fun timer state => ⟨_, hello timer, ?_⟩,
      fun timer other => ⟨_, pre timer, sameButGens_event (if_neg other) rfl⟩, fun timer state => ⟨_, pre timer, ?_⟩,
      fun timer other => ⟨_, bal timer, sameButGens_event (if_neg other) rfl⟩, fun timer state => ⟨_, bal timer, ?_⟩⟩
    · have stays {t : State} := faulted_ (t := t) (y := { s.reach d with chg := { s.chg with helloTimer := none } }) (cause := .noHello) rfl rfl rfl rfl
        (by rw [show State.chg _ = { s.chg with helloTimer := none } from rfl]; rw [state]; nofun)
      obtain ⟨frame, -⟩ := chargeFailed_spec (s := { s.reach d with chg := { s.chg with helloTimer := none } }) .noHello ceil
      obtain ⟨h, dn, frame⟩ := frame
      have path : s.arb.path ≠ .charge := fun held => absurd (ok.2.1.1 held) (by rw [state]; nofun)
      have rests : (State.chargeFailed .noHello { s.reach d with chg := { s.chg with helloTimer := none } }).arb.path ≠ .charge := by
        rw [frame]
        exact path
      have e : helloExpires (s.reach d) = State.chargeFailed .noHello { s.reach d with chg := { s.chg with helloTimer := none } } :=
        (if_pos state).trans ((enterChargeFault_eq _ _).trans (releaseCharge_idle rests))
      have switches : (helloExpires (s.reach d)).switches = s.switches := by
        rw [e, frame]
        unfold State.switches State.men State.chgg
        dsimp only [State.reach]
        rw [beq_false_of_ne path, Bool.and_false, Bool.and_false]
      obtain ⟨g, e'⟩ : ∃ g, event helloExpires (s.reach d) = { helloExpires (s.reach d) with gens := g } :=
        ⟨_, sameButGens_event rfl switches⟩
      rw [e', e]
      refine ⟨stays rfl rfl (Standing.of_eq rfl rfl), ?_⟩
      rw [frame]
      rfl
    · have stays {t : State} := faulted_ (t := t) (y := { s.reach d with chg := { s.chg with preTimer := none } }) (cause := .prechargeTime) rfl rfl rfl rfl
        (by rw [show State.chg _ = { s.chg with preTimer := none } from rfl]; rw [state]; nofun)
      obtain ⟨frame, -⟩ := chargeFailed_spec (s := { s.reach d with chg := { s.chg with preTimer := none } }) .prechargeTime ceil
      have e : prechargeExpires (s.reach d)
          = releaseCharge (State.chargeFailed .prechargeTime { s.reach d with chg := { s.chg with preTimer := none } }) :=
        (if_pos state).trans (enterChargeFault_eq _ _)
      have held : s.arb.path = .charge := ok.2.1.2 (by rw [state]; rfl)
      have queue : s.arb.waiting = none ∨ s.arb.waiting = some .suction ∧ s.suc.state = .waitPath := by
        cases waiting : s.arb.waiting with
        | none => exact Or.inl rfl
        | some side =>
          cases side with
          | suction => exact Or.inr ⟨rfl, ok.2.2.1.1 waiting⟩
          | charger => exact absurd (held.symm.trans (ok.2.2.2.2.2.1 waiting)) nofun
      obtain ⟨h, dn, frame⟩ := frame
      generalize hx : State.chargeFailed .prechargeTime { s.reach d with chg := { s.chg with preTimer := none } } = x at *
      have arb : x.arb = s.arb := by rw [frame]; rfl
      have suc : x.suc = s.suc := by rw [frame]; rfl
      obtain ⟨moved, stands, chg, away, free, alone, queued⟩ := releaseCharge_spec (s := x) (by rw [arb]; exact held) (by rw [arb, suc]; exact queue)
      rw [arb] at alone queued
      obtain ⟨g, m, noted⟩ := event_noted prechargeExpires (s.reach d)
      rw [noted, e]
      have acct : (releaseCharge x).acct = x.acct := by
        obtain ⟨_, _, _, _, _, _, _, _, e⟩ := moved
        rw [e]
      refine ⟨stays chg acct stands, ?_, away, free, fun none_ => ?_, fun some_ => ?_, ?_⟩
      · unfold State.chgg
        dsimp only
        rw [chg, frame]
        rfl
      · rw [alone none_]
        exact ⟨rfl, suc⟩
      · obtain ⟨path, starts, on, bin⟩ := queued some_
        refine ⟨path, (congrArg Suction.state starts :), on, ?_⟩
        dsimp only
        rw [bin]
        unfold Bin.aborted
        split
        · rfl
        · rename_i rests
          simpa using rests
      · obtain ⟨_, _, _, _, _, _, _, _, e⟩ := moved
        rw [e, frame]
        exact ⟨rfl, rfl, rfl, rfl⟩
    · generalize hy : ({ s.reach d with chg := { s.chg with balTimer := none } } : State) = y
      obtain ⟨frame, stands, raised, changed⟩ := charged_spec (s := y) (c := y.chg.filled) (y.acct.fullMark y.settings.designCap)
        (current := 0) (by rw [← hy]; exact ceil) rfl
      have path : s.arb.path ≠ .charge := fun held => absurd (ok.2.1.1 held) (by rw [state]; nofun)
      have e : balanceExpires (s.reach d) = y.charged y.chg.filled (y.acct.fullMark y.settings.designCap) := by
        refine (if_pos state).trans ?_
        rw [show ({ s.reach d with chg := { (s.reach d).chg with balTimer := none } } : State) = y from hy, enterDone_eq]
        refine releaseCharge_idle ?_
        obtain ⟨_, _, e⟩ := frame
        rw [e, ← hy]
        exact path
      have live : y.chg.state ≠ y.chg.filled.state := by
        rw [← hy]
        dsimp only
        rw [state]
        nofun
      obtain ⟨h, dn, frame⟩ := frame
      have switches : (balanceExpires (s.reach d)).switches = s.switches := by
        rw [e, frame, ← hy]
        unfold State.switches State.men State.chgg
        dsimp only [State.reach]
        rw [beq_false_of_ne path, Bool.and_false, Bool.and_false]
      obtain ⟨g, e'⟩ : ∃ g, event balanceExpires (s.reach d) = { balanceExpires (s.reach d) with gens := g } :=
        ⟨_, sameButGens_event rfl switches⟩
      obtain ⟨marked, kept, learned⟩ := fullMark_spec s.settings.designCap s.acct
      have acct : (y.charged y.chg.filled (y.acct.fullMark y.settings.designCap)).acct = s.acct.fullMark s.settings.designCap := by
        rw [frame, ← hy]
        rfl
      have put : (y.charged y.chg.filled (y.acct.fullMark y.settings.designCap)).chg = s.chg.filled.ordered 0 at_ := by
        rw [frame, ← hy]
        rfl
      have cur : y.chg.filled.orderCur = s.chg.orderCur := by rw [← hy]; rfl
      rw [e', e]
      refine ⟨⟨?_, ?_, ?_, ?_, fun moved => changed ?_⟩, ?_, raised live, ?_, fun no => ?_, fun yes => ?_, ?_⟩
      · dsimp only
        rw [put]
        exact (ordered_fields _ _ _).1
      · dsimp only
        rw [put]
        exact (ordered_fields _ _ _).2.1
      · dsimp only
        rw [put]
        exact (ordered_fields _ _ _).2.2.1
      · dsimp only
        rw [put]
        exact (ordered_fields _ _ _).2.2.2
      · rw [cur]
        exact moved.symm
      · dsimp only
        rw [put]
        rfl
      · dsimp only
        rw [acct]
        exact marked
      · dsimp only
        rw [acct]
        exact kept no
      · dsimp only
        rw [acct]
        exact learned yes
      · rw [frame, ← hy]
        rfl

end Sys2Proof.Machine
end

section
/-! PROOFS. The wake from SHELF (10, section 10.3). -/

namespace Sys2Proof.Machine

/-- `s` with the wake values of every block, before the recomputation (10 R181). -/
def State.waking (cause : WakeInput) (s : State) : State :=
  { s with
    smp := { s.smp with cadence := .slow, phase := .resting s.now true }
    alw := { s.alw with pallow := 0, cause := .initial, snapshot := none, episode := false }
    suc := { s.suc with trigTimer := some (s.now + ms 20), speed := 0, lastPulse := none }
    bin := { s.bin with latchTimer := some (s.now + ms 20) }
    acct := { s.acct with lastI := none, iavg := 0 }
    chg := { s.chg with latest := none, attach := 0, detach := 0 }
    pwr := { s.pwr with awake := true, wakeCause := some cause } }

theorem wakeUp_eq (cause : WakeInput) (s : State) : wakeUp cause s = recompute (s.waking cause) := rfl

/-- With nothing published nothing is granted. -/
theorem recompute_dark {s : State} (dark : s.alw.pallow = 0) :
    (recompute s).arb.gs = 0 ∧ (recompute s).arb.gh = 0 ∧ (recompute s).arb.used = 0 ∧ (recompute s).suc.target = 0 := by
  have granted := recompute_granted s
  have alw : (recompute s).alw.pallow = 0 := by rw [recompute_alw, dark]
  have gs : (recompute s).arb.gs = 0 := by rw [granted.gs, alw, Nat.zero_sub, Nat.min_zero]
  refine ⟨gs, ?_, ?_, ?_⟩
  · rw [granted.gh, alw, Nat.zero_mul, Nat.zero_div, Nat.min_zero]
  · exact (congrArg Arbiter.used granted).trans alw
  · rw [recompute_target, gs, Nat.min_zero]

/-- `s` at a wake input: the clock, the trigger's line and the handle port as the input leaves them. -/
def State.stirred (s : State) (dt : Nat) (line : Bool) (h : HandlePort) : State :=
  { s.elapse dt with trigLine := line, ports := { s.ports with handle := h } }

/-- Settles O59: each input in SHELF and while AWAKE. -/
theorem wakeInputs : Obligations.WakeInputs := by
  intro dt input s woken
  have wakes (cause : WakeInput) (line : Bool) (h : HandlePort) :
      woken (event (wakeUp cause) (s.stirred dt line h)) cause ∧ (event (wakeUp cause) (s.stirred dt line h)).trigLine = line
        ∧ (event (wakeUp cause) (s.stirred dt line h)).ports.handle = h := by
    obtain ⟨gs, gh, used, target⟩ := recompute_dark (s := (s.stirred dt line h).waking cause) rfl
    have frame := recompute_regranted ((s.stirred dt line h).waking cause)
    obtain ⟨g, e⟩ : ∃ g, event (wakeUp cause) (s.stirred dt line h) = { recompute ((s.stirred dt line h).waking cause) with gens := g } :=
      ⟨_, sameButGens_event (wakeUp_eq _ _) frame.switches⟩
    rw [e]
    obtain ⟨_, _, _, _, _, frame⟩ := frame
    refine ⟨⟨?_, gs, gh, used, target, ?_, ?_⟩, ?_, ?_⟩
    all_goals
      rw [frame]
      rfl
  refine ⟨fun shelf => ?_, fun awake => ?_⟩
  · have arrives (link : Link) (r : Request) (away : link ≠ .handle) : arrive link r (s.elapse dt) = s.elapse dt := by
      have off : (s.elapse dt).pwr.awake = false := shelf
      unfold arrive
      rw [off]
      cases link with
      | handle => exact absurd rfl away
      | wand => rfl
      | dock => rfl
    refine ⟨?_, ?_, ?_, fun mosi => ?_, fun k tag p => ?_, fun k link tag p away => ?_, fun w bytes => ?_⟩
    · intro trig low
      subst trig
      have wake : exec (.wake dt .trig) s = .next (event (wakeUp .trig) (s.stirred dt true s.ports.handle)) := by
        change execWake dt .trig s = _
        unfold execWake
        dsimp only [State.elapse]
        rw [low, shelf]
        rfl
      refine ⟨⟨_, wake, wakes .trig true s.ports.handle⟩, ?_⟩
      rw [wake]
      change execTrigEdge dt s = _
      unfold execTrigEdge
      dsimp only [State.elapse]
      rw [low, shelf]
      rfl
    · intro other
      refine ⟨event (wakeUp input) (s.stirred dt s.trigLine s.ports.handle), ?_, wakes input s.trigLine s.ports.handle⟩
      change execWake dt input s = _
      unfold execWake
      dsimp only [State.elapse]
      rw [shelf]
      cases input with
      | trig => exact absurd rfl other
      | dock => rfl
      | link => rfl
    · intro trig high
      subst trig
      change execWake dt .trig s = _
      unfold execWake
      dsimp only [State.elapse]
      rw [high]
      rfl
    · refine ⟨event (wakeUp .link) (s.stirred dt s.trigLine { s.ports.handle with sdo := List.replicate mosi.length 0#8 }), ?_,
        wakes .link s.trigLine _⟩
      change execHandleTransaction dt mosi s = _
      unfold execHandleTransaction
      dsimp only [State.elapse]
      rw [shelf]
      rfl
    · refine ⟨event (wakeUp .link) (s.stirred dt s.trigLine s.ports.handle), ?_, (wakes .link s.trigLine s.ports.handle).1,
        (wakes .link s.trigLine s.ports.handle).2.2⟩
      rw [exec_row]
      exact congrArg Host.Outcome.next (if_neg (show ¬(s.elapse dt).pwr.awake = true from Bool.eq_false_iff.1 shelf))
    · rw [exec_row, arrives _ _ away]
    · change execFrameArrival dt w bytes s = _
      unfold execFrameArrival
      dsimp only [State.elapse]
      rw [shelf]
      rfl
  · refine ⟨fun other => ?_, fun trig high => ?_, fun trig low => ?_⟩
    · change execWake dt input s = _
      unfold execWake
      dsimp only [State.elapse]
      rw [awake]
      cases input with
      | trig => exact absurd rfl other
      | dock => rfl
      | link => rfl
    · subst trig
      change execWake dt .trig s = _
      unfold execWake
      dsimp only [State.elapse]
      rw [high]
      rfl
    · subst trig
      change execWake dt .trig s = execTrigEdge dt s
      unfold execWake execTrigEdge
      dsimp only [State.elapse]
      rw [low, awake]
      rfl

end Sys2Proof.Machine
end

section
/-! PROOFS. The settings (10, section 10.1): a write that is refused, a numeric tunable, a group, an enumeration. -/

namespace Sys2Proof.Machine

/-! ## A write at the handle port (09 R166, R170) -/

theorem serveWriteSet_handle (id : Byte) (value : List Byte) (s : State) :
    ownerServe .writeSet .handle (id :: value) s = writeSetting id.toNat value s := rfl

theorem settingReply_eq (id : Byte) (s : State) (c : Status) :
    settingReply id.toNat s c = ⟨s, c, id :: s.settings.bytes id.toNat⟩ := by
  unfold settingReply u8
  rw [BitVec.ofNat_toNat, BitVec.setWidth_eq]
  rfl

/-- A write of a setting's own length is the settings table's, and its reply carries the value in force. -/
theorem row_written {id : Byte} {value : List Byte} {dt : Nat} {tag : Byte} {s x : State} {c : Status} (opens : HandleOpen s)
    (length : settingLength id.toNat = some value.length)
    (written : writeSetting id.toNat value (s.atHandle dt) = settingReply id.toNat x c)
    (switches : x.switches = (s.atHandle dt).switches) :
    ∃ t, exec (.writeSet dt .handle tag (id :: value)) s = .next t
      ∧ SameButGens t (x.handleAnswers tag c (id :: x.settings.bytes id.toNat)) := by
  have short : (id :: value).length ≤ 56 := by
    have : value.length = 32 ∨ value.length = 10 ∨ value.length = 2 := by
      unfold settingLength at length
      split at length
      · exact Or.inl (Option.some.inj length).symm
      split at length
      · exact Or.inr (Or.inl (Option.some.inj length).symm)
      split at length
      · exact Or.inr (Or.inr (Option.some.inj length).symm)
      · cases length
    rw [List.length_cons]
    omega
  have fits : lengthOk .writeSet (id :: value) = true := by
    unfold lengthOk
    dsimp only
    rw [length]
    exact beq_self_eq_true _
  have known : settingRefusal .writeSet (id :: value) = none := by
    unfold settingRefusal
    dsimp only
    rw [length]
    rfl
  refine row_owned (k := .writeSet) (link := .handle) opens short nofun
    (portRefusal_passes rfl nofun nofun fits known) ?_ switches
  rw [serveWriteSet_handle]
  exact written.trans (settingReply_eq id x c)

theorem writeSetting_numeric {id : Nat} {lo hi : Int} (a b : Byte) (s : State) (range : settingRange id = some (lo, hi)) :
    writeSetting id [a, b] s = writeNumeric id lo hi (sword a b) s := by
  have other (n : Nat) (none_ : settingRange n = none) : id ≠ n := by
    rintro rfl
    rw [none_] at range
    cases range
  unfold writeSetting
  rw [if_neg (other 10 rfl), if_neg (other 23 rfl), if_neg (other 24 rfl)]
  dsimp only
  rw [if_neg (other 1 rfl), if_neg (other 26 rfl), if_neg (other 35 rfl), if_neg (other 36 rfl), if_neg (other 48 rfl), range]

theorem writeNumeric_refused {id : Nat} {lo hi v : Int} {s : State} {c : Status}
    (refused : ownerRefusal id (clampInt lo hi v) s = some c) : writeNumeric id lo hi v s = settingReply id s c := by
  unfold writeNumeric
  dsimp only
  rw [refused]

theorem writeNumeric_taken {id : Nat} {lo hi v : Int} {s : State} (passed : ownerRefusal id (clampInt lo hi v) s = none) :
    writeNumeric id lo hi v s
      = settingReply id (applyNumeric id s.settings { s with settings := s.settings.setNumeric id (clampInt lo hi v) })
        (if clampInt lo hi v = v then .ok else .clamped) := by
  unfold writeNumeric
  dsimp only
  rw [passed]

/-! ## A numeric tunable read back (10 R175) -/

/-- A numeric tunable reads back the value it has taken. -/
theorem setNumeric_bytes_own {id : Nat} {lo hi c : Int} (t : Settings) (range : settingRange id = some (lo, hi)) (low : lo ≤ c)
    (high : c ≤ hi) : (t.setNumeric id c).bytes id = i16 c := by
  unfold settingRange at range
  split at range
  all_goals cases range
  case h_17 => exact congrArg i16 (show ((10 * c.toNat / 10 : Nat) : Int) = c by omega)
  case h_6 | h_7 | h_36 | h_37 => rfl
  all_goals exact congrArg i16 (Int.toNat_of_nonneg (by omega))

/-- Every other setting reads as before. -/
theorem setNumeric_bytes_other {id j : Nat} (v : Int) (t : Settings) (other : j ≠ id) :
    (t.setNumeric id v).bytes j = t.bytes j := by
  unfold Settings.setNumeric
  split
  all_goals
    unfold Settings.bytes
    split
  all_goals try rfl
  all_goals exact absurd rfl other

/-! ## What the gauge's owner does at a write (06 R122) -/

/-- BIN_FULL is raised exactly at a change to FULL. -/
def FullRaised (before : BinState) (p : Bin × Bool) : Prop := p.2 = true ↔ p.1.state = .full ∧ before ≠ .full

theorem judgeFill_fullRaised (pct fill : Nat) (st : BinState) :
    (judgeFill pct fill st).2 = true ↔ (judgeFill pct fill st).1 = .full ∧ st ≠ .full := by
  cases st with
  | detached => simp [judgeFill]
  | uncal => simp [judgeFill]
  | ready => by_cases full : pct ≤ fill <;> simp [judgeFill, full]
  | full => by_cases low : fill + 10 < pct <;> simp [judgeFill, low]

theorem reform_none {b : Bin} (h : b.cal = none) (ratio pct : Nat) : b.reform ratio pct = (b, false) := by
  unfold Bin.reform
  rw [h]

/-- The fill against a full count re-formed (06 R120). -/
def Calibration.refilled (c : Calibration) (ratio : Nat) (last : Option Nat) : Nat :=
  match last with
  | none => c.fill
  | some n => fillOf c.baseline (fullCount c.baseline ratio) n

theorem reform_some {b : Bin} {c : Calibration} (h : b.cal = some c) (ratio pct : Nat) :
    b.reform ratio pct
      = ({ b with
            cal := some ⟨c.baseline, fullCount c.baseline ratio, c.refilled ratio b.lastCount⟩
            state := (judgeFill pct (c.refilled ratio b.lastCount) b.state).1 },
          (judgeFill pct (c.refilled ratio b.lastCount) b.state).2) := by
  unfold Bin.reform Calibration.refilled
  rw [h]
  cases b.lastCount <;> rfl

theorem reform_fullRaised (b : Bin) (ratio pct : Nat) : FullRaised b.state (b.reform ratio pct) := by
  unfold FullRaised
  cases h : b.cal with
  | none =>
    rw [reform_none h]
    exact ⟨nofun, fun ⟨full, no⟩ => absurd full no⟩
  | some c =>
    rw [reform_some h]
    exact judgeFill_fullRaised _ _ _

theorem rejudge_none {b : Bin} (h : b.cal = none) (pct : Nat) : b.rejudge pct = (b, false) := by
  unfold Bin.rejudge
  rw [h]

theorem rejudge_some {b : Bin} {c : Calibration} (h : b.cal = some c) (pct : Nat) :
    b.rejudge pct = ({ b with state := (judgeFill pct c.fill b.state).1 }, (judgeFill pct c.fill b.state).2) := by
  unfold Bin.rejudge
  rw [h]

theorem rejudge_fullRaised (b : Bin) (pct : Nat) : FullRaised b.state (b.rejudge pct) := by
  unfold FullRaised
  cases h : b.cal with
  | none =>
    rw [rejudge_none h]
    exact ⟨nofun, fun ⟨full, no⟩ => absurd full no⟩
  | some c =>
    rw [rejudge_some h]
    exact judgeFill_fullRaised _ _ _

theorem uncalibrate_fullRaised (b : Bin) : FullRaised b.state (b.uncalibrate, false) := by
  refine ⟨nofun, fun ⟨full, _⟩ => ?_⟩
  unfold Bin.uncalibrate at full
  dsimp only at full
  split at full <;> cases full

/-- A gauge taken: without a change of its state nothing else changes; a change is recomputed, a change to FULL raised. -/
theorem takeBin_spec {p : Bin × Bool} {s : State} (full : FullRaised s.bin.state p) :
    Regranted { s with bin := p.1 } (takeBin p s)
      ∧ (p.1.state = s.bin.state → takeBin p s = { s with bin := p.1 })
      ∧ (p.1.state ≠ s.bin.state → Granted (takeBin p s) ∧ (p.1.state = .full → (takeBin p s).noted .binFull)) := by
  obtain ⟨b, raised⟩ := p
  unfold takeBin
  dsimp only
  by_cases same : b.state = s.bin.state
  · have quiet : raised = false := Bool.eq_false_iff.2 fun h => (full.1 h).2 (same.symm.trans (full.1 h).1)
    rw [if_pos same, quiet]
    exact ⟨Regranted.refl _, fun _ => rfl, fun moved => absurd same moved⟩
  · rw [if_neg same]
    refine ⟨Regranted.trans ?_ (recompute_regranted _), fun h => absurd h same, fun _ => ⟨recompute_granted _, fun becomes => ?_⟩⟩
    · cases raised with
      | false => exact Regranted.refl _
      | true => exact raiseHandle_regranted _ _
    · have up : raised = true := full.2 ⟨becomes, fun no => same (becomes.trans no.symm)⟩
      rw [up]
      exact (recompute_standing _).1 _ (noted_raise _ _)

/-- Settles O26: each refusal, by the identifier. -/
theorem settingWritesRefused : Obligations.SettingWritesRefused := by
  intro id a b dt tag s opens v refused
  have settings : (s.atHandle dt).settings = s.settings := arrived_settings s .handle dt
  have arb : (s.atHandle dt).arb = s.arb := arrived_arb s .handle dt
  have bin : (s.atHandle dt).bin = s.bin := arrived_bin s .handle dt
  have turned {c : Status} (length : settingLength id.toNat = some 2)
      (h : writeSetting id.toNat [a, b] (s.atHandle dt) = settingReply id.toNat (s.atHandle dt) c) : refused c := by
    have row := row_written (tag := tag) opens length h rfl
    rw [settings] at row
    exact row
  have numeric {n : Nat} {lo hi : Int} {c : Status} (at_ : id.toNat = n) (length : settingLength n = some 2)
      (range : settingRange n = some (lo, hi)) (h : ownerRefusal n (clampInt lo hi v) (s.atHandle dt) = some c) : refused c := by
    subst at_
    exact turned length ((writeSetting_numeric a b _ range).trans (writeNumeric_refused h))
  refine ⟨?_, ?_, ?_, ?_, ?_, ?_, ?_, ?_, ?_⟩
  · rintro rfl low
    refine numeric (n := 11) rfl rfl rfl (if_pos ?_)
    rw [arb]
    exact low
  · rintro rfl low
    refine numeric (n := 12) rfl rfl rfl (if_pos ?_)
    rw [arb]
    exact low
  · rintro rfl close
    refine numeric (n := 2) rfl rfl rfl (if_pos ?_)
    rw [settings]
    exact close
  · rintro rfl close
    refine numeric (n := 3) rfl rfl rfl (if_pos ?_)
    rw [settings]
    exact close
  · rintro rfl flies
    refine numeric (n := 34) rfl rfl rfl (if_pos ?_)
    rw [bin]
    exact flies
  · rintro rfl named flies
    refine turned rfl (show writeDouble v (s.atHandle dt) = _ from ?_)
    unfold writeDouble
    rw [if_neg (by omega), if_pos (by rw [bin]; exact flies)]
    rfl
  · rintro rfl out
    refine turned rfl (show writeAutozero v (s.atHandle dt) = _ from ?_)
    unfold writeAutozero
    dsimp only
    rw [if_neg (by omega), if_neg (by omega), if_neg (by omega)]
    rfl
  · rintro (rfl | rfl | rfl) out
    · refine turned rfl (show writeNoiseMode v (s.atHandle dt) = _ from ?_)
      unfold writeNoiseMode
      rw [if_neg (by omega), if_neg (by omega)]
      rfl
    · exact turned rfl (show writeDouble v (s.atHandle dt) = _ from if_pos (by omega))
    · exact turned rfl (show writeHop v (s.atHandle dt) = _ from if_pos (by omega))
  · rintro rfl high
    exact turned rfl (show writeMask a b (s.atHandle dt) = _ from if_neg (Nat.not_lt.2 high))

/-! ## A numeric tunable written (10 R175) -/

/-- `t` is `s` but for what the owner of a numeric tunable may touch at the write. -/
def Applied (s t : State) : Prop :=
  ∃ (l : Allowance) (a : Arbiter) (target duty : Nat) (b : Bin) (q : Account) (c : Charger) (h : BitVec 15) (w : BitVec 1) (d : BitVec 3),
    t = { s with
      alw := l
      arb := { s.arb with
        ds := a.ds, dh := a.dh, gs := a.gs, gh := a.gh, shortS := a.shortS, shortH := a.shortH, used := a.used }
      suc := { s.suc with target := target, duty := duty }
      bin := b, acct := q, chg := { c with state := s.chg.state }
      ports := { s.ports with handleNotes := h, wandNotes := w, dockNotes := d } }

theorem Applied.refl (s : State) : Applied s s := ⟨_, s.arb, _, _, _, _, s.chg, _, _, _, rfl⟩

theorem Regranted.applied {s t : State} {b : Bin} (h : Regranted { s with bin := b } t) : Applied s t := by
  obtain ⟨a, _, _, _, _, rfl⟩ := h
  exact ⟨_, a, _, _, _, _, s.chg, _, _, _, rfl⟩

theorem reformOrder_applied (s : State) : Applied s (reformOrder s) := by
  unfold reformOrder
  rw [putOrder_eq]
  exact ⟨s.alw, s.arb, s.suc.target, s.suc.duty, s.bin, s.acct,
    { s.chg with
      orderCur := s.formedCurrent, orderCeil := s.settings.chgVcell
      orderNum := (putOrder s.formedCurrent s.settings.chgVcell s).chg.orderNum
      unreadSince := (putOrder s.formedCurrent s.settings.chgVcell s).chg.unreadSince },
    s.ports.handleNotes, s.ports.wandNotes, (putOrder s.formedCurrent s.settings.chgVcell s).ports.dockNotes, rfl⟩

theorem applyRInit_eq (s : State) :
    applyRInit s
      = { s with
          alw :=
            if s.alw.inflight.isSome = true then { s.alw with pendingRInit := some s.settings.rInit }
            else { s.alw with rcell := s.settings.rInit } } := by
  unfold applyRInit
  cases s.alw.inflight <;> rfl

theorem applyNumeric_applied (id : Nat) (old : Settings) (s : State) : Applied s (applyNumeric id old s) := by
  unfold applyNumeric
  split
  · rw [applyRInit_eq]
    exact ⟨_, s.arb, _, _, _, _, s.chg, _, _, _, rfl⟩
  · split
    · exact Applied.refl s
    · exact (takeBin_spec (uncalibrate_fullRaised s.bin)).1.applied
  · exact (takeBin_spec (reform_fullRaised s.bin _ _)).1.applied
  · exact (takeBin_spec (rejudge_fullRaised s.bin _)).1.applied
  · exact ⟨_, s.arb, _, _, _, _, s.chg, _, _, _, rfl⟩
  · exact reformOrder_applied s
  · exact reformOrder_applied s
  · exact Applied.refl s

theorem applyNumeric_other {id : Nat} (old : Settings) (s : State) (other : id ∉ [9, 34, 38, 39, 40, 41, 42]) :
    applyNumeric id old s = s := by
  unfold applyNumeric
  split
  case h_8 => rfl
  all_goals exact absurd (by decide) other

theorem Applied.switches {s t : State} (h : Applied s t) : t.switches = s.switches := by
  obtain ⟨_, _, _, _, _, _, _, _, _, _, rfl⟩ := h
  rfl

/-- What a request at the handle port finds (09 R165). -/
theorem atHandle_eq (s : State) (dt : Nat) :
    s.atHandle dt = { s with now := s.now + dt, pwr := (replaceAnswer s).pwr, gens := (s.atHandle dt).gens } := by
  have pwr : (s.atHandle dt).pwr = (replaceAnswer s).pwr := by
    unfold State.atHandle
    rw [event_pwr]
    unfold replaceAnswer
    rw [apply_ite State.pwr, apply_ite State.pwr]
    unfold shelfDelivered State.elapse
    dsimp only
    cases s.pwr.entry <;> rfl
  rw [← pwr]
  have frame := atHandle_frame s dt
  generalize s.atHandle dt = t at *
  rw [frame]

end Sys2Proof.Machine
end

section
/-! PROOFS. A numeric tunable written (10, section 10.1). -/

namespace Sys2Proof.Machine

/-! ## What the owner of a numeric tunable does with it (06 R122; 07 R135; 08 R145) -/

/-- A value of the gauge taken: the gauge alone changes, or its state, which is then recomputed; a change to FULL is raised. -/
def Gauged (s x : State) : Prop :=
  Regranted { s with bin := x.bin } x
    ∧ (x.bin.state = s.bin.state → x = { s with bin := x.bin })
    ∧ (x.bin.state ≠ s.bin.state → Granted x ∧ (x.bin.state = .full → x.noted .binFull))

theorem Gauged.refl (s : State) : Gauged s s := ⟨Regranted.refl s, fun _ => rfl, fun moved => absurd rfl moved⟩

theorem takeBin_gauged {p : Bin × Bool} {s : State} (full : FullRaised s.bin.state p) :
    Gauged s (takeBin p s) ∧ (takeBin p s).bin = p.1 := by
  obtain ⟨frame, stands, moves⟩ := takeBin_spec full
  have bin : (takeBin p s).bin = p.1 := by
    obtain ⟨_, _, _, _, _, e⟩ := frame
    rw [e]
  unfold Gauged
  rw [bin]
  exact ⟨⟨frame, stands, moves⟩, rfl⟩

theorem applyNumeric_gauged {id : Nat} (old : Settings) (s : State) (gauge : id = 34 ∨ id = 38 ∨ id = 39) :
    Gauged s (applyNumeric id old s) := by
  rcases gauge with rfl | rfl | rfl
  · by_cases same : old.refwin = s.settings.refwin
    · rw [show applyNumeric 34 old s = s from if_pos same]
      exact Gauged.refl s
    · rw [show applyNumeric 34 old s = _ from if_neg same]
      exact (takeBin_gauged (uncalibrate_fullRaised s.bin)).1
  · exact (takeBin_gauged (reform_fullRaised s.bin _ _)).1
  · exact (takeBin_gauged (rejudge_fullRaised s.bin _)).1

/-- A changed REFWIN discards the calibration. -/
theorem applyNumeric_refwin (old : Settings) (s : State) :
    (applyNumeric 34 old s).bin = if old.refwin = s.settings.refwin then s.bin else s.bin.uncalibrate := by
  by_cases same : old.refwin = s.settings.refwin
  · rw [if_pos same, show applyNumeric 34 old s = s from if_pos same]
  · rw [if_neg same, show applyNumeric 34 old s = _ from if_neg same]
    exact (takeBin_gauged (uncalibrate_fullRaised s.bin)).2

theorem applyNumeric_uncalibrated {id : Nat} (old : Settings) {s : State} (gauge : id = 38 ∨ id = 39) (none_ : s.bin.cal = none) :
    (applyNumeric id old s).bin = s.bin := by
  rcases gauge with rfl | rfl
  · refine (takeBin_gauged (reform_fullRaised s.bin _ _)).2.trans ?_
    rw [reform_none none_]
  · refine (takeBin_gauged (rejudge_fullRaised s.bin _)).2.trans ?_
    rw [rejudge_none none_]

theorem applyNumeric_fullRatio (old : Settings) (s : State) :
    (applyNumeric 38 old s).bin = (s.bin.reform s.settings.fullRatio s.settings.fullPct).1 :=
  (takeBin_gauged (reform_fullRaised s.bin _ _)).2

theorem applyNumeric_fullPct (old : Settings) (s : State) :
    (applyNumeric 39 old s).bin = (s.bin.rejudge s.settings.fullPct).1 :=
  (takeBin_gauged (rejudge_fullRaised s.bin _)).2

/-- A new DESIGN_CAP holds FCC, and Q with it; the cycles are counted afresh (07 R135). -/
theorem applyDesignCap_fields {cap : Nat} (some_ : 2 ≤ cap) (a : Account) :
    a.applyDesignCap cap
      = { a with
          fcc := holdFcc cap a.fcc, q := min a.q (holdFcc cap a.fcc)
          cycles := min 65535 (a.cycles + a.discharged / holdFcc cap a.fcc)
          discharged := a.discharged % holdFcc cap a.fcc } := by
  have held : 0 < holdFcc cap a.fcc := by
    unfold holdFcc clampInt
    omega
  exact countCycles_fields (a := { a with fcc := holdFcc cap a.fcc, q := min a.q (holdFcc cap a.fcc) }) held

/-- The bulk current: CHG_I, within a capability, halved by COLD (08 R145; with no capability log 30). -/
theorem bulkCurrent_eq (s : State) :
    s.bulkCurrent
      = (if s.chg.cold = true then min ((s.chg.cap.map (·.current)).getD s.settings.chgI) s.settings.chgI / 2
          else min ((s.chg.cap.map (·.current)).getD s.settings.chgI) s.settings.chgI) := by
  unfold State.bulkCurrent
  cases s.chg.cap with
  | some c => rfl
  | none =>
    rw [Option.map_none, Option.getD_none, Nat.min_self]

/-! ## The owner's check passes -/

/-- The numeric tunables with their ranges (10 R175). -/
def numericRanges : List (Nat × Int × Int) :=
  [(2, 2800, 3400), (3, 2500, 3200), (4, 100, 600), (5, 1, 50), (6, 1000, 10000), (7, -30, 10), (8, 40, 80), (9, 50, 2000),
      (11, 1, 4), (12, 1, 4), (13, 0, 256), (14, 0, 300), (15, 1, 50), (16, 0, 15), (17, 200, 700), (18, 0, 600),
      (19, 6000, 13000), (20, 1, 255), (21, 1, 1023), (22, 0, 200)]
    ++ [(25, 16, 250), (27, 0, 1023), (28, 0, 255), (29, 1, 63), (30, 0, 255), (31, 1, 15), (32, 1, 15), (33, 0, 255),
      (34, 256, 4095), (37, 0, 255), (38, 64, 240), (39, 50, 100), (40, 1000, 6000), (41, 500, 4000), (42, 4000, 4250),
      (43, 0, 15), (44, 35, 55), (45, 50, 500), (46, 10, 100), (47, 50, 300)]

theorem numericRanges_listed :
    ∀ p ∈ numericRanges, settingRange p.1 = some p.2 ∧ p.2.1 ≤ p.2.2 ∧ settingLength p.1 = some 2 := by
  decide

theorem ownerRefusal_passes {id : Nat} {c : Int} {s : State} (vcut : id = 2 → (s.settings.vstop : Int) + 100 ≤ c)
    (vstop : id = 3 → c + 100 ≤ s.settings.vcut) (suction : id = 11 → (s.arb.suction.length : Int) ≤ c)
    (brush : id = 12 → (s.arb.brush.length : Int) ≤ c) (refwin : id = 34 → s.bin.meas = none) :
    ownerRefusal id c s = none := by
  unfold ownerRefusal
  split
  · exact if_neg (by have := vcut rfl; omega)
  · exact if_neg (by have := vstop rfl; omega)
  · exact if_neg (by have := suction rfl; omega)
  · exact if_neg (by have := brush rfl; omega)
  · rw [refwin rfl]
    rfl
  · rfl

/-- What a settings write at the handle port finds, with the table it leaves. -/
def State.retabled (s : State) (dt : Nat) (table : Settings) : State :=
  { s with now := s.now + dt, pwr := (replaceAnswer s).pwr, gens := (s.atHandle dt).gens, settings := table }

theorem retabled_eq (s : State) (dt : Nat) (table : Settings) :
    ({ s.atHandle dt with settings := table } : State) = s.retabled dt table :=
  congrArg (fun x : State => { x with settings := table }) (atHandle_eq s dt)

theorem applied_settings {s t : State} (h : Applied s t) : t.settings = s.settings := by
  obtain ⟨_, _, _, _, _, _, _, _, _, _, rfl⟩ := h
  rfl

/-- Settles O25: what is read back, the frame, and the owner's act by the identifier. -/
theorem numericSettingWritten : Obligations.NumericSettingWritten := by
  intro id lo hi a b dt tag s opens listed v c vcut vstop suction brush refwin
  obtain ⟨range, ordered, length⟩ : settingRange id.toNat = some (lo, hi) ∧ lo ≤ hi ∧ settingLength id.toNat = some 2 :=
    numericRanges_listed (id.toNat, lo, hi) listed
  have low : lo ≤ c := le_max_left _ _
  have high : c ≤ hi := max_le ordered (min_le_left _ _)
  obtain ⟨base, hb⟩ : ∃ base, base = s.retabled dt (s.settings.setNumeric id.toNat c) := ⟨_, rfl⟩
  obtain ⟨x, hx⟩ : ∃ x, x = applyNumeric id.toNat s.settings base := ⟨_, rfl⟩
  have named {n : Byte} (h : id.toNat = n.toNat) : id = n := BitVec.eq_of_toNat_eq h
  have passed : ownerRefusal id.toNat c (s.atHandle dt) = none := by
    rw [atHandle_eq]
    exact ownerRefusal_passes (fun h => vcut (named h)) (fun h => vstop (named h)) (fun h => suction (named h))
      (fun h => brush (named h)) fun h => refwin (named h)
  have touched : Applied base x := hx ▸ applyNumeric_applied _ _ _
  have written : writeSetting id.toNat [a, b] (s.atHandle dt) = settingReply id.toNat x (if c = v then .ok else .clamped) := by
    refine (writeSetting_numeric a b _ range).trans ((writeNumeric_taken (v := v) passed).trans ?_)
    rw [hx, hb, ← retabled_eq, show (s.atHandle dt).settings = s.settings from arrived_settings s .handle dt]
    rfl
  have switches : x.switches = (s.atHandle dt).switches := by
    rw [touched.switches, hb, ← retabled_eq]
    rfl
  obtain ⟨t, exec_, answered⟩ := row_written (tag := tag) opens length written switches
  have own : x.settings.bytes id.toNat = i16 c := by
    rw [applied_settings touched, hb]
    exact setNumeric_bytes_own _ range low high
  rw [own] at answered
  obtain ⟨g, rfl⟩ : ∃ g, t = { x.handleAnswers tag (if c = v then .ok else .clamped) (id :: i16 c) with gens := g } := ⟨_, answered⟩
  have settings : x.settings = s.settings.setNumeric id.toNat c := (applied_settings touched).trans (congrArg State.settings hb :)
  refine ⟨_, exec_, own, fun j other => ?_, ?_, ?_, ?_⟩
  · refine Eq.trans ?_ (setNumeric_bytes_other c s.settings other)
    rw [← settings]
    rfl
  · have handle : x.ports.handle = s.ports.handle := by
      obtain ⟨_, _, _, _, _, _, _, _, _, _, e⟩ := touched
      rw [e, hb]
      rfl
    exact congrArg (fun port : HandlePort =>
      { port with
        slot := .serving
        buf := frame (statusByte (if c = v then .ok else .clamped) (x.notePending .handle)) tag (id :: i16 c) }) handle
  · obtain ⟨_, _, _, _, _, _, _, _, _, _, e⟩ := touched
    rw [e, hb]
    rfl
  intro written judged
  refine ⟨fun outside => ?_, ?_, fun gauge => ?_, ?_, fun gauge none_ => ?_, fun cal some_ => ⟨?_, ?_⟩, ?_, fun order => ?_⟩
  · have rests : x = base := hx.trans (applyNumeric_other _ _ outside)
    clear hx
    subst rests hb
    rfl
  · rintro rfl
    have taken := hx.trans (applyRInit_eq base)
    clear hx
    subst taken hb
    rfl
  · obtain ⟨regranted, stands, moves⟩ : Gauged base x := by
      rw [hx]
      refine applyNumeric_gauged _ _ ?_
      rcases gauge with rfl | rfl | rfl
      · exact Or.inl rfl
      · exact Or.inr (Or.inl rfl)
      · exact Or.inr (Or.inr rfl)
    have state : base.bin.state = s.bin.state := by
      rw [hb]
      rfl
    rw [state] at stands moves
    refine ⟨fun same => ?_, fun moved => ?_⟩
    · obtain ⟨gauge_, kept⟩ : ∃ gauge_, x = { base with bin := gauge_ } := ⟨_, stands same⟩
      clear hx stands moves regranted same
      subst kept hb
      rfl
    · obtain ⟨granted, full⟩ := moves moved
      refine ⟨granted.ds, granted.gs, ?_, ?_, ?_, ?_, full⟩
      all_goals
        obtain ⟨_, _, _, _, _, e⟩ := regranted
        rw [e, hb]
        rfl
  · rintro rfl
    refine (congrArg State.bin hx).trans ((applyNumeric_refwin s.settings base).trans ?_)
    rw [hb]
    refine if_congr ?_ rfl rfl
    cases range
    change s.settings.refwin = c.toNat ↔ c = s.settings.refwin
    omega
  · rw [← show base.bin = s.bin by rw [hb]; rfl] at none_ ⊢
    refine (congrArg State.bin hx).trans (applyNumeric_uncalibrated s.settings ?_ none_)
    rcases gauge with rfl | rfl
    · exact Or.inl rfl
    · exact Or.inr rfl
  · rintro rfl
    intro full fill
    refine (congrArg State.bin hx).trans ((applyNumeric_fullRatio s.settings base).trans ?_)
    rw [hb, show (s.retabled dt (s.settings.setNumeric _ c)).bin = s.bin from rfl, reform_some some_, judgeFill_calls,
      show (s.retabled dt (s.settings.setNumeric (38 : Byte).toNat c)).settings.fullRatio = c.toNat from rfl,
      show (s.retabled dt (s.settings.setNumeric (38 : Byte).toNat c)).settings.fullPct = s.settings.fullPct from rfl]
    have refilled : cal.refilled c.toNat s.bin.lastCount = fill := by
      unfold Calibration.refilled fillOf fullCount
      dsimp only [fill, full] <;> cases s.bin.lastCount <;> rfl
    rw [refilled] <;> rfl
  · rintro rfl
    refine (congrArg State.bin hx).trans ((applyNumeric_fullPct s.settings base).trans ?_)
    rw [hb, show (s.retabled dt (s.settings.setNumeric _ c)).bin = s.bin from rfl, rejudge_some some_, judgeFill_calls]
    rfl
  · rintro rfl
    intro fcc
    cases range
    have held : holdFcc c.toNat s.acct.fcc = fcc := by
      unfold holdFcc clampInt
      omega
    have taken : x = { base with acct := base.acct.applyDesignCap c.toNat } := by
      rw [hx, hb]
      rfl
    rw [applyDesignCap_fields (by omega), show base.acct = s.acct by rw [hb]; rfl, held] at taken
    clear hx
    subst taken hb
    rfl
  · intro most current
    have formed : base.formedCurrent = current := by
      have chg : base.chg = s.chg := by
        rw [hb]
        rfl
      have chgI : base.settings.chgI = x.settings.chgI := by rw [applied_settings touched]
      unfold State.formedCurrent
      rw [bulkCurrent_eq, chg, chgI]
      dsimp only [current, most]
      cases s.chg.state <;> rfl
    obtain ⟨ceil, hc⟩ : ∃ ceil, ceil = base.settings.chgVcell := ⟨_, rfl⟩
    have shown : x.settings.chgVcell = ceil := by rw [applied_settings touched, hc]
    have ordered : x = putOrder current ceil base := by
      rw [hx, hc, ← formed]
      rcases order with rfl | rfl <;> rfl
    have chg : base.chg = s.chg := by
      rw [hb]
      rfl
    unfold putOrder at ordered
    rw [chg] at ordered
    clear hx
    by_cases same : current = s.chg.orderCur ∧ ceil = s.chg.orderCeil
    · refine Eq.mpr (if_pos (shown.symm ▸ same)) ?_
      rw [if_pos same] at ordered
      subst ordered hb
      rfl
    · refine Eq.mpr (if_neg (shown.symm ▸ same)) ?_
      rw [if_neg same] at ordered
      refine ⟨?_, ?_⟩
      · have noted : x.dockNoted .orderChanged := by
          rw [ordered]
          exact dockNoted_raise _ _
        exact noted
      · clear_value current
        subst ordered hc hb
        rfl

end Sys2Proof.Machine
end

section
/-! PROOFS. The structural groups, the mask and the enumerations written (10, section 10.1). -/

namespace Sys2Proof.Machine

/-! ## The coding of two bytes (11 R185) -/

theorem u16_word (lo hi : Byte) : u16 (word lo hi) = [lo, hi] := by
  have low := lo.isLt
  have high := hi.isLt
  unfold u16 word
  congr 1
  · apply BitVec.eq_of_toNat_eq
    rw [BitVec.toNat_ofNat]
    omega
  · congr 1
    apply BitVec.eq_of_toNat_eq
    rw [BitVec.toNat_ofNat]
    omega

theorem word_lt (lo hi : Byte) : word lo hi < 65536 := by
  have low := lo.isLt
  have high := hi.isLt
  unfold word
  omega

theorem i16_sword (lo hi : Byte) : i16 (sword lo hi) = [lo, hi] := by
  unfold i16 sword
  rw [BitVec.ofInt_toInt, BitVec.toNat_ofNat, Nat.mod_eq_of_lt (word_lt lo hi)]
  exact u16_word lo hi

/-- The signed value is the unsigned one, or negative. -/
theorem sword_eq (lo hi : Byte) :
    sword lo hi = if word lo hi < 32768 then (word lo hi : Int) else (word lo hi : Int) - 65536 := by
  have bound := word_lt lo hi
  unfold sword
  rw [BitVec.toInt_eq_toNat_cond, BitVec.toNat_ofNat, Nat.mod_eq_of_lt (by omega)]
  split <;> split <;> omega

/-- Two bytes, written out. -/
theorem bytes_two {value : List Byte} (length : value.length = 2) : value = [value.getD 0 0, value.getD 1 0] := by
  obtain ⟨a, b, rfl⟩ := List.length_eq_two.1 length
  rfl

/-! ## The derate curve and the suction curves, as written (02 R40; 04 R86; 11 R184) -/

/-- The points are read four bytes each. -/
theorem deratePoints_eq : ∀ (n : Nat) (value : List Byte), value.length = 4 * n →
    deratePoints value
      = (List.range n).map fun i =>
        ⟨sword (value.getD (4 * i) 0) (value.getD (4 * i + 1) 0), sword (value.getD (4 * i + 2) 0) (value.getD (4 * i + 3) 0)⟩
  | 0, value, length => by
    rw [List.eq_nil_of_length_eq_zero length]
    rfl
  | n + 1, a :: b :: c :: d :: rest, length => by
    rw [List.range_succ_eq_map, List.map_cons, List.map_map]
    exact congrArg (_ :: ·) (deratePoints_eq n rest (by simpa [Nat.mul_succ] using length))
  | n + 1, [], length | n + 1, [_], length | n + 1, [_, _], length | n + 1, [_, _, _], length => by
    simp at length
    try omega

theorem deratePoints_bytes : ∀ (n : Nat) (value : List Byte), value.length = 4 * n →
    ((deratePoints value).flatMap fun p => i16 p.t ++ i16 p.d) = value
  | 0, value, length => by
    rw [List.eq_nil_of_length_eq_zero length]
    rfl
  | n + 1, a :: b :: c :: d :: rest, length => by
    rw [deratePoints, List.flatMap_cons, i16_sword, i16_sword, deratePoints_bytes n rest (by simpa [Nat.mul_succ] using length)]
    rfl
  | n + 1, [], length | n + 1, [_], length | n + 1, [_, _], length | n + 1, [_, _, _], length => by
    simp at length
    try omega

theorem increasing_iff (points : List DeratePoint) :
    increasing points = true ↔ ∀ b ∈ points.zip points.tail, b.1.t < b.2.t := by
  induction points with
  | nil => simp [increasing]
  | cons p rest ih =>
    cases rest with
    | nil => simp [increasing]
    | cons q rest =>
      rw [increasing, Bool.and_eq_true, decide_eq_true_iff, ih]
      exact (List.forall_mem_cons (p := fun b : DeratePoint × DeratePoint => b.1.t < b.2.t) (a := (p, q))
        (l := (q :: rest).zip rest)).symm

theorem derateOk_iff (points : List DeratePoint) :
    derateOk points = true
      ↔ (∀ b ∈ points.zip points.tail, b.1.t < b.2.t) ∧ ∀ p ∈ points, -40 ≤ p.t ∧ p.t ≤ 125 ∧ 0 ≤ p.d ∧ p.d ≤ 256 := by
  unfold derateOk
  rw [Bool.and_eq_true, increasing_iff, List.all_eq_true]
  simp only [decide_eq_true_iff]

/-- A signed byte is within the range of a slope. -/
theorem slopes_ok (slopes : List Byte) : (slopes.map BitVec.toInt).all (fun x => decide (-128 ≤ x ∧ x ≤ 127)) = true := by
  rw [List.all_map, List.all_eq_true]
  intro b _
  have low := BitVec.le_toInt b
  have high := BitVec.toInt_lt (x := b)
  simp only [Function.comp_apply, decide_eq_true_iff]
  omega

/-- A curve is accepted exactly with its base within 600 W. -/
theorem curveOk_iff (lo hi : Byte) (slopes : List Byte) :
    curveOk (sword lo hi) (slopes.map BitVec.toInt) = true ↔ word lo hi ≤ 600 := by
  have bound := word_lt lo hi
  unfold curveOk
  rw [slopes_ok, Bool.and_true, decide_eq_true_iff, sword_eq]
  split <;> omega

theorem curve_bytes (lo hi : Byte) (slopes : List Byte) (low : word lo hi ≤ 600) :
    Curve.bytes ⟨(sword lo hi).toNat, slopes.map BitVec.toInt⟩ = lo :: hi :: slopes := by
  have base : (((sword lo hi).toNat : Nat) : Int) = sword lo hi := by
    rw [sword_eq, if_pos (by omega)]
    rfl
  have tail : (slopes.map BitVec.toInt).flatMap i8 = slopes := by
    induction slopes with
    | nil => rfl
    | cons b rest ih =>
      rw [List.map_cons, List.flatMap_cons, ih]
      unfold i8
      rw [BitVec.ofInt_toInt]
      rfl
  unfold Curve.bytes
  dsimp only
  rw [base, i16_sword, tail]
  rfl

/-! ## One group put (10 R175, R176) -/

/-- `u` is the table `t` with another value of the group, the mask or the enumeration `id`. -/
def GroupPut (id : Nat) (t u : Settings) : Prop :=
  (id = 1 ∧ ∃ m, u = { t with autozero := m }) ∨ (id = 10 ∧ ∃ p, u = { t with derate := p })
    ∨ (id = 23 ∧ ∃ c, u = { t with hard := c }) ∨ (id = 24 ∧ ∃ c, u = { t with carpet := c })
    ∨ (id = 26 ∧ ∃ m, u = { t with noiseMode := m }) ∨ (id = 35 ∧ ∃ b, u = { t with double := b })
    ∨ (id = 36 ∧ ∃ b, u = { t with hop := b }) ∨ (id = 48 ∧ ∃ m, u = { t with attnMask := m })

/-- No other setting is read otherwise. -/
theorem GroupPut.bytes_other {id j : Nat} {t u : Settings} (h : GroupPut id t u) (other : j ≠ id) : u.bytes j = t.bytes j := by
  rcases h with ⟨rfl, _, rfl⟩ | ⟨rfl, _, rfl⟩ | ⟨rfl, _, rfl⟩ | ⟨rfl, _, rfl⟩ | ⟨rfl, _, rfl⟩ | ⟨rfl, _, rfl⟩ | ⟨rfl, _, rfl⟩
    | ⟨rfl, _, rfl⟩
  all_goals
    unfold Settings.bytes
    split
  all_goals try rfl
  all_goals exact absurd rfl other

/-! ## The writes of the groups, the mask and the enumerations -/

/-- The write of a group at the state `s` is taken with the table `u`. -/
def GroupTaken (id : Nat) (value : List Byte) (s : State) (u : Settings) : Prop :=
  GroupPut id s.settings u ∧ u.bytes id = value
    ∧ writeSetting id value s = settingReply id { s with settings := u } .ok ∧ settingLength id = some value.length

theorem derate_taken {value : List Byte} (s : State) (length : value.length = 32) (ok : derateOk (deratePoints value) = true) :
    ∃ u, GroupTaken 10 value s u :=
  ⟨{ s.settings with derate := deratePoints value }, Or.inr (Or.inl ⟨rfl, _, rfl⟩), deratePoints_bytes 8 value length,
    if_pos ok, congrArg some length.symm⟩

theorem derate_refused {value : List Byte} (s : State) (bad : derateOk (deratePoints value) = false) :
    writeSetting 10 value s = settingReply 10 s .badArg :=
  show writeDerate value s = _ from if_neg (by rw [bad]; exact Bool.false_ne_true)

theorem curve_taken {id : Nat} {value : List Byte} (s : State) (curve : id = 23 ∨ id = 24) (length : value.length = 10)
    (low : word (value.getD 0 0) (value.getD 1 0) ≤ 600) : ∃ u, GroupTaken id value s u := by
  match value, length with
  | lo :: hi :: slopes, length =>
    have ok : curveOk (sword lo hi) (slopes.map BitVec.toInt) = true := (curveOk_iff lo hi slopes).2 low
    rcases curve with rfl | rfl
    · exact ⟨{ s.settings with hard := ⟨(sword lo hi).toNat, slopes.map BitVec.toInt⟩ }, Or.inr (Or.inr (Or.inl ⟨rfl, _, rfl⟩)),
        curve_bytes lo hi slopes low, if_pos ok, congrArg some length.symm⟩
    · exact ⟨{ s.settings with carpet := ⟨(sword lo hi).toNat, slopes.map BitVec.toInt⟩ },
        Or.inr (Or.inr (Or.inr (Or.inl ⟨rfl, _, rfl⟩))), curve_bytes lo hi slopes low, if_pos ok, congrArg some length.symm⟩

theorem curve_refused {id : Nat} {value : List Byte} (s : State) (curve : id = 23 ∨ id = 24) (length : value.length = 10)
    (high : 600 < word (value.getD 0 0) (value.getD 1 0)) : writeSetting id value s = settingReply id s .badArg := by
  match value, length with
  | lo :: hi :: slopes, length =>
    have bad : ¬curveOk (sword lo hi) (slopes.map BitVec.toInt) = true := fun ok =>
      absurd ((curveOk_iff lo hi slopes).1 ok) (Nat.not_le.2 high)
    rcases curve with rfl | rfl
    · exact if_neg bad
    · exact if_neg bad

/-- An enumeration's position, within its first two values. -/
theorem position_two {lo hi : Byte} (small : word lo hi < 2) :
    (sword lo hi = 0 ∧ [lo, hi] = i16 0) ∨ (sword lo hi = 1 ∧ [lo, hi] = i16 1) := by
  rw [← i16_sword lo hi]
  have value := sword_eq lo hi
  rw [if_pos (by omega)] at value
  have cases_ : sword lo hi = 0 ∨ sword lo hi = 1 := by omega
  exact cases_.imp (fun e => ⟨e, congrArg i16 e⟩) fun e => ⟨e, congrArg i16 e⟩

theorem noiseMode_taken {lo hi : Byte} (s : State) (small : word lo hi < 2) : ∃ u, GroupTaken 26 [lo, hi] s u := by
  rcases position_two small with ⟨v, e⟩ | ⟨v, e⟩
  · exact ⟨{ s.settings with noiseMode := .manual }, Or.inr (Or.inr (Or.inr (Or.inr (Or.inl ⟨rfl, _, rfl⟩)))), e.symm,
      (show writeNoiseMode (sword lo hi) s = _ from if_pos v), rfl⟩
  · exact ⟨{ s.settings with noiseMode := .auto }, Or.inr (Or.inr (Or.inr (Or.inr (Or.inl ⟨rfl, _, rfl⟩)))), e.symm,
      (show writeNoiseMode (sword lo hi) s = _ from (if_neg (by omega)).trans (if_pos v)), rfl⟩

theorem hop_taken {lo hi : Byte} (s : State) (small : word lo hi < 2) : ∃ u, GroupTaken 36 [lo, hi] s u := by
  refine ⟨{ s.settings with hop := decide (sword lo hi = 1) },
    Or.inr (Or.inr (Or.inr (Or.inr (Or.inr (Or.inr (Or.inl ⟨rfl, _, rfl⟩)))))), ?_,
    (show writeHop (sword lo hi) s = _ from if_neg ?_), rfl⟩
  · rcases position_two small with ⟨v, e⟩ | ⟨v, e⟩
    all_goals
      rw [e, v]
      rfl
  · rcases position_two small with ⟨v, -⟩ | ⟨v, -⟩ <;> omega

theorem mask_taken {lo hi : Byte} (s : State) (named : word lo hi < 32768) : ∃ u, GroupTaken 48 [lo, hi] s u := by
  refine ⟨{ s.settings with attnMask := BitVec.ofNat 15 (word lo hi) },
    Or.inr (Or.inr (Or.inr (Or.inr (Or.inr (Or.inr (Or.inr ⟨rfl, _, rfl⟩)))))), ?_, if_pos named, rfl⟩
  change u16 (BitVec.ofNat 15 (word lo hi)).toNat = [lo, hi]
  rw [BitVec.toNat_ofNat, Nat.mod_eq_of_lt named]
  exact u16_word lo hi

/-- A group that its rule accepts is taken whole. -/
theorem group_taken {id : Byte} {value : List Byte} (s : State)
    (good : (id = 10 ∧ value.length = 32 ∧ derateOk (deratePoints value) = true)
      ∨ ((id = 23 ∨ id = 24) ∧ value.length = 10 ∧ word (value.getD 0 0) (value.getD 1 0) ≤ 600)
      ∨ ((id = 26 ∨ id = 36) ∧ value.length = 2 ∧ word (value.getD 0 0) (value.getD 1 0) < 2)
      ∨ (id = 48 ∧ value.length = 2 ∧ word (value.getD 0 0) (value.getD 1 0) < 32768)) :
    ∃ u, GroupTaken id.toNat value s u := by
  rcases good with ⟨rfl, length, ok⟩ | ⟨rfl | rfl, length, low⟩ | ⟨rfl | rfl, length, small⟩ | ⟨rfl, length, named⟩
  · exact derate_taken s length ok
  · exact curve_taken s (Or.inl rfl) length low
  · exact curve_taken s (Or.inr rfl) length low
  · rw [bytes_two length]
    exact noiseMode_taken s small
  · rw [bytes_two length]
    exact hop_taken s small
  · rw [bytes_two length]
    exact mask_taken s named

/-- A group that its rule refuses stands. -/
theorem group_refused {id : Byte} {value : List Byte} (s : State)
    (bad : (id = 10 ∧ value.length = 32 ∧ derateOk (deratePoints value) = false)
      ∨ ((id = 23 ∨ id = 24) ∧ value.length = 10 ∧ 600 < word (value.getD 0 0) (value.getD 1 0))) :
    writeSetting id.toNat value s = settingReply id.toNat s .badArg ∧ settingLength id.toNat = some value.length := by
  rcases bad with ⟨rfl, length, bad⟩ | ⟨rfl | rfl, length, high⟩
  · exact ⟨derate_refused s bad, congrArg some length.symm⟩
  · exact ⟨curve_refused s (Or.inl rfl) length high, congrArg some length.symm⟩
  · exact ⟨curve_refused s (Or.inr rfl) length high, congrArg some length.symm⟩

/-- AUTOZERO taken empties the PER_64 run, whatever the value (01 R17). -/
theorem autozero_taken {lo hi : Byte} (s : State) (small : word lo hi < 3) :
    ∃ u, GroupPut 1 s.settings u ∧ u.bytes 1 = [lo, hi]
      ∧ writeSetting 1 [lo, hi] s = settingReply 1 { s with settings := u, smp := { s.smp with run := ⟨0, 0⟩ } } .ok := by
  have value := sword_eq lo hi
  rw [if_pos (by omega)] at value
  have cases_ : sword lo hi = 0 ∨ sword lo hi = 1 ∨ sword lo hi = 2 := by omega
  have own (m : AutoZero) (v : sword lo hi = m.pos) : i16 m.pos = [lo, hi] := (congrArg i16 v.symm).trans (i16_sword lo hi)
  rcases cases_ with v | v | v
  · exact ⟨{ s.settings with autozero := .off }, Or.inl ⟨rfl, _, rfl⟩, own _ v,
      (show writeAutozero (sword lo hi) s = _ from if_pos v)⟩
  · exact ⟨{ s.settings with autozero := .perScan }, Or.inl ⟨rfl, _, rfl⟩, own _ v,
      (show writeAutozero (sword lo hi) s = _ from (if_neg (by omega)).trans (if_pos v))⟩
  · exact ⟨{ s.settings with autozero := .per64 }, Or.inl ⟨rfl, _, rfl⟩, own _ v,
      (show writeAutozero (sword lo hi) s = _ from (if_neg (by omega)).trans ((if_neg (by omega)).trans (if_pos v)))⟩

/-- The gauge where DOUBLE changes: its calibration is discarded (06 R122). -/
def State.redoubled (s : State) (b : Bool) : State :=
  if s.settings.double = b then { s with settings := { s.settings with double := b } }
  else
    takeBin (s.bin.uncalibrate, false) { s with settings := { s.settings with double := b } }

/-- OFF and ON read back as they are written. -/
theorem double_bytes {lo hi : Byte} (t : Settings) (small : word lo hi < 2) :
    t.bytes 35 = [lo, hi] ↔ t.double = decide (sword lo hi = 1) := by
  change i16 (switchPos t.double) = [lo, hi] ↔ _
  rcases position_two small with ⟨v, e⟩ | ⟨v, e⟩
  all_goals
    rw [e, v]
    cases t.double <;> decide

theorem double_taken {lo hi : Byte} {s : State} (small : word lo hi < 2) (rests : s.bin.meas = none) :
    writeSetting 35 [lo, hi] s = settingReply 35 (s.redoubled (decide (sword lo hi = 1))) .ok := by
  have position : ¬(sword lo hi ≠ 0 ∧ sword lo hi ≠ 1) := by
    rcases position_two small with ⟨v, -⟩ | ⟨v, -⟩ <;> omega
  exact show writeDouble (sword lo hi) s = _ from (if_neg position).trans (if_neg (by rw [rests]; exact Bool.false_ne_true))

theorem redoubled_spec (s : State) (b : Bool) :
    Regranted { s with settings := { s.settings with double := b }, bin := (s.redoubled b).bin } (s.redoubled b)
      ∧ (s.redoubled b).bin = if s.settings.double = b then s.bin else s.bin.uncalibrate := by
  unfold State.redoubled
  by_cases same : s.settings.double = b
  · rw [if_pos same, if_pos same]
    exact ⟨Regranted.refl _, rfl⟩
  · rw [if_neg same, if_neg same]
    obtain ⟨⟨frame, -⟩, bin⟩ :=
      takeBin_gauged (s := { s with settings := { s.settings with double := b } }) (uncalibrate_fullRaised s.bin)
    exact ⟨frame, bin⟩

/-- Settles O27: the curve's rule and reading, then each write by its identifier. -/
theorem groupSettingWritten : Obligations.GroupSettingWritten := by
  refine ⟨derateOk_iff, fun value length => deratePoints_eq 8 value length, ?_⟩
  intro id value dt tag s opens points number good bad taken
  have settings : (s.atHandle dt).settings = s.settings := arrived_settings s .handle dt
  have smp : (s.atHandle dt).smp = s.smp := arrived_smp s .handle dt
  have bin : (s.atHandle dt).bin = s.bin := arrived_bin s .handle dt
  have read {u : Settings} (put : GroupPut id.toNat s.settings u) (own : u.bytes id.toNat = value) {t : State}
      (shown : t.settings = u) : taken t :=
    ⟨shown ▸ own, fun j other => shown ▸ put.bytes_other other⟩
  refine ⟨fun h => ?_, fun h => ?_, ?_, ?_⟩
  · obtain ⟨u, put, own, written, length⟩ := group_taken (s.atHandle dt) h
    rw [settings] at put
    obtain ⟨t, exec_, answered⟩ := row_written (tag := tag) opens length written rfl
    have shown : t.settings = u := (congrArg State.settings answered :)
    rw [own] at answered
    exact ⟨t, exec_, read put own shown, shown ▸ answered⟩
  · obtain ⟨written, length⟩ := group_refused (s.atHandle dt) h
    have row := row_written (tag := tag) opens length written rfl
    rw [settings] at row
    exact row
  · rintro rfl length small
    obtain ⟨u, put, own, written⟩ := autozero_taken (s.atHandle dt) small
    rw [← bytes_two length] at own written
    rw [settings] at put
    obtain ⟨t, exec_, answered⟩ := row_written (id := 1) (tag := tag) opens (congrArg some length.symm) written rfl
    have shown : t.settings = u := (congrArg State.settings answered :)
    rw [smp] at answered
    refine ⟨t, exec_, read put own shown, ?_⟩
    rw [shown, ← own]
    exact answered
  · rintro rfl length small rests
    obtain ⟨lo, hi, rfl⟩ := List.length_eq_two.1 length
    have written := double_taken (s := s.atHandle dt) (lo := lo) (hi := hi) small (by rw [bin]; exact rests)
    obtain ⟨touched, gauge⟩ := redoubled_spec (s.atHandle dt) (decide (sword lo hi = 1))
    rw [settings, bin] at gauge
    generalize (s.atHandle dt).redoubled _ = x at written touched gauge
    have put : GroupPut 35 s.settings x.settings := by
      obtain ⟨_, _, _, _, _, e⟩ := touched
      rw [e, settings]
      exact Or.inr (Or.inr (Or.inr (Or.inr (Or.inr (Or.inl ⟨rfl, _, rfl⟩)))))
    have own : x.settings.bytes 35 = [lo, hi] := by
      obtain ⟨_, _, _, _, _, e⟩ := touched
      rw [e]
      exact (double_bytes _ small).2 rfl
    have switches : x.switches = (s.atHandle dt).switches := touched.switches
    obtain ⟨t, exec_, answered⟩ := row_written (id := 35) (tag := tag) opens rfl written switches
    rw [show (35 : Byte).toNat = 35 from rfl, own] at answered
    obtain ⟨g, rfl⟩ : ∃ g, t = { x.handleAnswers tag .ok [35, lo, hi] with gens := g } := ⟨_, answered⟩
    refine ⟨_, exec_, read put own rfl, gauge.trans (if_congr (double_bytes _ small).symm rfl rfl), ?_, ?_⟩
    · have handle : x.ports.handle = s.ports.handle := by
        obtain ⟨_, _, _, _, _, e⟩ := touched
        rw [e, atHandle_eq]
      exact congrArg (fun port : HandlePort =>
        { port with slot := .serving, buf := frame (statusByte .ok (x.notePending .handle)) tag [35, lo, hi] }) handle
    · obtain ⟨_, _, _, _, _, e⟩ := touched
      rw [e, atHandle_eq]
      rfl

end Sys2Proof.Machine
end

section
/-! PROOFS. The charge controller's entries (08, section 8.3 to 8.5), and the requests of the dock. -/

namespace Sys2Proof.Machine

/-! ## The controller at each entry, but for its order (08 R144 to R153) -/

/-- The controller at entry to PAUSED. -/
def Charger.paused (reason : PauseReason) (c : Charger) : Charger :=
  { c with state := .paused, pauseReason := reason, preTimer := none, balTimer := none, bleeds := Bleeds.off, excess := 0 }

/-- The controller at entry to PRECHARGE. -/
def Charger.precharged (now : Nat) (c : Charger) : Charger := { c with state := .precharge, preTimer := some (now + 1800000000), excess := 0 }

/-- The controller at entry to BULK. -/
def Charger.bulked (c : Charger) : Charger := { c with state := .bulk, preTimer := none, excess := 0 }

/-- `t` is `s` with the controller at an entry, this order current put, and what the change raises (08 R145, section 8.2). -/
def Moved (c : Charger) (current : Nat) (s t : State) : Prop :=
  ChargedTo s.acct (c.ordered current s.now) s t ∧ Standing s t ∧ (s.chg.state ≠ c.state → t.noted .chargeState)
    ∧ (current ≠ c.orderCur → t.dockNoted .orderChanged)

theorem charged_moved {s : State} {c : Charger} {current : Nat} (ceil : c.orderCeil = s.settings.chgVcell)
    (forms : State.formedCurrent { s with chg := c } = current) : Moved c current s (s.charged c s.acct) :=
  charged_spec s.acct ceil forms

theorem pauseCharge_moved {s : State} (reason : PauseReason) (ceil : s.chg.orderCeil = s.settings.chgVcell) :
    Moved (s.chg.paused reason) 0 s (pauseCharge reason s) := by
  have e : pauseCharge reason s = s.charged (s.chg.paused reason) s.acct := by
    unfold pauseCharge State.charged Charger.paused
    simp only [setCharge_chg]
    rw [setCharge_eq]
  rw [e]
  exact charged_moved ceil rfl

theorem beginPrecharge_moved {s : State} (ceil : s.chg.orderCeil = s.settings.chgVcell) :
    Moved (s.chg.precharged s.now) 150 s (beginPrecharge s) := by
  have e : beginPrecharge s = s.charged (s.chg.precharged s.now) s.acct := by
    unfold beginPrecharge State.charged Charger.precharged
    simp only [setCharge_chg]
    rw [setCharge_eq]
    rfl
  rw [e]
  exact charged_moved ceil rfl

theorem beginBulk_moved {s : State} (ceil : s.chg.orderCeil = s.settings.chgVcell) :
    Moved s.chg.bulked s.bulkCurrent s (beginBulk s) := by
  have e : beginBulk s = s.charged s.chg.bulked s.acct := by
    unfold beginBulk State.charged Charger.bulked
    simp only [setCharge_chg]
    rw [setCharge_eq]
  rw [e]
  exact charged_moved ceil rfl

theorem waitIdle_moved {s : State} (ceil : s.chg.orderCeil = s.settings.chgVcell) :
    Moved { s.chg with state := .waitIdle } 0 s (reformOrder (setCharge .waitIdle s)) := by
  have e : reformOrder (setCharge .waitIdle s) = s.charged { s.chg with state := .waitIdle } s.acct := by
    unfold State.charged
    rw [setCharge_eq]
  rw [e]
  exact charged_moved ceil rfl

/-! ## Entry selection (08 R144) -/

/-- The reason for which entry selection pauses, if it does. -/
def State.entryPause (s : State) : Option PauseReason :=
  match s.chg.latest with
  | none => some .scan
  | some v =>
    if 3 ≤ s.smp.invalidCount then some .scan
    else if v.thermFault = true then some .therm
    else if outsideWindow s.settings v.tmin v.tmax = true then some .temp
    else none

theorem entryPause_unheard {s : State} (h : s.chg.latest = none ∨ 3 ≤ s.smp.invalidCount) : s.entryPause = some .scan := by
  unfold State.entryPause
  cases latest : s.chg.latest with
  | none => rfl
  | some v => exact if_pos (h.resolve_left (by rw [latest]; nofun))

theorem entryPause_heard {s : State} {v : LatestValues} (latest : s.chg.latest = some v) (heard : s.smp.invalidCount < 3) :
    s.entryPause
      = if v.thermFault = true then some .therm
        else if outsideWindow s.settings v.tmin v.tmax = true then some .temp
        else none := by
  unfold State.entryPause
  rw [latest]
  exact if_neg (Nat.not_le.2 heard)

theorem entrySelection_eq (s : State) :
    (∀ reason, s.entryPause = some reason → entrySelection s = (arbRelease .charger (pauseCharge reason s)).1)
      ∧ (s.entryPause = none → ∀ v, s.chg.latest = some v →
        entrySelection s = if v.vmin < 3000 then beginPrecharge s else beginBulk s) := by
  unfold State.entryPause entrySelection
  cases s.chg.latest with
  | none => exact ⟨fun reason h => by cases h; rfl, fun h => absurd h nofun⟩
  | some v =>
    dsimp only
    refine ⟨fun reason h => ?_, fun h w latest => ?_⟩
    · repeat' split at h
      all_goals cases h
      · rw [if_pos ‹_›]
      · rw [if_neg ‹_›, if_pos ‹_›]
      · rw [if_neg ‹_›, if_neg ‹_›, if_pos ‹_›]
    · cases latest
      repeat' split at h
      all_goals cases h
      rw [if_neg ‹_›, if_neg ‹_›, if_neg ‹_›]

/-- What entry selection leaves of a state that has just taken the path. -/
def Selected (s t : State) : Prop :=
  (∀ reason, s.entryPause = some reason →
      ∃ u, Moved (s.chg.paused reason) 0 s u ∧ t = { u with arb := { s.arb with path := .idle } })
    ∧ (s.entryPause = none → ∀ v, s.chg.latest = some v →
      (v.vmin < 3000 → Moved (s.chg.precharged s.now) 150 s t) ∧ (3000 ≤ v.vmin → Moved s.chg.bulked s.bulkCurrent s t))

theorem entrySelection_selected {s : State} (path : s.arb.path = .charge) (alone : s.arb.waiting = none)
    (ceil : s.chg.orderCeil = s.settings.chgVcell) : Selected s (entrySelection s) := by
  obtain ⟨pauses, begins⟩ := entrySelection_eq s
  refine ⟨fun reason h => ?_, fun h v latest => ?_⟩
  · have moved := pauseCharge_moved reason ceil
    refine ⟨_, moved, (pauses reason h).trans ?_⟩
    have arb : (pauseCharge reason s).arb = s.arb := (pauseCharge_spec reason s).1
    unfold arbRelease
    rw [if_pos (by rw [arb]; exact path), arb, alone]
  · rw [begins h v latest]
    refine ⟨fun low => ?_, fun high => ?_⟩
    · rw [if_pos low]
      exact beginPrecharge_moved ceil
    · rw [if_neg (Nat.not_lt.2 high)]
      exact beginBulk_moved ceil

/-- A state that entry selection leaves: one of the three entries. -/
theorem Selected.cases {s t : State} (h : Selected s t) :
    ∃ (c : Charger) (current : Nat) (u : State) (path : Path),
      Moved c current s u ∧ t = { u with arb := { s.arb with path := path } }
        ∧ (c.state = .paused ∧ path = .idle ∨ (c.state = .precharge ∨ c.state = .bulk) ∧ path = s.arb.path)
        ∧ c.cap = s.chg.cap ∧ c.helloTimer = s.chg.helloTimer := by
  obtain ⟨pauses, begins⟩ := h
  cases reason : s.entryPause with
  | some reason =>
    obtain ⟨u, moved, e⟩ := pauses _ reason
    exact ⟨_, _, u, _, moved, e, Or.inl ⟨rfl, rfl⟩, rfl, rfl⟩
  | none =>
    cases latest : s.chg.latest with
    | none =>
      rw [entryPause_unheard (Or.inl latest)] at reason
      cases reason
    | some v =>
      obtain ⟨low, high⟩ := begins reason v latest
      have own {c : Charger} {current : Nat} (moved : Moved c current s t) : t = { t with arb := { s.arb with path := s.arb.path } } := by
        obtain ⟨⟨_, _, e⟩, -⟩ := moved
        rw [e]
      by_cases empty : v.vmin < 3000
      · exact ⟨_, _, t, _, low empty, own (low empty), Or.inr ⟨Or.inl rfl, rfl⟩, rfl, rfl⟩
      · exact ⟨_, _, t, _, high (by omega), own (high (by omega)), Or.inr ⟨Or.inr rfl, rfl⟩, rfl, rfl⟩

/-! ## A request for the path (03 R60; 08 R141) -/

/-- The path just taken by the charge controller: a pending shelf entry is cancelled, the deep-discharge timer stopped. -/
def State.pathTaken (s : State) : State := stopDeepTimer (cancelShelf { s with arb := { s.arb with path := .charge, waiting := none } })

theorem pathTaken_eq (s : State) :
    s.pathTaken
      = { s with
          arb := { s.arb with path := .charge, waiting := none }
          ports := { s.ports with handleNotes := s.pathTaken.ports.handleNotes }
          pwr := { s.pwr with entry := .none, deepTimer := none } } := by
  unfold State.pathTaken stopDeepTimer
  rw [cancelShelf_notes]

theorem requestCharge_selected {s : State} (path : s.arb.path = .idle) (ceil : s.chg.orderCeil = s.settings.chgVcell) :
    Selected s.pathTaken (requestCharge s) := by
  rcases requestCharge_cases s with ⟨-, e⟩ | ⟨no, -⟩ | ⟨no, -⟩
  · rw [e]
    refine entrySelection_selected ?_ ?_ ?_
    all_goals rw [pathTaken_eq]
    exact ceil
  · rw [path] at no
    cases no
  · rw [path] at no
    cases no

theorem requestCharge_waits {s : State} (path : s.arb.path = .discharge) (ceil : s.chg.orderCeil = s.settings.chgVcell) :
    Moved { s.chg with state := .waitIdle } 0 { s with arb := { s.arb with waiting := some .charger } } (requestCharge s) := by
  rcases requestCharge_cases s with ⟨no, -⟩ | ⟨no, -⟩ | ⟨-, e⟩
  · rw [path] at no
    cases no
  · rw [path] at no
    cases no
  · rw [e]
    exact waitIdle_moved (s := { s with arb := { s.arb with waiting := some .charger } }) ceil

/-! ## A request whose service may turn a switch -/

/-- A request that passes the port's checks is its owner's, as an event. -/
theorem row_event {k : ReqKind} {link : Link} {dt : Nat} {tag : Byte} {p : List Byte} {s x : State} {c : Status}
    {d : List Byte} (opens : PortOpen link s) (short : p.length ≤ 56) (plain : k ≠ .softReset)
    (passed : portRefusal k link p (s.arrived link dt) = none)
    (owned : ownerServe k link p (s.arrived link dt) = ⟨x, c, d⟩) :
    ∃ t, exec (k.row dt link tag p) s = .next t ∧ NotedEvent (x.answers link tag c d) t := by
  obtain ⟨f, u, exec_, -, served⟩ := exec_row_event k link dt tag p opens short (fun reset => absurd reset plain)
  rcases serve_cases link k tag p (s.arrived link dt) with ⟨_, refused, -⟩ | ⟨-, e⟩
  · rw [passed] at refused
    cases refused
  · rw [e, owned] at served
    exact ⟨_, exec_, served ▸ event_noted f u⟩

/-! ## DOCK_HELLO and ORDER_READ (08 R142, R145, R146) -/

theorem u16?_getD (x : Option Nat) : u16? x = u16 (x.getD 65535) := by
  cases x with
  | none => rfl
  | some n => rfl

/-- The controller with a capability accepted in QUALIFY. -/
def Charger.qualified (cap : Capability) (c : Charger) : Charger := { c with cap := some cap, helloTimer := none }

/-- An accepted capability in QUALIFY asks for the path: no order is in force, and none is formed. -/
theorem acceptHello_qualify {s : State} (cap : Capability) (qualify : s.chg.state = .qualify) (ok : ChargeOk s) :
    acceptHello cap s = requestCharge { s with chg := s.chg.qualified cap } := by
  obtain ⟨current, ceil, -⟩ := ok
  have rests : s.chg.orderCur = 0 := by
    rw [current]
    unfold State.formedCurrent
    rw [qualify]
  have formed : State.formedCurrent { s with chg := s.chg.qualified cap } = s.chg.orderCur := by
    rw [rests]
    unfold State.formedCurrent
    rw [show ({ s with chg := s.chg.qualified cap } : State).chg.state = .qualify from qualify]
  unfold acceptHello
  rw [if_pos qualify]
  refine congrArg requestCharge (if_pos ⟨?_, ?_⟩)
  · exact formed
  · exact ceil.symm

/-- Elsewhere the capability is replaced, and the order formed afresh. -/
theorem acceptHello_elsewhere {s : State} (cap : Capability) (elsewhere : s.chg.state ≠ .qualify) :
    acceptHello cap s = reformOrder { s with chg := { s.chg with cap := some cap } } := if_neg elsewhere

theorem acceptHello_replaced {s : State} (cap : Capability) (elsewhere : s.chg.state ≠ .qualify) (ok : ChargeOk s) :
    ∃ current, ChargedTo s.acct (({ s.chg with cap := some cap } : Charger).ordered current s.now) s (acceptHello cap s)
      ∧ (current ≠ s.chg.orderCur → (acceptHello cap s).dockNoted .orderChanged)
      ∧ (s.chg.state ≠ .bulk → current = s.chg.orderCur)
      ∧ (s.chg.state = .bulk →
        current = (if s.chg.cold = true then min cap.current s.settings.chgI / 2 else min cap.current s.settings.chgI)) := by
  obtain ⟨formed, ceil, -⟩ := ok
  obtain ⟨put, changed⟩ := putOrder_spec (s := { s with chg := { s.chg with cap := some cap } })
    (State.formedCurrent { s with chg := { s.chg with cap := some cap } }) ceil
  obtain ⟨_, _, e⟩ := put
  refine ⟨_, ⟨_, _, (acceptHello_elsewhere cap elsewhere).trans e⟩, fun moved => ?_, fun other => ?_, fun bulk => ?_⟩
  · rw [acceptHello_elsewhere cap elsewhere]
    exact changed moved
  · refine Eq.trans ?_ formed.symm
    unfold State.formedCurrent
    dsimp only
    split
    case h_2 bulk => exact absurd bulk other
    all_goals rfl
  · unfold State.formedCurrent
    dsimp only
    rw [bulk]
    exact bulkCurrent_eq _

theorem serveDockHello_refused {ilo ihi vlo vhi : Byte} {s : State} (h : s.chg.state = .absent ∨ s.chg.state = .fault) :
    serveDockHello [ilo, ihi, vlo, vhi] s = dockReply s .state := if_pos h

theorem serveDockHello_low {ilo ihi vlo vhi : Byte} {s : State} (h : ¬(s.chg.state = .absent ∨ s.chg.state = .fault))
    (low : word vlo vhi < 7 * s.settings.chgVcell + 1000) :
    serveDockHello [ilo, ihi, vlo, vhi] s = dockReply s .badArg := (if_neg h).trans (if_pos low)

theorem serveDockHello_accepted {ilo ihi vlo vhi : Byte} {s : State} (h : ¬(s.chg.state = .absent ∨ s.chg.state = .fault))
    (enough : 7 * s.settings.chgVcell + 1000 ≤ word vlo vhi) :
    serveDockHello [ilo, ihi, vlo, vhi] s
      = dockReply (acceptHello ⟨max 500 (min 4000 (word ilo ihi)), word vlo vhi⟩ s)
        (if 500 ≤ word ilo ihi ∧ word ilo ihi ≤ 4000 then .ok else .clamped) := by
  have code : okOrClamped (max 500 (min 4000 (word ilo ihi)) != word ilo ihi)
      = (if 500 ≤ word ilo ihi ∧ word ilo ihi ≤ 4000 then Status.ok else .clamped) := by
    unfold okOrClamped
    by_cases within_ : 500 ≤ word ilo ihi ∧ word ilo ihi ≤ 4000
    · rw [if_pos within_, show max 500 (min 4000 (word ilo ihi)) = word ilo ihi by omega, bne_self_eq_false]
      rfl
    · rw [if_neg within_, if_pos (bne_iff_ne.2 (by omega))]
  refine (if_neg h).trans ((if_neg (Nat.not_lt.2 enough)).trans ?_)
  rw [← code]

/-- `x` is `s` but for the path, the controller, the notices and the shelf entry. -/
def ByHello (s x : State) : Prop :=
  ∃ (path : Path) (waiting : Option Side) (c : Charger) (h : BitVec 15) (d : BitVec 3) (entry : ShelfEntry) (deep : Option Nat),
    x = { s with
      arb := { s.arb with path := path, waiting := waiting }, chg := c
      ports := { s.ports with handleNotes := h, dockNotes := d }, pwr := { s.pwr with entry := entry, deepTimer := deep } }

theorem ByHello.trans {s t u : State} (h : ByHello s t) (k : ByHello t u) : ByHello s u := by
  obtain ⟨_, _, _, _, _, _, _, rfl⟩ := h
  obtain ⟨_, _, _, _, _, _, _, rfl⟩ := k
  exact ⟨_, _, _, _, _, _, _, rfl⟩

theorem Moved.byHello {c : Charger} {current : Nat} {s t : State} (h : Moved c current s t) : ByHello s t := by
  obtain ⟨⟨_, _, rfl⟩, -⟩ := h
  exact ⟨_, _, _, _, _, _, _, rfl⟩

theorem Selected.byHello {s t : State} (h : Selected s t) : ByHello s t := by
  obtain ⟨_, _, u, _, moved, rfl, -⟩ := h.cases
  obtain ⟨⟨_, _, rfl⟩, -⟩ := moved
  exact ⟨_, _, _, _, _, _, _, rfl⟩

theorem Moved.frame {c : Charger} {current : Nat} {s t : State} (h : Moved c current s t) :
    t.chg = c.ordered current s.now ∧ t.arb = s.arb ∧ t.pwr = s.pwr := by
  obtain ⟨⟨_, _, rfl⟩, -⟩ := h
  exact ⟨rfl, rfl, rfl⟩

theorem Selected.pauses {s t : State} {reason : PauseReason} (h : Selected s t) (pause : s.entryPause = some reason) :
    t.chg.state = .paused ∧ t.chg.pauseReason = reason ∧ t.arb.path = .idle ∧ t.chg.orderCur = 0 := by
  obtain ⟨u, moved, rfl⟩ := h.1 reason pause
  obtain ⟨chg, -, -⟩ := moved.frame
  refine ⟨?_, ?_, rfl, ?_⟩
  all_goals
    dsimp only
    rw [chg]
    rfl

theorem Selected.kept {s t : State} (h : Selected s t) : t.pwr = s.pwr ∧ t.arb.waiting = s.arb.waiting := by
  obtain ⟨_, _, u, _, moved, rfl, -⟩ := h.cases
  exact ⟨moved.frame.2.2, rfl⟩

theorem outsideWindow_exists (t : Settings) (tmin tmax : Option Int) :
    outsideWindow t tmin tmax = true ↔ (∃ x, tmin = some x ∧ x < t.chgTlo) ∨ ∃ x, tmax = some x ∧ t.chgThi < x := by
  unfold outsideWindow
  cases tmin <;> cases tmax <;> simp

/-- The outcomes of entry selection, one by one, with the path taken. -/
theorem Selected.outcomes {s t : State} (h : Selected s t) (path : s.arb.path = .charge) (rests : s.chg.orderCur = 0) :
    (s.chg.latest = none ∨ 3 ≤ s.smp.invalidCount →
        t.chg.state = .paused ∧ t.chg.pauseReason = .scan ∧ t.arb.path = .idle ∧ t.chg.orderCur = 0)
      ∧ ∀ v, s.chg.latest = some v → s.smp.invalidCount < 3 →
        let outside := (∃ x, v.tmin = some x ∧ x < s.settings.chgTlo) ∨ ∃ x, v.tmax = some x ∧ s.settings.chgThi < x
        (v.thermFault = true → t.chg.state = .paused ∧ t.chg.pauseReason = .therm ∧ t.arb.path = .idle ∧ t.chg.orderCur = 0)
          ∧ (v.thermFault = false → outside →
            t.chg.state = .paused ∧ t.chg.pauseReason = .temp ∧ t.arb.path = .idle ∧ t.chg.orderCur = 0)
          ∧ (v.thermFault = false → ¬outside → v.vmin < 3000 →
            t.chg.state = .precharge ∧ t.arb.path = .charge ∧ t.chgg = true ∧ t.chg.orderCur = 150
              ∧ t.chg.preTimer = some (s.now + 1800000000) ∧ t.dockNoted .orderChanged)
          ∧ (v.thermFault = false → ¬outside → 3000 ≤ v.vmin →
            t.chg.state = .bulk ∧ t.arb.path = .charge ∧ t.chgg = true ∧ t.chg.preTimer = none ∧ t.chg.orderCur = s.bulkCurrent) := by
  refine ⟨fun unheard => h.pauses (entryPause_unheard unheard), fun v latest heard => ?_⟩
  intro outside
  have pause := entryPause_heard latest heard
  have outside_iff := outsideWindow_exists s.settings v.tmin v.tmax
  refine ⟨fun faulty => h.pauses ?_, fun sound out => h.pauses ?_, fun sound inside empty => ?_, fun sound inside enough => ?_⟩
  · rw [pause, if_pos faulty]
  · rw [pause, sound, if_neg Bool.false_ne_true, if_pos (outside_iff.2 out)]
  · rw [sound, if_neg Bool.false_ne_true, if_neg fun no => inside (outside_iff.1 no)] at pause
    have moved := (h.2 pause v latest).1 empty
    obtain ⟨chg, arb, -⟩ := moved.frame
    refine ⟨by rw [chg]; rfl, by rw [arb]; exact path, ?_, by rw [chg]; rfl, by rw [chg]; rfl, moved.2.2.2 ?_⟩
    · unfold State.chgg
      rw [chg, arb, path]
      rfl
    · rw [show (s.chg.precharged s.now).orderCur = 0 from rests]
      decide
  · rw [sound, if_neg Bool.false_ne_true, if_neg fun no => inside (outside_iff.1 no)] at pause
    have moved := (h.2 pause v latest).2 enough
    obtain ⟨chg, arb, -⟩ := moved.frame
    refine ⟨by rw [chg]; rfl, by rw [arb]; exact path, ?_, by rw [chg]; rfl, by rw [chg]; rfl⟩
    unfold State.chgg
    rw [chg, arb, path]
    rfl

/-- What an accepted DOCK_HELLO in QUALIFY leaves behind the motor: the request waits. -/
theorem acceptHello_waits {s : State} (cap : Capability) (qualify : s.chg.state = .qualify) (ok : ChargeOk s)
    (path : s.arb.path = .discharge) :
    Moved { s.chg.qualified cap with state := .waitIdle } 0
      { s with chg := s.chg.qualified cap, arb := { s.arb with waiting := some .charger } } (acceptHello cap s) := by
  rw [acceptHello_qualify cap qualify ok]
  exact requestCharge_waits (s := { s with chg := s.chg.qualified cap }) path ok.2.1

/-- What it leaves with the path free: entry selection. -/
theorem acceptHello_selects {s : State} (cap : Capability) (qualify : s.chg.state = .qualify) (ok : ChargeOk s)
    (path : s.arb.path = .idle) :
    Selected ({ s with chg := s.chg.qualified cap } : State).pathTaken (acceptHello cap s) := by
  rw [acceptHello_qualify cap qualify ok]
  exact requestCharge_selected (s := { s with chg := s.chg.qualified cap }) path ok.2.1

/-- An accepted DOCK_HELLO in QUALIFY: what holds whoever has the path. -/
theorem acceptHello_spec {s : State} (cap : Capability) (qualify : s.chg.state = .qualify) (ok : ChargeOk s) (paths : PathOk s) :
    ByHello s (acceptHello cap s) ∧ (acceptHello cap s).chg.cap = some cap ∧ (acceptHello cap s).chg.helloTimer = none
      ∧ (acceptHello cap s).noted .chargeState := by
  cases path : s.arb.path with
  | idle =>
    have selected := acceptHello_selects cap qualify ok path
    have base := pathTaken_eq { s with chg := s.chg.qualified cap }
    obtain ⟨c, current, u, free, moved, e, entry, capped, timed⟩ := selected.cases
    have frame : ByHello s ({ s with chg := s.chg.qualified cap } : State).pathTaken := by
      rw [base]
      exact ⟨_, _, _, _, _, _, _, rfl⟩
    rw [base] at capped timed
    refine ⟨frame.trans selected.byHello, ?_, ?_, ?_⟩
    · rw [e]
      dsimp only
      rw [moved.frame.1]
      exact capped
    · rw [e]
      dsimp only
      rw [moved.frame.1]
      exact timed
    · have leaves : ({ s with chg := s.chg.qualified cap } : State).pathTaken.chg.state ≠ c.state := by
        rw [base, show ({ s with chg := s.chg.qualified cap } : State).chg.state = .qualify from qualify]
        rcases entry with ⟨state, -⟩ | ⟨state | state, -⟩ <;> rw [state] <;> decide
      have noted := moved.2.2.1 leaves
      rw [e]
      exact noted
  | discharge =>
    have moved := acceptHello_waits cap qualify ok path
    refine ⟨ByHello.trans ⟨_, _, _, _, _, _, _, rfl⟩ moved.byHello, ?_, ?_, moved.2.2.1 ?_⟩
    · rw [moved.frame.1]
      rfl
    · rw [moved.frame.1]
      rfl
    · exact fun no => absurd (qualify.symm.trans no) nofun
  | charge =>
    have charging := paths.2.1.1 path
    rw [qualify] at charging
    cases charging

/-- Settles O55: the refusals, the accepted DOCK_HELLO in QUALIFY and elsewhere, and ORDER_READ. -/
theorem dockRequests : Obligations.DockRequests := by
  intro ilo ihi vlo vhi dt tag s opens path charge s' asked cap code said hello low answered kept
  have state : s'.chg = s.chg := rfl
  have found : s.arrived .dock dt = s' := rfl
  have dock : permitted .dock .dockHello = true := rfl
  have spoken (t : State) (c : Status) : dockReply t c = ⟨t, c, said t⟩ := by
    unfold dockReply
    rw [u16?_getD]
    rfl
  have turned {c : Status} (served : serveDockHello [ilo, ihi, vlo, vhi] s' = dockReply s' c) :
      ∃ t, exec hello s = .next t ∧ SameButGens t (s'.wireAnswers .dock tag c (said s)) :=
    row_served (k := .dockHello) (link := .dock) (x := s') opens rfl (by decide) nofun rfl (served.trans (spoken s' c)) rfl
  have accepted (present : ¬(s.chg.state = .absent ∨ s.chg.state = .fault)) (enough : low ≤ word vlo vhi) :
      ∃ t, exec hello s = .next t
        ∧ NotedEvent ((acceptHello cap s').wireAnswers .dock tag code (said (acceptHello cap s'))) t := by
    refine row_event (k := .dockHello) (link := .dock) opens (by decide : 4 ≤ 56) (by decide)
      (portRefusal_passes rfl nofun nofun rfl rfl) ?_
    exact (serveDockHello_accepted (s := s') (ilo := ilo) (ihi := ihi) present enough).trans (spoken _ _)
  have framed {t x : State} (byHello : ByHello s' x) (noted : NotedEvent (x.wireAnswers .dock tag code (said x)) t) :
      answered t ∧ kept t := by
    obtain ⟨g, m, rfl⟩ := noted
    obtain ⟨_, _, _, _, _, _, _, e⟩ := byHello
    exact ⟨⟨rfl, rfl⟩, by rw [e]; rfl⟩
  have charge' : ChargeOk s' := charge
  refine ⟨fun h => turned (serveDockHello_refused h), fun absent fault h => turned (serveDockHello_low (not_or.2 ⟨absent, fault⟩) h),
    fun qualify enough => ?_, fun absent fault elsewhere enough => ?_, fun absent => ?_, fun present => ?_⟩
  · obtain ⟨t, exec_, noted⟩ := accepted (by rw [qualify]; decide) enough
    obtain ⟨byHello, capped, timed, changed⟩ := acceptHello_spec (s := s') cap qualify charge' path
    have waits := acceptHello_waits (s := s') cap qualify charge'
    have selects := acceptHello_selects (s := s') cap qualify charge'
    obtain ⟨told, keeps⟩ := framed byHello noted
    obtain ⟨g, m, rfl⟩ := noted
    generalize acceptHello cap s' = x at *
    refine ⟨_, exec_, told, keeps, capped, timed, changed, fun behind => ?_, fun free => ?_⟩
    · obtain ⟨chg, arb, -⟩ := (waits behind).frame
      refine ⟨congrArg Charger.state chg, ?_, ?_, congrArg Charger.orderCur chg⟩
      · exact (congrArg Arbiter.path arb).trans behind
      · exact congrArg Arbiter.waiting arb
    · have selected : Selected ({ s' with chg := s.chg.qualified cap } : State).pathTaken x := selects free
      have base := pathTaken_eq ({ s' with chg := s.chg.qualified cap } : State)
      generalize ({ s' with chg := s.chg.qualified cap } : State).pathTaken = y at selected base
      obtain ⟨pwr, waiting⟩ := selected.kept
      have ypwr : y.pwr = { s.pwr with entry := .none, deepTimer := none } := (congrArg State.pwr base :)
      have yarb : y.arb = { s.arb with path := .charge, waiting := none } := (congrArg State.arb base :)
      have ychg : y.chg = s.chg.qualified cap := (congrArg State.chg base :)
      have rests : s.chg.orderCur = 0 := by
        rw [charge.1]
        unfold State.formedCurrent
        rw [qualify]
      obtain ⟨unheard_, heard_⟩ := selected.outcomes (congrArg Arbiter.path yarb) ((congrArg Charger.orderCur ychg).trans rests)
      rw [show y.smp = s.smp from (congrArg State.smp base :),
        show y.chg.latest = s.chg.latest from (congrArg Charger.latest ychg :)] at unheard_ heard_
      rw [show y.settings = s.settings from (congrArg State.settings base :),
        show y.now = s.now + dt from (congrArg State.now base :)] at heard_
      refine ⟨(congrArg Power.entry (pwr.trans ypwr) :), (congrArg Power.deepTimer (pwr.trans ypwr) :),
        waiting.trans (congrArg Arbiter.waiting yarb), unheard_, fun v latest heard => ?_⟩
      obtain ⟨therm, temp, low_, high⟩ := heard_ v latest heard
      refine ⟨therm, temp, low_, fun sound inside enough => ?_⟩
      obtain ⟨state, path_, on, timer, current⟩ := high sound inside enough
      refine ⟨state, path_, on, timer, current.trans ?_⟩
      rw [bulkCurrent_eq, ychg, show y.settings = s.settings from (congrArg State.settings base :)]
      rfl
  · obtain ⟨t, exec_, noted⟩ := accepted (not_or.2 ⟨absent, fault⟩) enough
    obtain ⟨current, put, changed, stays, bulk⟩ := acceptHello_replaced (s := s') cap elsewhere charge'
    generalize acceptHello cap s' = x at *
    have byHello : ByHello s' x := by
      obtain ⟨_, _, e⟩ := put
      rw [e]
      exact ⟨_, _, _, _, _, _, _, rfl⟩
    obtain ⟨told, keeps⟩ := framed byHello noted
    have chg : x.chg = ({ s.chg with cap := some cap } : Charger).ordered current s'.now := by
      obtain ⟨_, _, e⟩ := put
      rw [e]
      rfl
    have arb : x.arb = s.arb := by
      obtain ⟨_, _, e⟩ := put
      rw [e]
      rfl
    obtain ⟨g, m, rfl⟩ := noted
    have cur : x.chg.orderCur = current := congrArg Charger.orderCur chg
    have own : x.chg
        = { s.chg with
            cap := some cap, orderCur := x.chg.orderCur, orderNum := x.chg.orderNum, unreadSince := x.chg.unreadSince } := by
      rw [chg]
      rfl
    have num : x.chg.orderNum = (if current = s.chg.orderCur then s.chg.orderNum else (s.chg.orderNum + 1) % 256) :=
      congrArg Charger.orderNum chg
    have since : x.chg.unreadSince
        = (if current = s.chg.orderCur then s.chg.unreadSince else some (s.chg.unreadSince.getD (s.now + dt))) :=
      congrArg Charger.unreadSince chg
    refine ⟨_, exec_, told, keeps, own, congrArg Arbiter.path arb, congrArg Arbiter.waiting arb, fun other => cur.trans (stays other),
      fun h => cur.trans (bulk h), fun same => ?_, fun moved => ?_⟩
    · have still : current = s.chg.orderCur := cur.symm.trans same
      exact ⟨num.trans (if_pos still), since.trans (if_pos still)⟩
    · have moves : current ≠ s.chg.orderCur := fun same => moved (cur.trans same)
      exact ⟨num.trans (if_neg moves), changed moves, since.trans (if_neg moves)⟩
  · refine row_served (k := .orderRead) (link := .dock) (x := s') opens rfl (by decide) nofun rfl (if_pos absent) rfl
  · refine row_served (k := .orderRead) (link := .dock) opens rfl (by decide) nofun rfl ((if_neg present).trans ?_) ?_
    · rfl
    · rfl

end Sys2Proof.Machine
end

section
/-! PROOFS. The charge account at a scan: the statement asks for no condition on the state, and there are states that refute it. -/

namespace Sys2Proof.Machine

/-! ## A state in which charger and motor both hold the path (no run reaches it: `PathOk` fails) -/

/-- A valid scan: cells at 4251 mV, the motor thermistor SHORT. -/
def hotOverCells : ScanCodes := ⟨3483, 3483, 3483, 3483, 3483, 3483, 3483, 2048, 0, 1800, 1800, 100, 0, 2048, 1024, 2975⟩

/-- The motor runs and the controller, its request waiting, stands in PRECHARGE; learning is armed and a scan is in progress. -/
def chargingBehindMotor : State :=
  { State.reset with
    smp := { State.reset.smp with phase := .running 0 true }
    arb := { State.reset.arb with path := .discharge, waiting := some .charger }
    suc := { State.reset.suc with state := .running, pressed := true, enableAsked := true }
    acct := { State.reset.acct with learning := true }
    chg := { State.reset.chg with state := .precharge } }

/-- CELL_OVER disarms learning, and the path that the motor's fault of the same scan hands on takes the controller out of FAULT. -/
theorem chargingBehindMotor_scan :
    ∃ t, exec (.scanCompletion hotOverCells) chargingBehindMotor = .next t ∧ t.chg.state = .bulk ∧ t.acct.learning = false :=
  ⟨_, rfl, by decide, by decide⟩

/-- Refutes O47: learning ends though the controller is found in BULK, neither at a FAULT nor at a DONE that it was not in. -/
theorem not_chargeIsConserved : ¬ Obligations.ChargeIsConserved := by
  intro h
  obtain ⟨-, -, scans⟩ := h
  obtain ⟨t, exec_, state, disarmed⟩ := chargingBehindMotor_scan
  obtain ⟨u, r, exec', -, -, -, -, -, stands⟩ := scans chargingBehindMotor 0 true hotOverCells rfl
  obtain rfl : t = u := by
    rw [exec_] at exec'
    exact Host.Outcome.next.inj exec'
  have account := stands (by rw [state]; decide) (fun no => absurd (state.symm.trans no) nofun)
    (fun no => absurd (state.symm.trans no) nofun)
  have armed := disarmed.symm.trans (congrArg Account.learning account)
  dsimp only at armed
  rw [if_pos rfl] at armed
  repeat' split at armed
  all_goals exact Bool.false_ne_true armed

end Sys2Proof.Machine
end

section
/-! PROOFS. A scan completion (01 R19): what the exchanges of the charge controller with the motor touch, and the frame of the whole. -/

namespace Sys2Proof.Machine

/-! ## What an exchange of path, motor and charger touches -/

/-- The brush demand and its grant stand, or are formed anew from a demand that stands. -/
def BrushFair (s t : State) : Prop :=
  (t.arb.dh = s.arb.dh ∧ t.arb.gh = s.arb.gh) ∨ (t.arb.dh = s.demandH ∧ t.arb.gh = s.grantH)

theorem BrushFair.of_eq {s t : State} (h : t.arb = s.arb) : BrushFair s t := Or.inl (by rw [h]; exact ⟨rfl, rfl⟩)

theorem recompute_brushFair (s : State) : BrushFair s (recompute s) := Or.inr (by rw [recompute_arb]; exact ⟨rfl, rfl⟩)

/-- `t` is `s` but for grants and path, the regulator, the wand-off timer, dirt monitor, gauge, account and controller, a shelf entry, the
notices, which are only raised, and the choices made; the deep-discharge timer may move under `k` alone, the wand-off timer with the
wand powered alone. -/
def ByExchange (k : Prop) (s t : State) : Prop :=
  Standing s t ∧ BrushFair s t
    ∧ ∃ (a : Arbiter) (u : Suction) (off : Option Nat) (m : Dirt) (b : Bin) (q : Account) (c : Charger) (n : Nat) (h : BitVec 15)
      (w : BitVec 1) (d : BitVec 3) (e : ShelfEntry) (deep : Option Nat),
      (deep = s.pwr.deepTimer ∨ k) ∧ (off = s.head.wandOff ∨ s.head.wand = true)
        ∧ t = { s with
            arb := { a with suction := s.arb.suction, brush := s.arb.brush, free := s.arb.free }
            suc := u, head := { s.head with wandOff := off }, dirt := m, bin := b, acct := q, chg := c, choices := n
            ports := { s.ports with handleNotes := h, wandNotes := w, dockNotes := d }
            pwr := { s.pwr with entry := e, deepTimer := deep } }

theorem ByExchange.refl (s : State) : ByExchange False s s :=
  ⟨Standing.refl s, Or.inl ⟨rfl, rfl⟩, s.arb, _, _, _, _, _, _, _, _, _, _, _, _, Or.inl rfl, Or.inl rfl, rfl⟩

theorem ByExchange.mono {k l : Prop} {s t : State} (h : ByExchange k s t) (weaker : k → l) : ByExchange l s t := by
  obtain ⟨stands, brush, a, _, _, _, _, _, _, _, _, _, _, _, _, deep, off, e⟩ := h
  exact ⟨stands, brush, a, _, _, _, _, _, _, _, _, _, _, _, _, deep.imp_right weaker, off, e⟩

theorem ByExchange.trans {k : Prop} {s t u : State} (h : ByExchange k s t) (i : ByExchange k t u) : ByExchange k s u := by
  obtain ⟨first, brush, _, _, _, _, _, _, _, _, _, _, _, _, _, deep, off, rfl⟩ := h
  obtain ⟨second, brush', a, _, _, _, _, _, _, _, _, _, _, _, _, deep', off', rfl⟩ := i
  refine ⟨first.trans second, ?_, a, _, _, _, _, _, _, _, _, _, _, _, _, ?_, ?_, rfl⟩
  · rcases brush' with ⟨dh, gh⟩ | anew
    · unfold BrushFair at brush ⊢
      rw [dh, gh]
      exact brush
    · exact Or.inr anew
  · rcases deep' with same | moved
    · rw [same]
      exact deep
    · exact Or.inr moved
  · rcases off' with same | powered
    · rw [same]
      exact off
    · exact Or.inr powered

theorem ByMotor.byExchange {s t : State} (h : ByMotor s t) (stands : Standing s t) (brush : BrushFair s t) : ByExchange False s t := by
  obtain ⟨a, _, _, _, _, _, _, _, rfl⟩ := h
  exact ⟨stands, brush, a, _, _, _, _, _, _, _, _, _, _, _, _, Or.inl rfl, Or.inl rfl, rfl⟩

theorem ByCharger.byExchange {s t : State} (h : ByCharger s t) (stands : Standing s t) : ByExchange False s t := by
  refine h.byMotor.byExchange stands ?_
  obtain ⟨_, _, _, _, _, rfl⟩ := h
  exact Or.inl ⟨rfl, rfl⟩

theorem ByExchange.suc (s : State) (u : Suction) : ByExchange False s { s with suc := u } :=
  (suc_byMotor s u).byExchange (Standing.of_eq rfl rfl) (BrushFair.of_eq rfl)

theorem ByExchange.chg (s : State) (c : Charger) : ByExchange False s { s with chg := c } :=
  (ByCharger.chg s c).byExchange (Standing.of_eq rfl rfl)

theorem ByExchange.acct (s : State) (q : Account) : ByExchange False s { s with acct := q } :=
  ⟨Standing.of_eq rfl rfl, Or.inl ⟨rfl, rfl⟩, s.arb, _, _, _, _, _, _, _, _, _, _, _, _, Or.inl rfl, Or.inl rfl, rfl⟩

theorem ByExchange.chgAcct (s : State) (c : Charger) (q : Account) : ByExchange False s { s with chg := c, acct := q } :=
  ⟨Standing.of_eq rfl rfl, Or.inl ⟨rfl, rfl⟩, s.arb, _, _, _, _, _, _, _, _, _, _, _, _, Or.inl rfl, Or.inl rfl, rfl⟩

theorem ByExchange.path (s : State) (p : Path) (w : Option Side) : ByExchange False s { s with arb := { s.arb with path := p, waiting := w } } :=
  ByCharger.byExchange ⟨_, _, _, _, _, rfl⟩ (Standing.of_eq rfl rfl)

theorem raiseHandle_byExchange (n : HandleNotice) (s : State) : ByExchange False s (raiseHandle n s) :=
  (raiseHandle_byMotor n s).byExchange (raiseHandle_standing n s) (BrushFair.of_eq rfl)

theorem raiseDock_byExchange (n : DockNotice) (s : State) : ByExchange False s (raiseDock n s) :=
  ByCharger.byExchange ⟨_, _, _, _, _, rfl⟩ (raiseDock_standing n s)

theorem recompute_byExchange (s : State) : ByExchange False s (recompute s) :=
  (recompute_byMotor s).byExchange (recompute_standing s) (recompute_brushFair s)

theorem setCharge_byExchange (st : ChargeState) (s : State) : ByExchange False s (setCharge st s) :=
  (setCharge_byCharger st s).byExchange (setCharge_standing st s)

theorem putOrder_byExchange (current ceil : Nat) (s : State) : ByExchange False s (putOrder current ceil s) :=
  (putOrder_byCharger current ceil s).byExchange (putOrder_standing current ceil s)

theorem reformOrder_byExchange (s : State) : ByExchange False s (reformOrder s) := putOrder_byExchange _ _ s

theorem cancelShelf_byExchange (s : State) : ByExchange False s (cancelShelf s) := by
  refine ⟨cancelShelf_standing s, ?_⟩
  rw [cancelShelf_notes]
  exact ⟨BrushFair.of_eq rfl, s.arb, _, _, _, _, _, _, _, _, _, _, _, _, Or.inl rfl, Or.inl rfl, rfl⟩

theorem stopDeepTimer_byExchange (s : State) : ByExchange True s (stopDeepTimer s) :=
  ⟨Standing.of_eq rfl rfl, Or.inl ⟨rfl, rfl⟩, s.arb, _, _, _, _, _, _, _, _, _, _, _, _, Or.inr trivial, Or.inl rfl, rfl⟩

theorem arbRelease_byExchange (side : Side) (s : State) : ByExchange False s (arbRelease side s).1 := by
  refine (arbRelease_byCharger side s).byExchange ?_
  rcases arbRelease_cases side s with ⟨-, e⟩ | ⟨-, -, e⟩ | ⟨_, -, -, e⟩ <;> rw [e]
  · exact Standing.refl s
  · exact Standing.of_eq rfl rfl
  · exact Standing.of_eq rfl rfl

theorem arbWithdraw_byExchange (side : Side) (s : State) : ByExchange False s (arbWithdraw side s) := by
  rcases arbWithdraw_cases side s with ⟨-, e⟩ | ⟨-, e⟩ <;> rw [e]
  · exact ByExchange.path s _ _
  · exact ByExchange.refl s

/-! ## The charger takes the path, or releases it -/

theorem entrySelection_byExchange (s : State) : ByExchange False s (entrySelection s) := by
  rcases entrySelection_cases s with ⟨reason, e⟩ | e | e <;> rw [e]
  · exact ((pauseCharge_byCharger reason s).byExchange (pauseCharge_standing reason s)).trans (arbRelease_byExchange _ _)
  · exact (beginPrecharge_byCharger s).byExchange (beginPrecharge_standing s)
  · exact (beginBulk_byCharger s).byExchange (beginBulk_standing s)

theorem chargeTaken_byExchange (s : State) : ByExchange False s (chargeTaken s) := by
  unfold chargeTaken
  split
  · exact arbRelease_byExchange _ s
  · exact entrySelection_byExchange s

theorem releaseSuction_byExchange (s : State) : ByExchange False s (releaseSuction s) := by
  rcases releaseSuction_cases s with ⟨-, e⟩ | ⟨-, -, e⟩ | ⟨-, -, e⟩ | ⟨-, -, e⟩ <;> rw [e]
  · exact ByExchange.refl s
  · exact ByExchange.path s _ _
  · exact ByExchange.path s _ _
  · exact (ByExchange.path s _ _).trans (chargeTaken_byExchange _)

theorem abortMeasurement_byExchange (s : State) : ByExchange False s (abortMeasurement s) := by
  obtain ⟨frame, stands, -, -, arb, -⟩ := abortMeasurement_spec s
  exact frame.byExchange stands (BrushFair.of_eq arb)

theorem autoMeasure_byExchange (s : State) : ByExchange False s (autoMeasure s) := by
  unfold autoMeasure
  split
  · exact ByMotor.byExchange ⟨s.arb, _, _, _, _, _, _, _, rfl⟩ (Standing.of_eq rfl rfl) (BrushFair.of_eq rfl)
  · exact ByExchange.refl s

theorem enterStarting_byExchange (s : State) : ByExchange False s (enterStarting s) := by
  unfold enterStarting
  dsimp only
  refine (ByExchange.suc s (s.suc.toStarting s.now)).trans ?_
  split
  · exact (abortMeasurement_byExchange _).trans (recompute_byExchange _)
  · exact recompute_byExchange _

theorem passThrough_byExchange (s : State) : ByExchange False s (passThrough s) := by
  unfold passThrough
  dsimp only
  refine ByExchange.trans ?_ ?_ (t := autoMeasure (recompute (arbRelease .suction { s with suc := (s.suc.toStarting s.now).toStopped }).1))
  · exact (ByExchange.suc s _).trans ((arbRelease_byExchange _ _).trans ((recompute_byExchange _).trans (autoMeasure_byExchange _)))
  · split
    · exact raiseHandle_byExchange _ _
    · exact ByExchange.refl _

theorem suctionTaken_byExchange (s : State) : ByExchange False s (suctionTaken s) := by
  unfold suctionTaken
  split
  · exact enterStarting_byExchange s
  · split
    · exact enterStarting_byExchange s
    · exact passThrough_byExchange s
  · exact ByExchange.refl s

theorem releaseCharge_byExchange (s : State) : ByExchange False s (releaseCharge s) := by
  rcases releaseCharge_cases s with ⟨-, e⟩ | ⟨-, -, e⟩ | ⟨-, -, e⟩ | ⟨-, -, e⟩ <;> rw [e]
  · exact ByExchange.refl s
  · exact ByExchange.path s _ _
  · exact ByExchange.path s _ _
  · exact (ByExchange.path s _ _).trans (suctionTaken_byExchange _)

theorem requestCharge_byExchange (s : State) : ByExchange True s (requestCharge s) := by
  rcases requestCharge_cases s with ⟨-, e⟩ | ⟨-, e⟩ | ⟨-, e⟩ <;> rw [e]
  · exact ((ByExchange.path s _ _).mono nofun).trans (((cancelShelf_byExchange _).mono nofun).trans
      ((stopDeepTimer_byExchange _).trans ((entrySelection_byExchange _).mono nofun)))
  · exact (ByExchange.refl s).mono nofun
  · exact ((ByExchange.path s _ _).trans ((setCharge_byExchange _ _).trans (reformOrder_byExchange _))).mono nofun

/-! ## The end of a run that the lock alone held (04 R68, R69) -/

theorem runRequest_byCharger {s t : State} (h : ByCharger s t) : t.runRequest = s.runRequest := by
  obtain ⟨_, _, _, _, _, rfl⟩ := h
  rfl

theorem recompute_runRequest (s : State) : (recompute s).runRequest = s.runRequest := by
  unfold State.runRequest
  rw [recompute_suc, takeGrant_frame]

theorem endStopping_byExchange {s : State} (absent : s.runRequest = false) : ByExchange False s (endStopping s) := by
  have none_ : (recompute (releaseSuction { s with suc := s.suc.toStopped })).runRequest = false := by
    rw [recompute_runRequest, runRequest_byCharger (releaseSuction_byCharger _)]
    exact absent
  unfold endStopping afterStopped
  rw [none_]
  exact (ByExchange.suc s _).trans ((releaseSuction_byExchange _).trans ((recompute_byExchange _).trans (autoMeasure_byExchange _)))

theorem stopping_byExchange (s : State) : ByExchange False s s.stopping :=
  ⟨Standing.of_eq rfl rfl, Or.inl ⟨rfl, rfl⟩, s.arb, _, _, _, _, _, _, _, _, _, _, _, _, Or.inl rfl, Or.inl rfl, rfl⟩

theorem enterStopping_byExchange {s : State} (absent : s.runRequest = false) : ByExchange False s (enterStopping s) := by
  have e : enterStopping s
      = if s.stopping.suc.speed < 5000 ∨ s.stopping.suc.enableAsked = false then endStopping s.stopping else recompute s.stopping := by
    unfold enterStopping
    dsimp only
    rw [leaveRunning_eq]
    rfl
  rw [e]
  refine (stopping_byExchange s).trans ?_
  split
  · exact endStopping_byExchange absent
  · exact recompute_byExchange _

theorem runEnded_byExchange (s : State) : ByExchange False s s.runEnded := by
  have timer : ByExchange False s { s with head := s.head.runEnd s.now } := by
    rw [runEnd_wandOff]
    refine ⟨Standing.of_eq rfl rfl, BrushFair.of_eq rfl, s.arb, _, _, _, _, _, _, _, _, _, _, _, _, Or.inl rfl, ?_, rfl⟩
    by_cases wand : s.head.wand = true
    · exact Or.inr wand
    · exact Or.inl (if_neg wand)
  exact timer.trans (recompute_byExchange { s with head := s.head.runEnd s.now })

theorem giveUpWaiting_byExchange (s : State) : ByExchange False s (giveUpWaiting s) :=
  (arbWithdraw_byExchange _ s).trans ((ByExchange.suc _ _).trans (recompute_byExchange _))

theorem runEnds_byExchange {s : State} (absent : s.runRequest = false) : ByExchange False s (runEnds s) := by
  have none_ : s.runEnded.runRequest = false := (recompute_runRequest _).trans absent
  refine (runEnded_byExchange s).trans ?_
  cases state : s.suc.state with
  | waitPath =>
    rw [runEnds_waits state]
    exact giveUpWaiting_byExchange _
  | starting =>
    rw [runEnds_drives (Or.inl state)]
    exact enterStopping_byExchange none_
  | running =>
    rw [runEnds_drives (Or.inr state)]
    exact enterStopping_byExchange none_
  | fault =>
    rw [runEnds_fault state]
    split
    · exact (ByExchange.suc _ _).trans (recompute_byExchange _)
    · exact ByExchange.refl _
  | stopping =>
    rw [runEnds_rests (Or.inl state)]
    exact ByExchange.refl _
  | stopped =>
    rw [runEnds_rests (Or.inr state)]
    exact ByExchange.refl _

/-- The lock cleared: where it alone held the run, the run ends. -/
theorem clearLock_cases (s : State) :
    ((s.suc.pressed = true ∨ s.suc.lock = false) ∧ clearLock s = { s with suc := { s.suc with lock := false } })
      ∨ (s.suc.pressed = false ∧ s.suc.lock = true ∧ clearLock s = runEnds { s with suc := { s.suc with lock := false } }) := by
  unfold clearLock
  cases pressed : s.suc.pressed with
  | true =>
    refine Or.inl ⟨Or.inl rfl, runChanged_stands ?_⟩
    unfold State.runRequest
    rw [pressed]
    rfl
  | false =>
    cases lock : s.suc.lock with
    | false =>
      refine Or.inl ⟨Or.inr rfl, runChanged_stands ?_⟩
      unfold State.runRequest
      rw [pressed, lock]
    | true =>
      refine Or.inr ⟨rfl, rfl, ?_⟩
      have present : s.runRequest = true := by
        unfold State.runRequest
        rw [lock]
        exact Bool.or_true _
      rw [present]
      refine runChanged_ends ?_
      unfold State.runRequest
      rw [pressed]
      rfl

theorem clearLock_byExchange (s : State) : ByExchange False s (clearLock s) := by
  rcases clearLock_cases s with ⟨-, e⟩ | ⟨pressed, -, e⟩ <;> rw [e]
  · exact ByExchange.suc s _
  · refine (ByExchange.suc s _).trans (runEnds_byExchange ?_)
    unfold State.runRequest
    rw [pressed]
    rfl

/-! ## The charge controller's work on a scan (08 R157) -/

theorem charged_byExchange (s : State) (c : Charger) (q : Account) : ByExchange False s (s.charged c q) :=
  (setCharge_byExchange c.state s).trans ((ByExchange.chg _ c).trans ((ByExchange.acct _ q).trans (reformOrder_byExchange _)))

theorem enterPaused_byExchange (reason : PauseReason) (s : State) : ByExchange False s (enterPaused reason s) :=
  ((pauseCharge_byCharger reason s).byExchange (pauseCharge_standing reason s)).trans (releaseCharge_byExchange _)

theorem enterTopoff_byExchange (s : State) : ByExchange False s (enterTopoff s) :=
  (setCharge_byExchange _ s).trans ((ByExchange.chg _ _).trans (reformOrder_byExchange _))

theorem enterBalance_byExchange (s : State) : ByExchange False s (enterBalance s) :=
  (setCharge_byExchange _ s).trans ((ByExchange.chg _ _).trans ((reformOrder_byExchange _).trans (releaseCharge_byExchange _)))

theorem enterDone_byExchange (s : State) : ByExchange False s (enterDone s) := by
  rw [enterDone_eq]
  exact (charged_byExchange s _ _).trans (releaseCharge_byExchange _)

theorem enterChargeFault_byExchange (cause : ChargeCause) (s : State) : ByExchange False s (enterChargeFault cause s) := by
  rw [enterChargeFault_eq]
  exact ((charged_byExchange s _ _).trans ((raiseHandle_byExchange _ _).trans (raiseDock_byExchange _ _))).trans
    (releaseCharge_byExchange _)

theorem topoffScan_byExchange (r : ScanRecord) (s : State) : ByExchange False s (topoffScan r s) := by
  unfold topoffScan
  dsimp only
  have lowered : ByExchange False s
      (if s.settings.chgVcell ≤ r.cells.vmax then putOrder (s.chg.orderCur - 20) s.settings.chgVcell s else s) := by
    split
    · exact putOrder_byExchange _ _ s
    · exact ByExchange.refl s
  refine lowered.trans ?_
  generalize (if s.settings.chgVcell ≤ r.cells.vmax then putOrder (s.chg.orderCur - 20) s.settings.chgVcell s else s) = t
  split
  · split
    · exact enterBalance_byExchange t
    · exact enterDone_byExchange t
  · exact ByExchange.refl t

/-- A scan on which the controller asks for the free path (08 R141, R152, R154). -/
def State.asks (s : State) (r : ScanRecord) : Prop :=
  s.arb.path = .idle
    ∧ (s.chg.state = .done ∧ r.cells.vmax + s.settings.rechargeDrop < s.settings.chgVcell
      ∨ s.chg.state = .paused ∧ resumable s.settings r = true)

theorem requestCharge_byExchange_free (s : State) : ByExchange (s.arb.path = .idle) s (requestCharge s) := by
  by_cases free : s.arb.path = .idle
  · exact (requestCharge_byExchange s).mono fun _ => free
  · rcases requestCharge_cases s with ⟨no, -⟩ | ⟨-, e⟩ | ⟨-, e⟩
    · exact absurd no free
    · rw [e]
      exact (ByExchange.refl s).mono nofun
    · rw [e]
      exact ((ByExchange.path s _ _).trans ((setCharge_byExchange _ _).trans (reformOrder_byExchange _))).mono nofun

theorem chargeTransition_byExchange (r : ScanRecord) (s : State) : ByExchange (s.asks r) s (chargeTransition r s) := by
  have stays : ByExchange (s.asks r) s s := (ByExchange.refl s).mono nofun
  unfold chargeTransition
  cases state : s.chg.state with
  | precharge =>
    dsimp only
    split
    · exact ((beginBulk_byCharger s).byExchange (beginBulk_standing s)).mono nofun
    · exact stays
  | bulk =>
    dsimp only
    split
    · exact (enterTopoff_byExchange s).mono nofun
    · exact stays
  | topoff => exact (topoffScan_byExchange r s).mono nofun
  | balance =>
    dsimp only
    split
    · exact (enterDone_byExchange s).mono nofun
    · exact stays
  | done =>
    dsimp only
    split
    · rename_i low
      exact (requestCharge_byExchange_free s).mono fun free => ⟨free, Or.inl ⟨state, low⟩⟩
    · exact stays
  | paused =>
    dsimp only
    split
    · rename_i resumes
      have free := requestCharge_byExchange_free { s with chg := { s.chg with pauseReason := .none } }
      exact ((ByExchange.chg s _).mono nofun).trans (free.mono fun free => ⟨free, Or.inr ⟨state, resumes⟩⟩)
    · exact stays
  | absent | qualify | waitIdle | fault => exact stays

theorem chargeSteps_byExchange (r : ScanRecord) (s : State) : ByExchange (s.asks r) s (chargeSteps r s) := by
  unfold chargeSteps
  split
  · exact (enterChargeFault_byExchange _ s).mono nofun
  split
  · exact (enterPaused_byExchange _ s).mono nofun
  split
  · exact (enterPaused_byExchange _ s).mono nofun
  split
  · dsimp only
    refine ((ByExchange.chg s { s.chg with excess := excessAfter s.chg.orderCur r.i s.chg.excess }).mono nofun).trans ?_
    split
    · exact (chargeTransition_byExchange r _)
    · exact (enterChargeFault_byExchange _ _).mono nofun
  · exact chargeTransition_byExchange r s

/-- The controller with a valid scan's values stored and COLD judged. -/
def Charger.stored (r : ScanRecord) (c : Charger) : Charger :=
  { c with
    latest := some ⟨r.cells.vmin, r.cells.vmax, r.cells.spread, r.tmin, r.tmax, r.thermFault⟩, cold := coldAfter r.tmin c.cold }

theorem storeLatest_eq (r : ScanRecord) (s : State) :
    storeLatest r s
      = if coldAfter r.tmin s.chg.cold = s.chg.cold then { s with chg := s.chg.stored r }
        else reformOrder { s with chg := s.chg.stored r } := rfl

theorem storeLatest_byExchange (r : ScanRecord) (s : State) : ByExchange False s (storeLatest r s) := by
  rw [storeLatest_eq]
  split
  · exact ByExchange.chg s _
  · exact (ByExchange.chg s _).trans (reformOrder_byExchange _)

theorem storeLatest_kept (r : ScanRecord) (s : State) :
    (storeLatest r s).chg.state = s.chg.state ∧ (storeLatest r s).arb = s.arb ∧ (storeLatest r s).settings = s.settings := by
  rw [storeLatest_eq]
  split
  · exact ⟨rfl, rfl, rfl⟩
  · unfold reformOrder
    rw [putOrder_eq]
    exact ⟨rfl, rfl, rfl⟩

theorem bleedScan_eq (r : ScanRecord) (s : State) :
    bleedScan r s
      = if s.chg.state = .topoff ∨ s.chg.state = .balance then
          { s with chg := { s.chg with bleeds := selectBleeds s.settings.balDelta r.cells } }
        else s := by
  unfold bleedScan
  cases s.chg.state <;> rfl

theorem bleedScan_byExchange (r : ScanRecord) (s : State) : ByExchange False s (bleedScan r s) := by
  rw [bleedScan_eq]
  split
  · exact ByExchange.chg s _
  · exact ByExchange.refl s

theorem chargeJudge_byExchange (r : ScanRecord) (s : State) : ByExchange (r.isValid = true ∧ s.asks r) s (chargeJudge r s) := by
  unfold chargeJudge
  split
  · rename_i valid
    obtain ⟨state, arb, settings⟩ := storeLatest_kept r s
    have steps := chargeSteps_byExchange r (storeLatest r s)
    have asks : (storeLatest r s).asks r → r.isValid = true ∧ s.asks r := by
      unfold State.asks
      rw [state, arb, settings]
      exact fun h => ⟨valid, h⟩
    exact ((storeLatest_byExchange r s).mono nofun).trans ((steps.mono asks).trans ((bleedScan_byExchange r _).mono nofun))
  · refine ByExchange.mono (k := False) ?_ nofun
    dsimp only
    refine (ByExchange.chg s { s.chg with bleeds := Bleeds.off }).trans ?_
    split
    · exact enterPaused_byExchange _ _
    · exact ByExchange.refl _

/-- A dock found, but for the notice and the lock latch (08 R139; 07 R128; 10 R178). -/
def State.attached (s : State) : State :=
  let t := setCharge .qualify (cancelShelf s)
  { t with chg := { t.chg with helloTimer := some (t.now + ms 1000), detach := 0 }, acct := t.acct.openSession }

theorem attachDock_eq (s : State) : attachDock s = clearLock (raiseHandle .dockChange s.attached) := rfl

theorem attached_byExchange (s : State) : ByExchange False s s.attached := by
  unfold State.attached
  refine ((cancelShelf_byExchange s).trans (setCharge_byExchange .qualify _)).trans ?_
  generalize setCharge .qualify (cancelShelf s) = t
  exact ByExchange.chgAcct t _ _

theorem attachDock_byExchange (s : State) : ByExchange False s (attachDock s) := by
  rw [attachDock_eq]
  exact (attached_byExchange s).trans ((raiseHandle_byExchange _ _).trans (clearLock_byExchange _))

/-- A dock left, but for the notice and the path (08 R140). -/
def State.undocked (s : State) : State :=
  let t := reformOrder (setCharge .absent s)
  { t with chg := t.chg.cleared, acct := t.acct.closeSession }

theorem detachDock_eq (s : State) :
    detachDock s = arbWithdraw .charger (releaseCharge (raiseHandle .dockChange s.undocked)) := rfl

theorem undocked_byExchange (s : State) : ByExchange False s s.undocked := by
  unfold State.undocked
  refine ((setCharge_byExchange .absent s).trans (reformOrder_byExchange _)).trans ?_
  generalize reformOrder (setCharge .absent s) = t
  exact ByExchange.chgAcct t _ _

theorem detachDock_byExchange (s : State) : ByExchange False s (detachDock s) := by
  rw [detachDock_eq]
  exact (undocked_byExchange s).trans ((raiseHandle_byExchange _ _).trans ((releaseCharge_byExchange _).trans (arbWithdraw_byExchange _ _)))

/-- A scan of the dock contact in ABSENT (08 R138). -/
def Charger.attachCount (r : ScanRecord) (c : Charger) : Nat := if 18000 ≤ r.dock then countUp 5 c.attach else 0

/-- A scan of the dock contact in any other state (08 R138). -/
def Charger.detachCount (r : ScanRecord) (c : Charger) : Nat := if r.dock < 14000 then countUp 2 c.detach else 0

theorem chargeScan_eq (r : ScanRecord) (s : State) :
    chargeScan r s
      = if s.chg.state = .absent then
          if 5 ≤ s.chg.attachCount r then attachDock { s with chg := { s.chg with attach := s.chg.attachCount r } }
          else chargeJudge r { s with chg := { s.chg with attach := s.chg.attachCount r } }
        else if 2 ≤ s.chg.detachCount r then detachDock { s with chg := { s.chg with detach := s.chg.detachCount r } }
        else chargeJudge r { s with chg := { s.chg with detach := s.chg.detachCount r } } := rfl

theorem chargeScan_byExchange (r : ScanRecord) (s : State) : ByExchange (r.isValid = true ∧ s.asks r) s (chargeScan r s) := by
  rw [chargeScan_eq]
  split
  · refine ((ByExchange.chg s { s.chg with attach := s.chg.attachCount r }).mono nofun).trans ?_
    split
    · exact (attachDock_byExchange _).mono nofun
    · exact chargeJudge_byExchange r _
  · refine ((ByExchange.chg s { s.chg with detach := s.chg.detachCount r }).mono nofun).trans ?_
    split
    · exact (detachDock_byExchange _).mono nofun
    · exact chargeJudge_byExchange r _

end Sys2Proof.Machine
end

section
/-! PROOFS. The record of a scan, and what a scan completion leaves of it (01; 02, section 2.1). -/

namespace Sys2Proof.Machine

/-! ## Conversions (01 R9, R10, R13) -/

theorem thermWalk_segment {c1 c2 : Nat} {t1 t2 : Int} (rest : List (Nat × Int)) {code : Nat} (low : c2 ≤ code) :
    thermWalk ((c1, t1) :: (c2, t2) :: rest) code = t1 + Int.tdiv ((t2 - t1) * ((c1 : Int) - code)) ((c1 : Int) - c2) := by
  cases rest <;> exact if_pos low

/-- Past a segment, its end included, the polyline goes on. -/
theorem thermWalk_skip {c1 c2 c3 : Nat} {t1 t2 t3 : Int} (rest : List (Nat × Int)) {code : Nat} (high : code ≤ c2) (falls : c2 < c1)
    (next : c3 ≤ c2) :
    thermWalk ((c1, t1) :: (c2, t2) :: (c3, t3) :: rest) code = thermWalk ((c2, t2) :: (c3, t3) :: rest) code := by
  rcases Nat.eq_or_lt_of_le high with rfl | below
  · rw [thermWalk_segment _ le_rfl, thermWalk_segment _ next, Int.mul_tdiv_cancel _ (by omega), Int.sub_self, Int.mul_zero,
      Int.zero_tdiv]
    omega
  · exact if_neg (Nat.not_le.2 below)

/-- The table is read segment by segment; two segments agree where they meet. -/
theorem thermConvert_reads (code : Nat) : ThermReads code (thermConvert code) := by
  have walks {x : Int} (low : 150 ≤ code) (high : code ≤ 3900) (walk : thermWalk thermTable code = x) : thermConvert code = .ok x :=
    (if_neg (by omega)).trans ((if_neg (by omega)).trans (congrArg Therm.ok walk))
  refine ⟨fun h => if_pos h, fun h => (if_neg (by omega)).trans (if_pos h), fun p mem low high => ?_⟩
  simp only [List.mem_cons, List.not_mem_nil, or_false] at mem
  unfold thermTable at walks
  rcases mem with rfl | rfl | rfl | rfl | rfl | rfl | rfl | rfl
  all_goals
    dsimp only at low high ⊢
    refine walks (by omega) (by omega) ?_
    repeat rw [thermWalk_skip _ (by omega) (by omega) (by omega)]
    exact thermWalk_segment _ low

theorem judgeScan_refFault (reference vpack sum : Nat) :
    judgeScan reference vpack sum = .refFault ↔ reference < 1225 ∨ 1275 < reference := by
  unfold judgeScan
  split
  · exact ⟨fun _ => by omega, fun _ => rfl⟩
  · refine ⟨fun h => ?_, fun h => by omega⟩
    split at h <;> cases h

theorem judgeScan_valid (reference vpack sum : Nat) :
    judgeScan reference vpack sum = .valid ↔ 1225 ≤ reference ∧ reference ≤ 1275 ∧ vpack ≤ sum + 500 ∧ sum ≤ vpack + 500 := by
  unfold judgeScan
  split
  · exact ⟨nofun, fun h => by omega⟩
  · split
    · exact ⟨fun _ => by omega, fun _ => rfl⟩
    · exact ⟨nofun, fun h => by omega⟩

/-- The hotter and the colder pack temperature, and THERM_FAULT, by the two channels. -/
theorem thermPair_cases (a b : Therm) :
    (∀ x y, a = .ok x → b = .ok y → hotter a b = some (max x y) ∧ colder a b = some (min x y))
      ∧ (∀ x, a = .ok x → b = .opened ∨ b = .shorted → hotter a b = some x ∧ colder a b = some x)
      ∧ (∀ y, b = .ok y → a = .opened ∨ a = .shorted → hotter a b = some y ∧ colder a b = some y)
      ∧ (a = .opened ∨ a = .shorted → b = .opened ∨ b = .shorted →
        hotter a b = none ∧ colder a b = none ∧ bothInvalid a b = true)
      ∧ (bothInvalid a b = true ↔ hotter a b = none) ∧ (hotter a b = none ↔ colder a b = none) := by
  cases a <;> cases b <;> simp [hotter, colder, bothInvalid]

theorem sampleSat_iff (c : Code) : sampleSat c = true ↔ c.toNat = 0 ∨ c.toNat = 4095 := by
  unfold sampleSat
  rw [Bool.or_eq_true, beq_iff_eq, beq_iff_eq]

theorem isValid_iff (r : ScanRecord) : r.isValid = true ↔ r.validity = .valid := beq_iff_eq

/-! ## The whole completion (01 R3, R15 to R19) -/

/-- What the receivers of a scan leave, before auto-zero and the next start. -/
def State.received (s : State) (start : Nat) (first : Bool) (k : ScanCodes) : State :=
  receiveScan (scanRecord s.smp first k) ((s.reach (start + ms 2)).published first k)

/-- The sampler with its cadence and next start put (01 R3). -/
def Sampler.scheduled (fast : Bool) (start now : Nat) (m : Sampler) : Sampler :=
  { m with
    cadence := if fast = true then .fast else .slow
    phase := if fast = true then .resting now false else .resting (start + 100000) false }

theorem scheduleScan_eq (start : Nat) (s : State) :
    scheduleScan start s = { s with smp := s.smp.scheduled s.fastDemand start s.now } := by
  unfold scheduleScan Sampler.scheduled
  cases s.fastDemand <;> rfl

/-- The sampler after a completion, but for the moment of the last switch change. -/
def State.resampled (s : State) (start : Nat) (first : Bool) (k : ScanCodes) : Sampler :=
  (autoZero (s.received start first k).settings.autozero
      (qualifies (scanRecord s.smp first k) start (s.reach (start + ms 2)) (s.received start first k))
      (rawCurrent k.pack1 k.pack2) (s.received start first k).smp).scheduled
    (s.received start first k).fastDemand start (s.received start first k).now

theorem bleedEvent_noted (before : Bleeds) (s : State) : ∃ g, bleedEvent before s = { s with gens := g } := by
  unfold bleedEvent
  split
  · exact ⟨_, rfl⟩
  · exact ⟨_, rfl⟩

/-- A completion leaves what the receivers leave, with the sampler moved on and the generations noted. -/
theorem scan_result {s : State} {start : Nat} {first : Bool} (k : ScanCodes) (phase : s.smp.phase = .running start first) :
    ∃ (t : State) (g : Generations) (m : Option Nat), exec (.scanCompletion k) s = .next t
      ∧ t = { s.received start first k with gens := g, smp := { s.resampled start first k with lastSwitch := m } } := by
  have completes : completeScan start first k (s.reach (start + ms 2))
      = { s.received start first k with smp := s.resampled start first k } := scheduleScan_eq start _
  obtain ⟨g, m, noted⟩ := event_noted (completeScan start first k) (s.reach (start + ms 2))
  obtain ⟨g', bled⟩ := bleedEvent_noted s.chg.bleeds (event (completeScan start first k) (s.reach (start + ms 2)))
  refine ⟨_, g', m, exec_scanCompletion k s start first phase, bled.trans ?_⟩
  rw [noted, completes]

/-! ## What the hand-offs touch (01 R19; 04 R76; 05 R98) -/

/-- `t` is `s` but for grants and brush stack, target and duty, the floor-head unit and the notices that these raise. -/
def ByHandOff (s t : State) : Prop :=
  Standing s t
    ∧ ∃ (a : Arbiter) (x y : Nat) (hd : Head) (h : BitVec 15) (w : BitVec 1),
      t = { s with
        arb := { a with suction := s.arb.suction, path := s.arb.path, waiting := s.arb.waiting }
        suc := { s.suc with target := x, duty := y }, head := hd, ports := { s.ports with handleNotes := h, wandNotes := w } }

theorem ByHandOff.refl (s : State) : ByHandOff s s := ⟨Standing.refl s, s.arb, _, _, _, _, _, rfl⟩

theorem ByHandOff.trans {s t u : State} (h : ByHandOff s t) (k : ByHandOff t u) : ByHandOff s u := by
  obtain ⟨first, _, _, _, _, _, _, rfl⟩ := h
  obtain ⟨second, a, _, _, _, _, _, rfl⟩ := k
  exact ⟨first.trans second, a, _, _, _, _, _, rfl⟩

theorem ByHandOff.head (s : State) (hd : Head) : ByHandOff s { s with head := hd } :=
  ⟨Standing.of_eq rfl rfl, s.arb, _, _, _, _, _, rfl⟩

theorem recompute_byHandOff (s : State) : ByHandOff s (recompute s) := by
  refine ⟨recompute_standing s, ?_⟩
  obtain ⟨a, _, _, _, _, e⟩ := recompute_regranted s
  rw [e]
  exact ⟨{ s.arb with
    ds := a.ds, dh := a.dh, gs := a.gs, gh := a.gh, shortS := a.shortS, shortH := a.shortH, used := a.used }, _, _, _, _, _, rfl⟩

theorem raiseHandle_byHandOff (n : HandleNotice) (s : State) : ByHandOff s (raiseHandle n s) :=
  ⟨raiseHandle_standing n s, s.arb, _, _, _, _, _, rfl⟩

theorem headAbsent_byHandOff (s : State) : ByHandOff s (headAbsent s) := by
  unfold headAbsent
  split
  · unfold dropBrushStack
    have dropped (t : State) : ByHandOff t { t with arb := t.arb.dropBrush } :=
      ⟨Standing.of_eq rfl rfl, t.arb.dropBrush, _, _, _, _, _, rfl⟩
    exact (ByHandOff.head s { s.head with info := none, silence := none, floor := .unknown, overload := 0 }).trans
      ((raiseHandle_byHandOff .headChange _).trans ((dropped _).trans (recompute_byHandOff _)))
  · exact ByHandOff.refl s

theorem wandPowerOff_byHandOff (s : State) : ByHandOff s (wandPowerOff s) :=
  (ByHandOff.head s _).trans ((recompute_byHandOff _).trans (headAbsent_byHandOff _))

theorem handOffHead_byHandOff (before s : State) : ByHandOff s (handOffHead before s) := by
  rcases handOffHead_cases before s with e | e <;> rw [e]
  · exact ByHandOff.refl s
  · exact ByHandOff.head s _

theorem handOffGrants_byHandOff (r : ScanRecord) (before s : State) : ByHandOff s (handOffGrants r before s) := by
  unfold handOffGrants
  split
  · exact recompute_byHandOff s
  · exact ByHandOff.refl s

theorem handOffOverload_byHandOff (before s : State) : ByHandOff s (handOffOverload before s) := by
  unfold handOffOverload headOverload
  split
  · exact (raiseHandle_byHandOff _ s).trans (wandPowerOff_byHandOff _)
  · exact ByHandOff.refl s

theorem scanHandOffs_byHandOff (r : ScanRecord) (before s : State) : ByHandOff s (scanHandOffs r before s) := by
  rw [scanHandOffs_eq]
  exact (handOffHead_byHandOff before s).trans ((handOffGrants_byHandOff r before _).trans (handOffOverload_byHandOff before _))

/-! ## What the receivers touch -/

/-- The deep-discharge timer after a scan (10 R179). -/
def State.deepAfter (s : State) (r : ScanRecord) : Option Nat :=
  if r.isValid = true then (if s.deepCondition r = true then some (s.pwr.deepTimer.getD (s.now + ms 10000)) else none)
  else s.pwr.deepTimer

theorem judgeDeep_eq (r : ScanRecord) (s : State) : judgeDeep r s = { s with pwr := { s.pwr with deepTimer := s.deepAfter r } } := by
  unfold judgeDeep State.deepAfter
  cases r.isValid <;> rfl

theorem weighed_eq (r : ScanRecord) (s : State) :
    (s.judged r).weighed r
      = { s with
          pwr := { s.pwr with deepTimer := s.deepAfter r }, acct := s.acct.scan r, head := s.head.scan s.arb.gh r } := by
  unfold State.weighed State.judged
  rw [judgeDeep_eq]

/-- The allowance unit's part of a scan (02 R21 to R24). -/
def State.allowed (s : State) (r : ScanRecord) : Allowance :=
  if r.isValid = true then { s.alw with inflight := some ⟨capture s r, s.now + 400⟩ }
  else if r.invalidCount = 3 then { s.alw with snapshot := none, pallow := 0, cause := .scanFault }
  else { s.alw with snapshot := none }

theorem allowanceScan_eq (r : ScanRecord) (s : State) :
    allowanceScan r s
      = if r.isValid = false ∧ r.invalidCount = 3 then raiseHandle .scanFault { s with alw := s.allowed r }
        else { s with alw := s.allowed r } := by
  unfold allowanceScan State.allowed
  cases r.isValid
  · by_cases third : r.invalidCount = 3
    · rw [if_neg Bool.false_ne_true, if_pos third, if_pos ⟨rfl, third⟩, if_neg Bool.false_ne_true, if_pos third]
    · rw [if_neg Bool.false_ne_true, if_neg third, if_neg fun h => third h.2, if_neg Bool.false_ne_true, if_neg third]
  · rw [if_pos rfl, if_neg fun h => absurd h.1 nofun, if_pos rfl]

/-- The state before the charge controller's work: the motor's work and the hand-offs after it. -/
theorem handedOff_frame (r : ScanRecord) (s : State) :
    ∃ (a : Arbiter) (u : Suction) (hd : Head) (m : Dirt) (h : BitVec 15) (w : BitVec 1),
      handedOff r s
        = { s with
            alw := s.allowed r, arb := { a with suction := s.arb.suction, path := s.arb.path, waiting := s.arb.waiting }
            suc := u, head := hd, dirt := m, acct := s.acct.scan r
            ports := { s.ports with handleNotes := h, wandNotes := w }
            pwr := { s.pwr with deepTimer := s.deepAfter r } } := by
  unfold handedOff
  obtain ⟨_, _, _, motor⟩ := suctionScan_frame r ((s.judged r).weighed r)
  rw [motor, weighed_eq]
  generalize hx : allowanceScan r _ = x
  have frame : ∃ (u : Suction) (m : Dirt) (h : BitVec 15),
      x = { s with
          alw := s.allowed r, suc := u, head := s.head.scan s.arb.gh r, dirt := m, acct := s.acct.scan r
          ports := { s.ports with handleNotes := h }, pwr := { s.pwr with deepTimer := s.deepAfter r } } := by
    rw [← hx, allowanceScan_eq]
    split
    · exact ⟨_, _, _, rfl⟩
    · exact ⟨_, _, _, rfl⟩
  obtain ⟨_, _, _, e⟩ := frame
  obtain ⟨-, a, _, _, _, _, _, e'⟩ := scanHandOffs_byHandOff r s x
  rw [e', e]
  exact ⟨a, _, _, _, _, _, rfl⟩

/-- The charge controller's work, and the release of the path of a motor fault, are exchanges. -/
theorem receiveScan_byExchange (r : ScanRecord) (s : State) :
    ByExchange (r.isValid = true ∧ (handedOff r s).asks r) (handedOff r s) (receiveScan r s) := by
  rw [receiveScan_eq]
  have scan := chargeScan_byExchange r (handedOff r s)
  split
  · exact scan.trans ((releaseSuction_byExchange _).mono nofun)
  · exact scan

/-- `t` is `s` with all that a scan's receivers may touch. -/
theorem receiveScan_frame (r : ScanRecord) (s : State) :
    ∃ (a : Arbiter) (u : Suction) (hd : Head) (m : Dirt) (b : Bin) (q : Account) (c : Charger) (n : Nat) (h : BitVec 15)
      (w : BitVec 1) (d : BitVec 3) (e : ShelfEntry) (deep : Option Nat),
      receiveScan r s
        = { s with
            alw := s.allowed r, arb := { a with suction := s.arb.suction }, suc := u, head := hd, dirt := m, bin := b, acct := q
            chg := c, choices := n, ports := { s.ports with handleNotes := h, wandNotes := w, dockNotes := d }
            pwr := { s.pwr with entry := e, deepTimer := deep } } := by
  obtain ⟨first, _, _, _, _, _, handed⟩ := handedOff_frame r s
  obtain ⟨-, -, a, _, _, _, _, _, _, _, _, _, _, _, _, -, -, e⟩ := receiveScan_byExchange r s
  rw [e, handed]
  exact ⟨{ a with brush := first.brush, free := first.free }, _, _, _, _, _, _, _, _, _, _, _, _, rfl⟩

end Sys2Proof.Machine
end

section
/-! PROOFS. A scan publishes its record (01; 02 R21 to R24). -/

namespace Sys2Proof.Machine

/-! ## Nothing published, nothing granted (02 R24) -/

/-- With nothing published nothing is granted. -/
def Dark (s : State) : Prop := s.alw.pallow = 0 → s.arb.gs = 0 ∧ s.arb.gh = 0

theorem recompute_isDark (s : State) : Dark (recompute s) := by
  intro dark
  rw [recompute_alw] at dark
  obtain ⟨gs, gh, -⟩ := recompute_dark dark
  exact ⟨gs, gh⟩

theorem Act.dark {s t : State} (h : Act s t) (p : Dark s) : Dark t := by
  cases h with
  | allowance a h same => exact fun dark => p (same ▸ dark)
  | recompute a hd h k => exact recompute_isDark _
  | powerOff =>
    exact powerOff_keeps (P := Dark) (fun t _ => recompute_isDark t) (fun _ _ q => q) (fun _ _ q => q) (fun _ q => q) s p
  | pool a h =>
    obtain ⟨gs, gh⟩ := h.grants
    unfold Dark
    dsimp only
    rw [gs, gh]
    exact p
  | reform => unfold Dark at p ⊢; simpa using p
  | lower => unfold Dark at p ⊢; simpa using p
  | chgI => unfold Dark at p ⊢; simpa using p
  | chgVcell => unfold Dark at p ⊢; simpa using p
  | softReset =>
    have fresh (u : State) (raised : Bool) : Dark (raiseIfFull raised (Sys2Proof.Machine.recompute u)) := by
      unfold raiseIfFull
      split
      · exact recompute_isDark u
      · exact recompute_isDark u
    exact fresh _ _
  | _ => exact p

theorem allowed_invalid {s : State} {r : ScanRecord} (invalid : r.validity ≠ .valid) :
    s.allowed r
      = if r.invalidCount = 3 then { s.alw with snapshot := none, pallow := 0, cause := .scanFault } else { s.alw with snapshot := none } := by
  have no : ¬r.isValid = true := fun h => invalid ((isValid_iff r).1 h)
  exact if_neg no

theorem receiveScan_alw (r : ScanRecord) (s : State) : (receiveScan r s).alw = s.allowed r := by
  obtain ⟨_, _, _, _, _, _, _, _, _, _, _, _, _, e⟩ := receiveScan_frame r s
  rw [e]

/-- The third invalid scan in a row leaves nothing granted and raises SCAN_FAULT. -/
theorem receiveScan_blind {r : ScanRecord} (invalid : r.validity ≠ .valid) (third : r.invalidCount = 3) (s : State) :
    (receiveScan r s).arb.gs = 0 ∧ (receiveScan r s).arb.gh = 0 ∧ (receiveScan r s).noted .scanFault := by
  have no : r.isValid = false := Bool.eq_false_iff.2 fun h => invalid ((isValid_iff r).1 h)
  generalize hu : suctionScan r ((s.judged r).weighed r) = u
  have handed : handedOff r s = scanHandOffs r s (allowanceScan r u) := by
    rw [← hu]
    rfl
  have dark : Dark (handedOff r s) := by
    have again (t : State) : handOffGrants r s t = recompute t := by simp [handOffGrants, no, third]
    rw [handed, scanHandOffs_eq, again]
    exact (handOffOverload_work s _).keeps (fun _ _ => Act.dark) (recompute_isDark _)
  have published : (receiveScan r s).alw.pallow = 0 := by
    rw [receiveScan_alw, allowed_invalid invalid, if_pos third]
  obtain ⟨gs, gh⟩ := (receiveScan_work r s).keeps (fun _ _ => Act.dark) dark published
  refine ⟨gs, gh, ?_⟩
  obtain ⟨⟨after, -⟩, -⟩ := receiveScan_byExchange r s
  obtain ⟨⟨hands, -⟩, -⟩ := scanHandOffs_byHandOff r s (allowanceScan r u)
  refine after _ ?_
  rw [handed]
  refine hands _ ?_
  rw [allowanceScan_eq, if_pos ⟨no, third⟩]
  exact noted_raise _ _

/-! ## Auto-zero (01 R15 to R17) -/

theorem qualifies_iff_iff (r : ScanRecord) (start : Nat) (before after : State) :
    qualifies r start before after = true
      ↔ r.validity = .valid ∧ r.iSat = false ∧ before.anySwitch = false ∧ after.anySwitch = false
        ∧ ∀ m, after.smp.lastSwitch = some m → m < start := by
  unfold qualifies
  simp only [Bool.and_eq_true, Bool.not_eq_true', isValid_iff, Option.all_eq_true, decide_eq_true_eq, and_assoc]

/-- The offset and the run after auto-zero. -/
theorem autoZero_cases (mode : AutoZero) (q : Bool) (raw : Int) (m : Sampler) :
    (q = false → autoZero mode q raw m = { m with run := ⟨0, 0⟩ })
      ∧ (q = true → mode = .off → autoZero mode q raw m = m)
      ∧ (q = true → mode = .perScan → autoZero mode q raw m = { m with offset := autoZeroPerScan m.offset raw })
      ∧ (q = true → mode = .per64 → m.run.count < 63 → autoZero mode q raw m = { m with run := ⟨m.run.count + 1, m.run.sum + raw⟩ })
      ∧ (q = true → mode = .per64 → m.run.count = 63 →
        autoZero mode q raw m = { m with offset := autoZeroPer64 m.offset (m.run.sum + raw), run := ⟨0, 0⟩ }) := by
  refine ⟨?_, ?_, ?_, ?_, ?_⟩
  · rintro rfl
    cases mode <;> rfl
  · rintro rfl rfl
    rfl
  · rintro rfl rfl
    rfl
  · rintro rfl rfl below
    exact if_neg (by omega)
  · rintro rfl rfl full
    exact if_pos (by omega)

theorem autoZero_record (mode : AutoZero) (q : Bool) (raw : Int) (m : Sampler) :
    (autoZero mode q raw m).number = m.number ∧ (autoZero mode q raw m).invalidCount = m.invalidCount
      ∧ (autoZero mode q raw m).table = m.table := by
  unfold autoZero
  split
  · exact ⟨rfl, rfl, rfl⟩
  · split <;> exact ⟨rfl, rfl, rfl⟩
  · exact ⟨rfl, rfl, rfl⟩
  · exact ⟨rfl, rfl, rfl⟩

/-! ## Settling O42 -/

theorem exec_scanStart_rests {s : State} {due : Nat} {first : Bool} (phase : s.smp.phase = .resting due first) :
    exec .scanStart s
      = .next { s with now := max s.now due, smp := { s.smp with phase := .running (max s.now due) first } } := by
  change execScanStart s = _
  unfold execScanStart
  rw [phase]
  rfl

theorem exec_scanStart_idle {s : State} (rests : ∀ due first, s.smp.phase ≠ .resting due first) : exec .scanStart s = .next s := by
  change execScanStart s = _
  unfold execScanStart
  cases phase : s.smp.phase with
  | resting due first => exact absurd phase (rests due first)
  | stopped => rfl
  | running => rfl

theorem fastDemand_iff (s : State) :
    s.fastDemand = true
      ↔ (s.suc.pressed = true ∨ s.suc.lock = true) ∨ s.arb.path ≠ .idle ∨ s.head.wand = true ∨ s.chg.state ≠ .absent
        ∨ s.bin.meas.isSome = true := by
  unfold State.fastDemand State.runRequest
  simp only [Bool.or_eq_true, bne_iff_ne, or_assoc]

/-- Settles O42: the record, the receivers' frame, auto-zero by its mode. -/
theorem scanPublishes : Obligations.ScanPublishes := by
  intro s
  refine ⟨fun _ _ => exec_scanStart_rests, exec_scanStart_idle, fun k rests => exec_scanCompletion_idle k s rests,
    fun start first k phase => ?_⟩
  intro mv sat raw sampleMa average
  obtain ⟨t, g, m, next, e⟩ := scan_result k phase
  obtain ⟨r, record⟩ : ∃ r, r = scanRecord s.smp first k := ⟨_, rfl⟩
  obtain ⟨p, published⟩ : ∃ p, p = (s.reach (start + ms 2)).published first k := ⟨_, rfl⟩
  have received : s.received start first k = receiveScan r p := by
    rw [record, published]
    rfl
  obtain ⟨_, _, _, _, _, _, _, _, _, _, _, _, _, frame⟩ := receiveScan_frame r p
  have smp : (receiveScan r p).smp = p.smp := by rw [frame]
  have settings : (receiveScan r p).settings = s.settings := by rw [frame, published]; rfl
  have now : t.now = max s.now (start + 2000) := by rw [e, received, frame, published]; rfl
  have fast : t.fastDemand = (receiveScan r p).fastDemand := by rw [e, received]; rfl
  obtain ⟨q, qualified⟩ : ∃ q, q = qualifies r start (s.reach (start + ms 2)) (receiveScan r p) := ⟨_, rfl⟩
  have qualifies_iff_ : q = true
      ↔ r.validity = .valid ∧ r.iSat = false ∧ s.anySwitch = false ∧ t.anySwitch = false
        ∧ ∀ m, s.smp.lastSwitch = some m → m < start := by
    have switches : t.anySwitch = (receiveScan r p).anySwitch := by rw [e, received]; rfl
    have last : (receiveScan r p).smp.lastSwitch = s.smp.lastSwitch := by rw [smp, published]; rfl
    rw [qualified, qualifies_iff_iff, switches, last]
    rfl
  have sampler : t.smp = { (autoZero s.settings.autozero q average p.smp).scheduled t.fastDemand start t.now with lastSwitch := m } := by
    rw [fast, e, qualified, ← smp, ← settings, ← received, record]
    rfl
  obtain ⟨z, zeroed⟩ : ∃ z, z = autoZero s.settings.autozero q average p.smp := ⟨_, rfl⟩
  have offset : t.smp.offset = z.offset := by rw [sampler, zeroed]; rfl
  have run : t.smp.run = z.run := by rw [sampler, zeroed]; rfl
  obtain ⟨number, count, table⟩ : z.number = p.smp.number ∧ z.invalidCount = p.smp.invalidCount ∧ z.table = p.smp.table := by
    rw [zeroed]
    exact autoZero_record _ _ _ _
  have alw : t.alw = p.allowed r := by rw [e, received]; exact receiveScan_alw r p
  have zero := autoZero_cases s.settings.autozero q average p.smp
  obtain ⟨rests, off, perScan, per64, perFull⟩ := zero
  rw [← zeroed] at rests off perScan per64 perFull
  have stands : p.smp.offset = s.smp.offset ∧ p.smp.run = s.smp.run := by rw [published]; exact ⟨rfl, rfl⟩
  obtain ⟨offset₀, run₀⟩ := stands
  obtain ⟨both, onlyA, onlyB, neither, fault, same⟩ := thermPair_cases (thermConvert k.thermA.toNat) (thermConvert k.thermB.toNat)
  refine ⟨t, r, next, ?_, ?_, ?_, ?_, ?_, ?_, ?_, ?_, ?_, ?_, ?_, ?_, ?_, ?_, ?_, ?_, ?_, ?_, ?_, ?_, ?_, ?_, ?_, ?_, ?_, ?_, ?_, ?_,
    now, fastDemand_iff t, ?_, ?_, ⟨fun no => ?_, fun yes mode => ?_, fun yes mode => ?_, fun yes mode below => ?_,
      fun yes mode full => ?_⟩, fun valid => ?_, fun invalid not => ?_, fun invalid third => ?_, ?_, ?_⟩
  · rw [sampler]
    change (autoZero s.settings.autozero q average p.smp).table = some r
    rw [← zeroed, table, published, record]
    rfl
  · rw [sampler]
    change (autoZero s.settings.autozero q average p.smp).number = r.number
    rw [← zeroed, number, published, record]
    rfl
  · rw [sampler]
    change (autoZero s.settings.autozero q average p.smp).invalidCount = r.invalidCount
    rw [← zeroed, count, published, record]
    rfl
  · rw [record]
    change nextScanNumber s.smp.number = _
    unfold nextScanNumber
    split
    · exact (if_neg (by omega)).symm
    · exact (if_pos (by omega)).symm
  · rw [record]; rfl
  · rw [record]
    change s.smp.cadence.interval = _
    cases s.smp.cadence <;> rfl
  · rw [record]; rfl
  · rw [record]; rfl
  · rw [record]; rfl
  · rw [record]
    change (sampleSat k.pack1 || sampleSat k.pack2) = true ↔ _
    rw [Bool.or_eq_true, sampleSat_iff, sampleSat_iff]
  · rw [record]
    change packCurrent s.smp.offset k.pack1 k.pack2 = _
    unfold packCurrent
    simp only [sampleSat_iff]
    rfl
  · rw [record]
    exact Nat.mul_comm _ _
  · rw [record]
    exact beq_iff_eq
  · rw [record]
    exact thermConvert_reads _
  · rw [record]
    exact thermConvert_reads _
  · rw [record]
    exact thermConvert_reads _
  · rw [record]
    exact both
  · rw [record]
    exact onlyA
  · rw [record]
    exact onlyB
  · rw [record]
    exact neither
  · rw [record]
    exact fault
  · rw [record]
    exact same
  · rw [record]; rfl
  · rw [record]; rfl
  · rw [record]; rfl
  · rw [record]
    exact judgeScan_refFault _ _ _
  · rw [record]
    exact judgeScan_valid _ _ _
  · rw [record]; rfl
  · rw [sampler]; rfl
  · rw [sampler]; rfl
  · have turn := rests (Bool.eq_false_iff.2 fun h => no (qualifies_iff_.1 h))
    rw [offset, run, turn]
    exact ⟨offset₀, rfl⟩
  · have turn := off (qualifies_iff_.2 yes) mode
    rw [offset, run, turn]
    exact ⟨offset₀, run₀⟩
  · have turn := perScan (qualifies_iff_.2 yes) mode
    rw [offset, run, turn, ← offset₀, ← run₀]
    exact ⟨rfl, rfl⟩
  · rw [← run₀] at below
    have turn := per64 (qualifies_iff_.2 yes) mode below
    rw [offset, run, turn, ← offset₀, ← run₀]
    exact ⟨rfl, rfl⟩
  · rw [← run₀] at full
    have turn := perFull (qualifies_iff_.2 yes) mode full
    rw [offset, run, turn, ← offset₀, ← run₀]
    exact ⟨rfl, rfl⟩
  · rw [alw, now]
    unfold State.allowed
    rw [if_pos ((isValid_iff r).2 valid), published]
    rfl
  · rw [alw, allowed_invalid invalid, if_neg not, published]
    rfl
  · obtain ⟨gs, gh, noted⟩ := receiveScan_blind invalid third p
    rw [alw, allowed_invalid invalid, if_pos third, published, e, received]
    exact ⟨rfl, gs, gh, noted⟩
  · rw [e, received, frame, published]
    rfl
  · rw [e, received, frame, published]
    rfl

/-- `s` at the moment of a completion, with the sampler as published. -/
def State.atScan (s : State) (start : Nat) (n : Sampler) : State := { s with now := max s.now (start + 2000), smp := n }

/-- A completion leaves what the receivers of its record leave, but for the sampler and the generations. -/
theorem scan_received {s : State} {start : Nat} {first : Bool} (k : ScanCodes) (phase : s.smp.phase = .running start first) :
    ∃ t r n, exec (.scanCompletion k) s = .next t ∧ t.smp.table = some r
      ∧ (n.invalidCount = r.invalidCount ∧ (r.validity = .valid → r.invalidCount = 0))
      ∧ t = { receiveScan r (s.atScan start n) with gens := t.gens, smp := t.smp } := by
  obtain ⟨t, g, m, next, e⟩ := scan_result k phase
  refine ⟨t, scanRecord s.smp first k, ((s.reach (start + ms 2)).published first k).smp, next, ?_, ⟨rfl, fun valid => if_pos valid⟩, ?_⟩
  · obtain ⟨_, _, _, _, _, _, _, _, _, _, _, _, _, frame⟩ :=
      receiveScan_frame (scanRecord s.smp first k) ((s.reach (start + ms 2)).published first k)
    have table : (s.received start first k).smp.table = some (scanRecord s.smp first k) := by
      change (receiveScan _ _).smp.table = _
      rw [frame]
      rfl
    rw [e]
    change (autoZero _ _ _ _).table = _
    obtain ⟨-, -, same⟩ := autoZero_record (s.received start first k).settings.autozero
      (qualifies (scanRecord s.smp first k) start (s.reach (start + ms 2)) (s.received start first k))
      (rawCurrent k.pack1 k.pack2) (s.received start first k).smp
    rw [same, table]
  · rw [e]
    rfl

end Sys2Proof.Machine
end

section
/-! PROOFS. The floor-head unit's timers and its overload (05). -/

namespace Sys2Proof.Machine

/-! ## A head goes ABSENT (05 R94; 03 R51) -/

/-- `s` with a head going ABSENT, but for the notice and the recomputation. -/
def State.headless (s : State) : State :=
  { s with
    head := { s.head with info := none, silence := none, floor := .unknown, overload := 0 }
    arb := { s.arb with free := (s.arb.brush.map (·.index)).reverse ++ s.arb.free, brush := [] } }

theorem headAbsent_present {s : State} (present : s.head.info.isSome = true) :
    headAbsent s = recompute (raiseHandle .headChange s.headless) := by
  unfold headAbsent
  rw [if_pos present]
  unfold dropBrushStack Arbiter.dropBrush State.headless
  rw [← List.map_reverse]
  rfl

theorem headAbsent_absent {s : State} (absent : s.head.info = none) : headAbsent s = s := if_neg (by rw [absent]; exact Bool.false_ne_true)

/-- `s` with the wand power switched off, before the recomputation. -/
def State.wandCut (s : State) : State := { s with head := { s.head with wand := false, wandOff := none } }

theorem wandPowerOff_granted (s : State) : Granted (wandPowerOff s) := by
  change Granted (headAbsent (recompute s.wandCut))
  unfold headAbsent
  split
  · exact recompute_granted _
  · exact recompute_granted _

/-- A wand switched off powers no head: no brush demand, no brush grant. -/
theorem wandPowerOff_unwanted (s : State) :
    (wandPowerOff s).head.wand = false ∧ (wandPowerOff s).arb.dh = 0 ∧ (wandPowerOff s).arb.gh = 0 := by
  have off : (wandPowerOff s).head.wand = false := by
    rcases wandPowerOff_cases s with ⟨-, head, -⟩ | ⟨-, head, -⟩
    · rw [head]
      rfl
    · rw [head]
  have granted := wandPowerOff_granted s
  have none_ := demandH_zero (Or.inl off)
  refine ⟨off, ?_, ?_⟩
  · rw [granted.dh, none_]
  · rw [granted.gh, none_, Nat.zero_min]

theorem wandPowerOff_present {s : State} (present : s.head.info.isSome = true) :
    (wandPowerOff s).head = Head.unpowered ∧ (wandPowerOff s).noted .headChange ∧ (wandPowerOff s).arb.brush = []
      ∧ (wandPowerOff s).arb.free = (s.arb.brush.map (·.index)).reverse ++ s.arb.free := by
  have there : (recompute s.wandCut).head.info.isSome = true := by
    rw [recompute_head]
    exact present
  have e : wandPowerOff s = recompute (raiseHandle .headChange (recompute s.wandCut).headless) := headAbsent_present there
  have noted : (wandPowerOff s).noted .headChange := by
    rw [e]
    exact (recompute_standing _).1 _ (noted_raise _ _)
  rcases wandPowerOff_cases s with ⟨-, head, brush⟩ | ⟨absent, -⟩
  · refine ⟨head, noted, brush, ?_⟩
    rw [e, recompute_arb]
    change ((recompute s.wandCut).arb.brush.map (·.index)).reverse ++ (recompute s.wandCut).arb.free = _
    rw [recompute_arb]
    rfl
  · exact absurd absent (isSome_ne_none present)

theorem wandPowerOff_absent {s : State} (absent : s.head.info = none) :
    (wandPowerOff s).head = { s.head with wand := false, wandOff := none } ∧ (wandPowerOff s).arb.brush = s.arb.brush
      ∧ (wandPowerOff s).arb.free = s.arb.free := by
  have gone : (recompute s.wandCut).head.info = none := by
    rw [recompute_head]
    exact absent
  have e : wandPowerOff s = recompute s.wandCut := headAbsent_absent gone
  rw [e, recompute_head, recompute_arb]
  exact ⟨rfl, rfl, rfl⟩

/-! ## The overload count of a scan (05 R97) -/

/-- The overload count after a scan. -/
def Head.counted (gh : Nat) (r : ScanRecord) (h : Head) : Nat :=
  if h.counts r = true then
    (if (overloadLimit gh r.vpack : Int) < r.i - r.motor then min 10 (h.overload + 1) else 0)
  else h.overload

theorem headScan_eq (gh : Nat) (r : ScanRecord) (h : Head) : h.scan gh r = { h with overload := h.counted gh r } := by
  unfold Head.scan Head.counted
  split
  · split <;> rfl
  · rfl

theorem counts_iff (r : ScanRecord) (h : Head) :
    h.counts r = true
      ↔ r.validity = .valid ∧ r.cadence = .fast ∧ r.iSat = false ∧ r.motorSat = false ∧ 0 < r.vpack ∧ h.wand = true
        ∧ h.info.isSome = true := by
  unfold Head.counts
  simp only [Bool.and_eq_true, Bool.not_eq_true', isValid_iff, beq_iff_eq, decide_eq_true_eq, and_assoc]

/-- The hand-offs before the overload leave the head's timer and the grants changed at most. -/
theorem beforeOverload_frame (r : ScanRecord) (s : State) :
    ∃ y, handedOff r s = handOffOverload s y
      ∧ (∃ off, y.head = { s.head with overload := s.head.counted s.arb.gh r, wandOff := off })
      ∧ y.arb.brush = s.arb.brush ∧ y.arb.free = s.arb.free := by
  generalize hx : allowanceScan r (suctionScan r ((s.judged r).weighed r)) = x
  have head : x.head = { s.head with overload := s.head.counted s.arb.gh r } := by
    rw [← hx, motorScan_head, weighed_eq, headScan_eq]
  have arb : x.arb = s.arb := by
    obtain ⟨_, _, _, motor⟩ := suctionScan_frame r ((s.judged r).weighed r)
    rw [← hx, allowanceScan_eq, motor, weighed_eq]
    split <;> rfl
  have handed : handedOff r s = handOffOverload s (handOffGrants r s (handOffHead s x)) := by
    rw [← hx]
    exact scanHandOffs_eq r s _
  refine ⟨_, handed, ?_⟩
  have timed : (∃ off, (handOffHead s x).head = { s.head with overload := s.head.counted s.arb.gh r, wandOff := off })
      ∧ (handOffHead s x).arb = s.arb := by
    rcases handOffHead_cases s x with e | e <;> rw [e]
    · exact ⟨⟨_, head⟩, arb⟩
    · refine ⟨?_, arb⟩
      dsimp only
      rw [runEnd_wandOff, head]
      exact ⟨_, rfl⟩
  obtain ⟨timed, same⟩ := timed
  unfold handOffGrants
  split
  · rw [recompute_head, recompute_arb]
    refine ⟨timed, ?_, ?_⟩
    · change (handOffHead s x).arb.brush = _
      rw [same]
    · change (handOffHead s x).arb.free = _
      rw [same]
  · exact ⟨timed, by rw [same], by rw [same]⟩

/-- A scan that brings the count to ten cuts the wand power; any other leaves the head but for its timer. -/
theorem receiveScan_head (r : ScanRecord) (s : State) :
    (s.head.overload < 10 ∧ s.head.counted s.arb.gh r = 10 →
        (receiveScan r s).head = Head.unpowered ∧ (receiveScan r s).noted .headOverload ∧ (receiveScan r s).noted .headChange
          ∧ (receiveScan r s).arb.brush = []
          ∧ (receiveScan r s).arb.free = (s.arb.brush.map (·.index)).reverse ++ s.arb.free
          ∧ (receiveScan r s).arb.dh = 0 ∧ (receiveScan r s).arb.gh = 0)
      ∧ (¬(s.head.overload < 10 ∧ s.head.counted s.arb.gh r = 10) →
        (receiveScan r s).head = { s.head with overload := s.head.counted s.arb.gh r, wandOff := (receiveScan r s).head.wandOff }
          ∧ (receiveScan r s).arb.brush = s.arb.brush ∧ (receiveScan r s).arb.free = s.arb.free) := by
  obtain ⟨y, handed, ⟨off, head⟩, brush, free⟩ := beforeOverload_frame r s
  obtain ⟨stands, fair, a, u, timer, m, b, q, c, n, h, w, d, e, deep, -, timed, frame⟩ := receiveScan_byExchange r s
  have count : y.head.overload = s.head.counted s.arb.gh r := by rw [head]
  refine ⟨fun cut => ?_, fun stays => ?_⟩
  · obtain ⟨below, ten⟩ := cut
    have counts : s.head.counts r = true := by
      by_contra no
      unfold Head.counted at ten
      rw [if_neg no] at ten
      omega
    obtain ⟨-, -, -, -, -, -, present⟩ := (counts_iff r s.head).1 counts
    have there : (raiseHandle .headOverload y).head.info.isSome = true := by
      change y.head.info.isSome = true
      rw [head]
      exact present
    have off_ : handedOff r s = wandPowerOff (raiseHandle .headOverload y) := handed.trans (if_pos ⟨below, by omega⟩)
    obtain ⟨gone, noted, brush', free'⟩ := wandPowerOff_present there
    obtain ⟨unwanted, dh, gh⟩ := wandPowerOff_unwanted (raiseHandle .headOverload y)
    obtain ⟨⟨before, -⟩, -⟩ := wandPowerOff_byHandOff (raiseHandle .headOverload y)
    have overload := before _ (noted_raise .headOverload y)
    rw [← off_] at gone noted brush' free' unwanted dh gh overload
    have still : timer = none := by
      rcases timed with same | powered
      · rw [same, gone]
        rfl
      · exact absurd (unwanted.symm.trans powered) nofun
    have demand := demandH_zero (Or.inl unwanted)
    refine ⟨?_, stands.1 _ overload, stands.1 _ noted, ?_, ?_, ?_, ?_⟩
    · rw [frame, gone, still]
      rfl
    · rw [frame]
      exact brush'
    · rw [frame]
      change (handedOff r s).arb.free = _
      rw [free']
      change (y.arb.brush.map (·.index)).reverse ++ y.arb.free = _
      rw [brush, free]
    · rcases fair with ⟨same, -⟩ | ⟨anew, -⟩
      · rw [same, dh]
      · rw [anew, demand]
    · rcases fair with ⟨-, same⟩ | ⟨-, anew⟩
      · rw [same, gh]
      · rw [anew]
        unfold State.grantH
        rw [demand, Nat.zero_min]
  · have passes : handedOff r s = y := by
      refine handed.trans (if_neg fun cut => stays ⟨cut.1, ?_⟩)
      have most : s.head.counted s.arb.gh r ≤ 10 := by
        unfold Head.counted
        split
        · split <;> omega
        · omega
      omega
    rw [passes] at frame
    refine ⟨?_, ?_, ?_⟩
    · rw [frame, head]
    · rw [frame]
      exact brush
    · rw [frame]
      exact free

/-! ## Settling O54 -/

theorem exec_silenceExpiry {s : State} {d : Nat} (runs : s.head.silence = some d) :
    exec .silenceExpiry s = .next (event silenceExpires (s.reach d)) := by
  change execSilenceExpiry s = _
  unfold execSilenceExpiry
  rw [runs]

theorem exec_wandOffTimerExpiry {s : State} {d : Nat} (runs : s.head.wandOff = some d) :
    exec .wandOffTimerExpiry s = .next (event wandPowerOff (s.reach d)) := by
  change execWandOffTimerExpiry s = _
  unfold execWandOffTimerExpiry
  rw [runs]

/-- Settles O54: the two timers, and the overload count of a scan. -/
theorem headTimers : Obligations.HeadTimers := by
  intro s
  refine ⟨fun idle => ?_, fun idle => ?_, fun d => ⟨fun runs absent => ?_, fun runs present => ?_, fun runs => ?_⟩,
    fun start first k phase => ?_⟩
  · change execSilenceExpiry s = _
    unfold execSilenceExpiry
    rw [idle]
  · change execWandOffTimerExpiry s = _
    unfold execWandOffTimerExpiry
    rw [idle]
  · exact ⟨_, exec_silenceExpiry runs, sameButGens_event (headAbsent_absent absent) rfl⟩
  · have goes : silenceExpires (s.reach d) = recompute (raiseHandle .headChange { s.headless with now := max s.now d }) :=
      headAbsent_present (s := { s.reach d with head := { s.head with silence := none } }) present
    have granted := recompute_granted (raiseHandle .headChange { s.headless with now := max s.now d })
    have none_ : (recompute (raiseHandle .headChange { s.headless with now := max s.now d })).demandH = 0 := by
      refine demandH_zero (Or.inr (Or.inl ?_))
      rw [recompute_head]
      rfl
    refine ⟨_, exec_silenceExpiry runs, sameButGens_event goes ?_, ?_, ?_⟩
    · exact (recompute_regranted _).switches
    · change (silenceExpires (s.reach d)).arb.dh = 0
      rw [goes, granted.dh, none_]
    · change (silenceExpires (s.reach d)).arb.gh = 0
      rw [goes, granted.gh, none_, Nat.zero_min]
  · obtain ⟨g, m, noted⟩ := event_noted wandPowerOff (s.reach d)
    have granted := wandPowerOff_granted (s.reach d)
    obtain ⟨-, dh, gh⟩ := wandPowerOff_unwanted (s.reach d)
    obtain ⟨-, a, x, y, hd, h, w, frame⟩ := wandPowerOff_byHandOff (s.reach d)
    refine ⟨_, exec_wandOffTimerExpiry runs, ?_⟩
    rw [noted]
    refine ⟨?_, fun present => ?_, fun absent => ?_, dh, gh, ?_, ?_, ?_, ?_, ?_⟩
    · by_cases present : s.head.info.isSome = true
      · obtain ⟨head, -⟩ := wandPowerOff_present (s := s.reach d) present
        rw [if_pos present]
        exact head
      · obtain ⟨head, -⟩ := wandPowerOff_absent (s := s.reach d) (Option.not_isSome_iff_eq_none.1 present)
        rw [if_neg present]
        exact head
    · obtain ⟨-, change_, brush, free⟩ := wandPowerOff_present (s := s.reach d) present
      exact ⟨change_, brush, free⟩
    · obtain ⟨-, brush, free⟩ := wandPowerOff_absent (s := s.reach d) absent
      exact ⟨brush, free⟩
    · have gs := granted.gs
      have alw : (wandPowerOff (s.reach d)).alw.pallow = s.alw.pallow := by
        rw [frame]
        rfl
      rw [gh, alw, Nat.sub_zero] at gs
      exact gs
    · rw [frame]
      rfl
    · rw [frame]
      rfl
    · rw [frame]
      rfl
    · rw [frame]
      rfl
  · obtain ⟨t, r, n, next, table, -, e⟩ := scan_received k phase
    refine ⟨t, r, next, table, ?_⟩
    intro counts limit count cut
    obtain ⟨cuts, stays⟩ := receiveScan_head r (s.atScan start n)
    have same : s.head.counted s.arb.gh r = count := by
      have counts_ : s.head.counts r = true ↔ counts := counts_iff r s.head
      unfold Head.counted
      rw [if_congr counts_ rfl rfl]
      rfl
    have head : (s.atScan start n).head = s.head := rfl
    have arb : (s.atScan start n).arb = s.arb := rfl
    rw [head, arb, same] at cuts stays
    rw [e]
    exact ⟨cuts, stays⟩

end Sys2Proof.Machine
end

section
/-! PROOFS. Shelf entry and the deep-discharge timer (10, section 10.2). -/

namespace Sys2Proof.Machine

/-! ## The deep-discharge timer at a scan (10 R179) -/

theorem ByExchange.deep {s t : State} (h : ByExchange False s t) : t.pwr.deepTimer = s.pwr.deepTimer := by
  obtain ⟨-, -, _, _, _, _, _, _, _, _, _, _, _, _, _, deep | no, -, e⟩ := h
  · rw [e]
    exact deep
  · exact no.elim

/-- The timer stands, or the charge state moves, and the controller's path is not the motor's. -/
def DeepKept (s t : State) : Prop :=
  t.pwr.deepTimer = s.pwr.deepTimer ∨ (t.chg.state ≠ s.chg.state ∧ t.arb.path ≠ .discharge)

theorem pathTaken_admits {s : State} : s.pathTaken.admits ↔ s.admits := by
  rw [pathTaken_eq]
  exact Iff.rfl

/-- What a request finds that meets the free path. -/
theorem requestCharge_free {s : State} (path : s.arb.path = .idle) :
    (requestCharge s).arb.path ≠ .discharge
      ∧ ((requestCharge s).chg.state = .paused ∧ ¬s.admits
        ∨ (requestCharge s).chg.state = .precharge ∨ (requestCharge s).chg.state = .bulk) := by
  have takes : requestCharge s = entrySelection s.pathTaken := by
    rcases requestCharge_cases s with ⟨-, e⟩ | ⟨no, -⟩ | ⟨no, -⟩
    · exact e
    · cases path.symm.trans no
    · cases path.symm.trans no
  have taken : s.pathTaken.arb.path = .charge ∧ s.pathTaken.arb.waiting = none := by rw [pathTaken_eq]; exact ⟨rfl, rfl⟩
  obtain ⟨-, admitted, refused⟩ := entrySelection_taken taken.1 taken.2
  rw [takes]
  by_cases admits : s.pathTaken.admits
  · obtain ⟨arb, state⟩ := admitted admits
    rw [arb, taken.1]
    exact ⟨nofun, Or.inr state⟩
  · obtain ⟨arb, state⟩ := refused admits
    rw [arb]
    exact ⟨nofun, Or.inl ⟨state, fun h => admits (pathTaken_admits.2 h)⟩⟩

/-- A resumable scan, once stored, admits the charge. -/
theorem resumable_admits {s : State} {r : ScanRecord} (resumes : resumable s.settings r = true) (heard : s.smp.invalidCount < 3)
    (stored : s.chg.latest = (s.chg.stored r).latest) : s.admits := by
  refine (admits_iff stored).2 ⟨heard, ?_⟩
  unfold resumable at resumes
  rw [Bool.and_eq_true, Bool.and_eq_true, Bool.not_eq_true'] at resumes
  obtain ⟨⟨sound, low⟩, high⟩ := resumes
  refine ⟨sound, (outsideWindow_iff _ _ _).2 ⟨?_, ?_⟩⟩
  · cases cold : r.tmin with
    | none => rfl
    | some x =>
      rw [cold] at low
      simp only [Option.all_some, decide_eq_true_eq] at low ⊢
      omega
  · cases hot : r.tmax with
    | none => rfl
    | some x =>
      rw [hot] at high
      simp only [Option.all_some, decide_eq_true_eq] at high ⊢
      omega

theorem chargeTransition_deep {r : ScanRecord} {s : State} (asks : s.asks r) (heard : s.smp.invalidCount < 3)
    (stored : s.chg.latest = (s.chg.stored r).latest) : DeepKept s (chargeTransition r s) := by
  obtain ⟨path, ⟨done, low⟩ | ⟨paused, resumes⟩⟩ := asks
  · have e : chargeTransition r s = requestCharge s := by
      unfold chargeTransition
      rw [done]
      exact if_pos low
    obtain ⟨away, state⟩ := requestCharge_free path
    refine Or.inr ⟨?_, e ▸ away⟩
    rw [e, done]
    rcases state with ⟨state, -⟩ | state | state <;> rw [state] <;> nofun
  · have e : chargeTransition r s = requestCharge { s with chg := { s.chg with pauseReason := .none } } := by
      unfold chargeTransition
      rw [paused]
      exact if_pos resumes
    have admits : ({ s with chg := { s.chg with pauseReason := .none } } : State).admits := resumable_admits resumes heard stored
    obtain ⟨away, state⟩ := requestCharge_free (s := { s with chg := { s.chg with pauseReason := .none } }) path
    refine Or.inr ⟨?_, e ▸ away⟩
    rw [e, paused]
    rcases state with ⟨-, refused⟩ | state | state
    · exact absurd admits refused
    · rw [state]; nofun
    · rw [state]; nofun

theorem chargeJudge_deep {r : ScanRecord} {s : State} (valid : r.isValid = true) (asks : s.asks r) (heard : s.smp.invalidCount < 3) :
    DeepKept s (chargeJudge r s) := by
  obtain ⟨state, arb, settings⟩ := storeLatest_kept r s
  have kept := (storeLatest_byExchange r s).deep
  have stored : (storeLatest r s).chg.latest = (s.chg.stored r).latest ∧ (storeLatest r s).smp = s.smp := by
    rw [storeLatest_eq]
    split
    · exact ⟨rfl, rfl⟩
    · unfold reformOrder
      rw [putOrder_eq]
      exact ⟨rfl, rfl⟩
  have asks' : (storeLatest r s).asks r := by
    unfold State.asks
    rw [state, arb, settings]
    exact asks
  have rests : (storeLatest r s).chg.state = .done ∨ (storeLatest r s).chg.state = .paused := by
    rw [state]
    exact asks.2.imp And.left And.left
  have steps : chargeSteps r (storeLatest r s) = chargeTransition r (storeLatest r s) := by
    unfold chargeSteps
    rcases rests with rest | rest <;> rw [rest] <;> rfl
  have moved := chargeTransition_deep asks' (by rw [stored.2]; exact heard) stored.1
  have judged : chargeJudge r s = bleedScan r (chargeTransition r (storeLatest r s)) := by
    rw [← steps]
    exact if_pos valid
  have bled : DeepKept (chargeTransition r (storeLatest r s)) (chargeJudge r s) ∧ (chargeJudge r s).arb = (chargeTransition r (storeLatest r s)).arb
      ∧ (chargeJudge r s).chg.state = (chargeTransition r (storeLatest r s)).chg.state := by
    rw [judged, bleedScan_eq]
    split
    · exact ⟨Or.inl rfl, rfl, rfl⟩
    · exact ⟨Or.inl rfl, rfl, rfl⟩
  obtain ⟨-, path, same⟩ := bled
  unfold DeepKept at moved ⊢
  rw [path, same, ← state]
  refine moved.imp (fun deep => ?_) id
  rw [judged, (bleedScan_byExchange r _).deep, deep, kept]

theorem chargeScan_deep {r : ScanRecord} {s : State} (heard : r.isValid = true → s.smp.invalidCount < 3) : DeepKept s (chargeScan r s) := by
  by_cases asks : r.isValid = true ∧ s.asks r
  · obtain ⟨valid, asks⟩ := asks
    have present : s.chg.state ≠ .absent := by
      rcases asks.2 with ⟨done, -⟩ | ⟨paused, -⟩
      · rw [done]; nofun
      · rw [paused]; nofun
    rw [chargeScan_eq, if_neg present]
    split
    · exact Or.inl ((ByExchange.chg s _).trans (detachDock_byExchange _)).deep
    · exact chargeJudge_deep (s := { s with chg := { s.chg with detach := s.chg.detachCount r } }) valid asks (heard valid)
  · exact Or.inl ((chargeScan_byExchange r s).mono asks).deep

theorem releaseSuction_away {s : State} (away : s.arb.path ≠ .discharge) : releaseSuction s = s := by
  rcases releaseSuction_cases s with ⟨-, e⟩ | ⟨path, -⟩ | ⟨path, -⟩ | ⟨path, -⟩
  · exact e
  all_goals exact absurd path away

/-- After a scan the timer is as the scan judges it, unless the controller has moved on; an invalid scan leaves it alone. -/
theorem receiveScan_deep {r : ScanRecord} {s : State} (heard : r.isValid = true → s.smp.invalidCount < 3) :
    (receiveScan r s).pwr.deepTimer = s.deepAfter r
      ∨ r.isValid = true ∧ (s.chg.state = .done ∨ s.chg.state = .paused) ∧ (receiveScan r s).chg.state ≠ s.chg.state := by
  obtain ⟨_, _, _, _, _, _, handed⟩ := handedOff_frame r s
  have same : (handedOff r s).pwr.deepTimer = s.deepAfter r ∧ (handedOff r s).chg = s.chg ∧ (handedOff r s).smp = s.smp := by
    rw [handed]
    exact ⟨rfl, rfl, rfl⟩
  obtain ⟨deep, chg, smp⟩ := same
  by_cases asks : r.isValid = true ∧ (handedOff r s).asks r
  · have scan := chargeScan_deep (r := r) (s := handedOff r s) (by rw [smp]; exact heard)
    obtain ⟨valid, asks⟩ := asks
    rcases scan with stands | ⟨moved, away⟩
    · refine Or.inl (Eq.trans ?_ (stands.trans deep))
      rw [receiveScan_eq]
      split
      · exact (releaseSuction_byExchange _).deep
      · rfl
    · have e : receiveScan r s = chargeScan r (handedOff r s) := by
        rw [receiveScan_eq, releaseSuction_away away]
        exact ite_self _
      rw [e, ← chg]
      exact Or.inr ⟨valid, asks.2.imp And.left And.left, moved⟩
  · exact Or.inl (((receiveScan_byExchange r s).mono asks).deep.trans deep)

/-! ## SHELF_ENTER and the timer (10 R177, R179) -/

theorem atHandle_entry_none {s : State} (dt : Nat) (none_ : s.pwr.entry = .none) : (s.atHandle dt).pwr.entry = .none := by
  rw [atHandle_eq]
  unfold replaceAnswer shelfDelivered
  dsimp only
  split
  · rw [none_]
    exact none_
  · exact none_

theorem atHandle_entry_some {s : State} (dt : Nat) (some_ : s.pwr.entry ≠ .none) : (s.atHandle dt).pwr.entry ≠ .none := by
  rw [atHandle_eq]
  unfold replaceAnswer shelfDelivered
  dsimp only
  split
  · split
    · nofun
    · exact some_
  · exact some_

theorem shelfEnter_row {dt : Nat} {tag : Byte} {s x : State} {c : Status} (opens : HandleOpen s)
    (owned : serveShelfEnter (s.atHandle dt) = ⟨x, c, []⟩) (switches : x.switches = (s.atHandle dt).switches) :
    ∃ t, exec (.shelfEnter dt .handle tag []) s = .next t ∧ SameButGens t (x.handleAnswers tag c []) :=
  row_served (link := .handle) (k := .shelfEnter) opens rfl (by decide) nofun rfl owned switches

theorem exec_deepDischargeTimerExpiry {s : State} {d : Nat} (runs : s.pwr.deepTimer = some d) :
    exec .deepDischargeTimerExpiry s = .next (event deepExpires (s.reach d)) := by
  change execDeepDischargeTimerExpiry s = _
  unfold execDeepDischargeTimerExpiry
  rw [runs]

/-! ## A shelf entry in a handle transaction (09 R174) -/

theorem shiftOut_pwr (n : Nat) (s : State) : (shiftOut n s).pwr.awake = s.pwr.awake := by
  unfold shiftOut
  dsimp only
  split
  · rw [event_pwr]
    unfold shelfDelivered
    split <;> rfl
  · rfl

theorem exec_shelfEntry_ready {s : State} {cause : ShelfCause} (ready : s.shelfReady = some cause) :
    exec (.shelfEntry none) s = .next (event (carryShelf cause) s) := by
  change execShelfEntry none s = _
  unfold execShelfEntry cutTransaction
  dsimp only
  rw [ready]

theorem exec_shelfEntry_waits {s : State} (waits : s.shelfReady = none) : exec (.shelfEntry none) s = .next s := by
  change execShelfEntry none s = _
  unfold execShelfEntry cutTransaction
  dsimp only
  rw [waits]

theorem carryShelf_asleep (cause : ShelfCause) (s : State) : (event (carryShelf cause) s).pwr.awake = false := by
  rw [event_pwr]
  unfold carryShelf
  dsimp only
  rw [recompute_pwr]

/-- The part that a transaction carries out of its request is its outgoing side; the entry follows on that. -/
theorem exec_shelfEntry_cut (mosi : List Byte) {s : State} (awake : s.pwr.awake = true) :
    ∃ u v, exec (.handleTransaction 0 (List.replicate mosi.length 0)) s = .next u ∧ exec (.shelfEntry none) u = .next v
      ∧ exec (.shelfEntry (some mosi)) s = .next (if v.pwr.awake = true then s else v) := by
  have cut : exec (.handleTransaction 0 (List.replicate mosi.length 0)) s = .next (shiftOut mosi.length s) := by
    rw [exec_handleTransaction awake, shiftIn_nothing, List.length_replicate]
    · rfl
    · cases mosi with
      | nil => exact Or.inl rfl
      | cons => exact Or.inr (Or.inl rfl)
  refine ⟨shiftOut mosi.length s, ?_⟩
  cases ready : (shiftOut mosi.length s).shelfReady with
  | none =>
    refine ⟨_, cut, exec_shelfEntry_waits ready, ?_⟩
    rw [if_pos ((shiftOut_pwr _ s).trans awake)]
    change execShelfEntry (some mosi) s = _
    unfold execShelfEntry cutTransaction
    dsimp only
    rw [ready]
  | some cause =>
    refine ⟨_, cut, exec_shelfEntry_ready ready, ?_⟩
    rw [if_neg (by rw [carryShelf_asleep]; nofun)]
    change execShelfEntry (some mosi) s = _
    unfold execShelfEntry cutTransaction
    dsimp only
    rw [ready]

/-! ## What a shelf entry leaves of each block (10 R180) -/

/-- The controller at shelf entry, with the number its order then has. -/
def Charger.shelved (ceil num : Nat) (c : Charger) : Charger :=
  { c with
    state := .absent, attach := 0, detach := 0, helloTimer := none, preTimer := none, balTimer := none, cap := none, read := none
    unreadSince := none, excess := 0, cold := false, bleeds := Bleeds.off, pauseReason := .none, orderCur := 0, orderCeil := ceil
    orderNum := num }

theorem shelveCharger_eq (s : State) :
    ∃ (num : Nat) (h : BitVec 15) (d : BitVec 3),
      shelveCharger s
        = { s with
            chg := s.chg.shelved s.settings.chgVcell num, acct := s.acct.closeSession
            ports := { s.ports with handleNotes := h, dockNotes := d } }
        ∧ (s.chg.orderCeil = s.settings.chgVcell →
          num = if s.chg.orderCur = 0 then s.chg.orderNum else (s.chg.orderNum + 1) % 256) := by
  have formed : reformOrder { s with chg := { s.chg with state := .absent } }
      = putOrder 0 s.settings.chgVcell { s with chg := { s.chg with state := .absent } } := rfl
  obtain ⟨p, hp⟩ : ∃ p, p = putOrder 0 s.settings.chgVcell { s with chg := { s.chg with state := .absent } } := ⟨_, rfl⟩
  have num (ceil : s.chg.orderCeil = s.settings.chgVcell) :
      p.chg.orderNum = if s.chg.orderCur = 0 then s.chg.orderNum else (s.chg.orderNum + 1) % 256 := by
    rw [hp]
    unfold putOrder
    by_cases rests : s.chg.orderCur = 0
    · rw [if_pos ⟨rests.symm, ceil.symm⟩, if_pos rests]
    · rw [if_neg fun h => rests h.1.symm, if_neg rests]
      rfl
  have eq := putOrder_eq 0 s.settings.chgVcell { s with chg := { s.chg with state := .absent } }
  rw [← hp] at eq
  unfold shelveCharger
  dsimp only
  rw [formed, ← hp, eq]
  refine ⟨p.chg.orderNum, ?_⟩
  split
  · exact ⟨_, _, rfl, num⟩
  · exact ⟨_, _, rfl, num⟩

theorem shelveCharger_noted (s : State) :
    Standing s (shelveCharger s) ∧ (shelveCharger s).noted .chargeState ∧ (s.chg.state ≠ .absent → (shelveCharger s).noted .dockChange) := by
  obtain ⟨p, hp⟩ : ∃ p, p = reformOrder { s with chg := { s.chg with state := .absent } } := ⟨_, rfl⟩
  have order : Standing s p := hp ▸ Standing.trans (t := { s with chg := { s.chg with state := .absent } }) (Standing.of_eq rfl rfl) (reformOrder_standing _)
  obtain ⟨u, hu⟩ : ∃ u, u = raiseHandle .chargeState
      { p with chg := { p.chg.cleared with detach := 0, faultCause := s.chg.faultCause }, acct := p.acct.closeSession } := ⟨_, rfl⟩
  have raised : Standing p u ∧ u.noted .chargeState :=
    hu ▸ ⟨Standing.trans (t := { p with chg := { p.chg.cleared with detach := 0, faultCause := s.chg.faultCause }, acct := p.acct.closeSession })
      (Standing.of_eq rfl rfl) (raiseHandle_standing _ _), noted_raise _ _⟩
  have e : shelveCharger s = if s.chg.state = .absent then u else raiseHandle .dockChange u := by
    rw [hu, hp]
    rfl
  rw [e]
  split
  · rename_i absent
    exact ⟨order.trans raised.1, raised.2, fun present => absurd absent present⟩
  · exact ⟨order.trans (raised.1.trans (raiseHandle_standing _ _)), (raiseHandle_standing _ _).1 _ raised.2, fun _ => noted_raise _ _⟩

/-- With the target at rest, the wand switched off leaves the regulator alone. -/
theorem wandPowerOff_suc {s : State} (rest : s.suc.target = 0) : (wandPowerOff s).suc = s.suc := by
  have first : (recompute s.wandCut).suc = s.suc := recompute_suc_rest rest
  have gone (t : State) (still : t.suc.target = 0) : (headAbsent t).suc = t.suc := by
    unfold headAbsent
    split
    · exact recompute_suc_rest still
    · rfl
  change (headAbsent (recompute s.wandCut)).suc = s.suc
  rw [gone _ (by rw [first]; exact rest), first]

/-- `s` with the motor's blocks shelved. -/
def State.motorShelved (s : State) : State := { s with suc := s.suc.shelve, dirt := { s.dirt.leave with count := s.dirt.count } }

/-- `s` with every block shelved, but for the grants. -/
def State.shelving (cause : ShelfCause) (s : State) : State :=
  { s with
    smp := { s.smp with phase := .stopped, run := ⟨0, 0⟩ }, arb := s.arb.dropBoth, bin := { s.bin with latchTimer := none }
    ports := { s.ports with wand := WirePort.idle s.ports.wand.sent, dock := WirePort.idle s.ports.dock.sent }
    pwr := { s.pwr with awake := false, entry := .none, shelfCause := some cause, deepTimer := none } }

theorem carryShelf_eq (cause : ShelfCause) (s : State) :
    carryShelf cause s = recompute ((shelveCharger (wandPowerOff s.motorShelved)).shelving cause) := rfl

/-- With both stacks empty nothing is demanded and nothing granted. -/
theorem recompute_emptied {s : State} (suction : s.arb.suction = []) (brush : s.arb.brush = []) :
    (recompute s).arb
      = { s.arb with ds := 0, dh := 0, gs := 0, gh := 0, shortS := false, shortH := false, used := s.alw.pallow } := by
  have ds := demandS_zero (Or.inr (Or.inr suction))
  have dh := demandH_zero (Or.inr (Or.inr brush))
  have gh : s.grantH = 0 := by unfold State.grantH; rw [dh, Nat.zero_min]
  have gs : s.grantS = 0 := by unfold State.grantS; rw [ds, Nat.zero_min]
  rw [recompute_arb]
  unfold State.formGrants
  rw [ds, dh, gs, gh]
  rfl

theorem closeSession_eq (a : Account) : a.closeSession = { a with session := false, learning := a.learning && !a.session } := by
  unfold Account.closeSession
  cases session : a.session with
  | true => rw [Bool.not_true, Bool.and_false, if_pos rfl]
  | false => rw [Bool.not_false, Bool.and_true, if_neg Bool.false_ne_true, ← session]

/-- Settles O58: the request, the timer, the entry's occasion, and what an entry leaves. -/
theorem shelfEntered : Obligations.ShelfEntered := by
  intro dt tag s
  refine ⟨fun opens none_ held => ?_, fun opens free => ?_, fun idle => ?_, fun d runs => ?_, fun waits => ?_,
    fun mosi awake => exec_shelfEntry_cut mosi awake, fun start first k phase => ?_, fun cause awake calm still entry _ => ?_⟩
  · refine shelfEnter_row opens ?_ rfl
    have entry := atHandle_entry_none dt none_
    have same : (s.atHandle dt).arb = s.arb ∧ (s.atHandle dt).runRequest = s.runRequest := by
      rw [atHandle_eq]
      exact ⟨rfl, rfl⟩
    exact if_pos ⟨entry, by rw [same.1, same.2]; exact held⟩
  · have granted : serveShelfEnter (s.atHandle dt) = ⟨{ s.atHandle dt with pwr := { s.pwr with entry := .request false } }, .accepted, []⟩ := by
      have frame : ({ s.atHandle dt with pwr := { (s.atHandle dt).pwr with entry := .request false } } : State)
          = { s.atHandle dt with pwr := { s.pwr with entry := .request false } } := by
        rw [atHandle_frame]
      rw [← frame]
      refine if_neg fun held => ?_
      have same : (s.atHandle dt).arb = s.arb ∧ (s.atHandle dt).runRequest = s.runRequest := by
        rw [atHandle_eq]
        exact ⟨rfl, rfl⟩
      obtain ⟨none_, held⟩ := held
      rw [same.1, same.2] at held
      rcases free with pending | ⟨idle, absent⟩
      · exact atHandle_entry_some dt pending none_
      · rcases held with path | run
        · exact path idle
        · exact absurd (absent.symm.trans run) nofun
    exact shelfEnter_row opens granted rfl
  · change execDeepDischargeTimerExpiry s = _
    unfold execDeepDischargeTimerExpiry
    rw [idle]
  · exact ⟨_, exec_deepDischargeTimerExpiry runs, sameButGens_event rfl rfl⟩
  · refine exec_shelfEntry_waits ?_
    unfold State.shelfReady
    rcases waits with asleep | flies | measures | none_ | waits
    · rw [asleep]
      rfl
    · cases calm : s.alw.inflight with
      | none => rw [calm] at flies; cases flies
      | some => rw [Option.isNone_some, Bool.and_false]; rfl
    · cases still : s.bin.meas with
      | none => rw [still] at measures; cases measures
      | some => rw [Option.isNone_some, Bool.and_false]; rfl
    · rw [none_]
      exact ite_self _
    · rw [waits]
      exact ite_self _
  · obtain ⟨t, r, n, next, table, ⟨count, sound⟩, e⟩ := scan_received k phase
    have deep := receiveScan_deep (r := r) (s := s.atScan start n) fun valid => by
      change n.invalidCount < 3
      rw [count, sound ((isValid_iff r).1 valid)]
      omega
    have now : t.now = (s.atScan start n).now := by
      obtain ⟨_, _, _, _, _, _, _, _, _, _, _, _, _, frame⟩ := receiveScan_frame r (s.atScan start n)
      rw [e, frame]
    refine ⟨t, r, next, table, fun invalid => ?_, fun valid stays => ?_⟩
    · have no : ¬r.isValid = true := fun h => invalid ((isValid_iff r).1 h)
      rw [e]
      rcases deep with deep | ⟨valid, -⟩
      · exact deep.trans (if_neg no)
      · exact absurd valid no
    · have yes := (isValid_iff r).2 valid
      rcases deep with deep | ⟨-, rests, moved⟩
      · have timer : t.pwr.deepTimer = (s.atScan start n).deepAfter r := by rw [e]; exact deep
        rw [timer]
        unfold State.deepAfter
        rw [if_pos yes, now]
        refine if_congr ?_ rfl rfl
        unfold State.deepCondition
        rw [Bool.and_eq_true, Bool.and_eq_true, decide_eq_true_eq, beq_iff_eq, Bool.not_eq_true', and_assoc]
        rfl
      · refine absurd ?_ moved
        rcases stays with absent | same
        · rcases rests with done | paused
          · exact absurd (absent.symm.trans done) nofun
          · exact absurd (absent.symm.trans paused) nofun
        · have chg : t.chg = (receiveScan r (s.atScan start n)).chg := by rw [e]
          rw [← chg]
          exact same
  · have ready : s.shelfReady = some cause := by
      unfold State.shelfReady
      rw [awake, calm, still, entry]
      cases cause <;> rfl
    obtain ⟨g, m, noted⟩ := event_noted (carryShelf cause) s
    obtain ⟨x, hx⟩ : ∃ x, x = wandPowerOff s.motorShelved := ⟨_, rfl⟩
    obtain ⟨y, hy⟩ : ∃ y, y = shelveCharger x := ⟨_, rfl⟩
    have e : carryShelf cause s = recompute (y.shelving cause) := by rw [carryShelf_eq, ← hx, ← hy]
    obtain ⟨before, a, _, _, hd, _, _, ex⟩ := wandPowerOff_byHandOff s.motorShelved
    have suc : x.suc = s.suc.shelve := hx ▸ wandPowerOff_suc (s := s.motorShelved) rfl
    have present := wandPowerOff_present (s := s.motorShelved)
    have absent := wandPowerOff_absent (s := s.motorShelved)
    rw [← hx] at ex before present absent
    obtain ⟨num, _, _, ey, counts⟩ := shelveCharger_eq x
    obtain ⟨mid, charge, dock⟩ := shelveCharger_noted x
    rw [← hy] at ey mid charge dock
    have arb := recompute_emptied (s := y.shelving cause) rfl rfl
    have rest : (recompute (y.shelving cause)).suc = s.suc.shelve := by
      have target : (y.shelving cause).suc = s.suc.shelve := by
        rw [ey]
        exact suc
      rw [recompute_suc_rest (by rw [target]; rfl), target]
    have stands : Standing y (recompute (y.shelving cause)) :=
      Standing.trans (t := y.shelving cause) (Standing.of_eq rfl rfl) (recompute_standing _)
    obtain ⟨_, _, _, _, _, frame⟩ := recompute_regranted (y.shelving cause)
    have chg : y.chg = s.chg.shelved s.settings.chgVcell num := by
      rw [ey, ex]
      rfl
    refine ⟨_, exec_shelfEntry_ready ready, ?_⟩
    rw [noted, e]
    refine ⟨?_, ?_, ?_, ?_, ?_, ?_, ?_, rest, fun there => ?_, fun gone => ?_, ?_, ?_, ?_, ?_, fun ceil => ?_, ?_, fun was => ?_, ?_, ?_,
      ?_, ?_, ?_, ?_, ?_, ?_, ?_, ?_, ?_⟩
    case refine_7 =>
      rw [arb, ey, ex]
      rfl
    case refine_8 =>
      obtain ⟨head, changed, -⟩ := present there
      refine ⟨?_, stands.1 _ (mid.1 _ changed)⟩
      rw [frame]
      change y.head = _
      rw [ey]
      exact head
    case refine_9 =>
      obtain ⟨head, -⟩ := absent gone
      rw [frame]
      change y.head = _
      rw [ey]
      exact head
    case refine_12 =>
      rw [frame]
      change y.acct = _
      rw [ey, closeSession_eq, ex]
      rfl
    case refine_13 =>
      rw [frame]
      change y.chg = { s.chg with
        state := .absent, attach := 0, detach := 0, helloTimer := none, preTimer := none, balTimer := none, cap := none, read := none
        unreadSince := none, excess := 0, cold := false, bleeds := Bleeds.off, pauseReason := .none, orderCur := 0
        orderCeil := s.settings.chgVcell, orderNum := y.chg.orderNum }
      rw [chg]
      rfl
    case refine_14 =>
      have same : x.chg = s.chg ∧ x.settings = s.settings := by rw [ex]; exact ⟨rfl, rfl⟩
      rw [same.1, same.2] at counts
      rw [frame]
      change y.chg.orderNum = _
      rw [chg]
      exact counts ceil
    case refine_15 => exact stands.1 _ charge
    case refine_16 =>
      refine stands.1 _ (dock ?_)
      rw [ex]
      exact was
    all_goals
      rw [frame, ey, ex]
      rfl

end Sys2Proof.Machine
end

section
/-! PROOFS. The charge controller's work on a scan, by who holds the path when it begins (01 R19; 03 R60 to R62). -/

namespace Sys2Proof.Machine

/-! ## The controller's own changes -/

/-- `t` is `s` but for the controller, the account and the notices, which are only raised. -/
def Reordered (s t : State) : Prop := Standing s t ∧ ∃ (c : Charger) (a : Account), ChargedTo a c s t

theorem Reordered.refl (s : State) : Reordered s s := ⟨Standing.refl s, s.chg, s.acct, _, _, rfl⟩

theorem Reordered.trans {s t u : State} (h : Reordered s t) (k : Reordered t u) : Reordered s u := by
  obtain ⟨first, _, _, _, _, rfl⟩ := h
  obtain ⟨second, c, a, _, _, rfl⟩ := k
  exact ⟨first.trans second, c, a, _, _, rfl⟩

theorem Reordered.chg (s : State) (c : Charger) : Reordered s { s with chg := c } := ⟨Standing.of_eq rfl rfl, c, s.acct, _, _, rfl⟩

theorem Reordered.chgAcct (s : State) (c : Charger) (a : Account) : Reordered s { s with chg := c, acct := a } :=
  ⟨Standing.of_eq rfl rfl, c, a, _, _, rfl⟩

theorem Reordered.arb {s t : State} (h : Reordered s t) : t.arb = s.arb := by
  obtain ⟨-, _, _, _, _, rfl⟩ := h
  rfl

theorem Reordered.suc {s t : State} (h : Reordered s t) : t.suc = s.suc := by
  obtain ⟨-, _, _, _, _, rfl⟩ := h
  rfl

/-- The two counts of the dock contact stand, and a dock that is there is not lost. -/
def Charger.Stays (c d : Charger) : Prop := d.attach = c.attach ∧ d.detach = c.detach ∧ (c.state ≠ .absent → d.state ≠ .absent)

theorem Charger.Stays.trans {c d e : Charger} (h : c.Stays d) (k : d.Stays e) : c.Stays e :=
  ⟨k.1.trans h.1, k.2.1.trans h.2.1, fun present => k.2.2 (h.2.2 present)⟩

theorem Charger.Stays.of_eq {c d : Charger} (h : d = c) : c.Stays d := by
  rw [h]
  exact ⟨rfl, rfl, id⟩

/-- The controller's own changes with the dock there. -/
def Continued (s t : State) : Prop := Reordered s t ∧ s.chg.Stays t.chg

theorem Continued.refl (s : State) : Continued s s := ⟨Reordered.refl s, Charger.Stays.of_eq rfl⟩

theorem Continued.trans {s t u : State} (h : Continued s t) (k : Continued t u) : Continued s u := ⟨h.1.trans k.1, h.2.trans k.2⟩

theorem Continued.chg {s : State} {c : Charger} (h : s.chg.Stays c) : Continued s { s with chg := c } := ⟨Reordered.chg s c, h⟩

theorem Continued.chgAcct {s : State} {c : Charger} (a : Account) (h : s.chg.Stays c) : Continued s { s with chg := c, acct := a } :=
  ⟨Reordered.chgAcct s c a, h⟩

theorem setCharge_reordered (st : ChargeState) (s : State) : Reordered s (setCharge st s) := by
  refine ⟨setCharge_standing st s, ?_⟩
  rw [setCharge_eq]
  exact ⟨_, s.acct, _, _, rfl⟩

theorem setCharge_continued {st : ChargeState} (s : State) (there : st ≠ .absent) : Continued s (setCharge st s) := by
  refine ⟨setCharge_reordered st s, ?_⟩
  rw [setCharge_eq]
  exact ⟨rfl, rfl, fun _ => there⟩

theorem putOrder_reordered (current ceil : Nat) (s : State) : Reordered s (putOrder current ceil s) := by
  refine ⟨putOrder_standing current ceil s, ?_⟩
  rw [putOrder_eq]
  exact ⟨_, s.acct, _, _, rfl⟩

theorem putOrder_continued (current ceil : Nat) (s : State) : Continued s (putOrder current ceil s) := by
  refine ⟨putOrder_reordered current ceil s, ?_⟩
  rw [putOrder_eq]
  exact ⟨rfl, rfl, id⟩

theorem reformOrder_reordered (s : State) : Reordered s (reformOrder s) := putOrder_reordered _ _ s

theorem reformOrder_continued (s : State) : Continued s (reformOrder s) := putOrder_continued _ _ s

theorem raiseHandle_reordered (n : HandleNotice) (s : State) : Reordered s (raiseHandle n s) :=
  ⟨raiseHandle_standing n s, s.chg, s.acct, _, _, rfl⟩

theorem raiseHandle_continued (n : HandleNotice) (s : State) : Continued s (raiseHandle n s) :=
  ⟨raiseHandle_reordered n s, Charger.Stays.of_eq rfl⟩

theorem raiseDock_continued (n : DockNotice) (s : State) : Continued s (raiseDock n s) :=
  ⟨⟨raiseDock_standing n s, s.chg, s.acct, _, _, rfl⟩, Charger.Stays.of_eq rfl⟩

theorem charged_continued {s : State} {c : Charger} (a : Account) (counts : c.attach = s.chg.attach ∧ c.detach = s.chg.detach)
    (there : c.state ≠ .absent) : Continued s (s.charged c a) := by
  have own : Reordered s { setCharge c.state s with chg := c, acct := a } :=
    (setCharge_reordered c.state s).trans (Reordered.chgAcct _ c a)
  have first : Continued s { setCharge c.state s with chg := c, acct := a } := ⟨own, counts.1, counts.2, fun _ => there⟩
  exact first.trans (reformOrder_continued _)

theorem pauseCharge_continued (reason : PauseReason) (s : State) : Continued s (pauseCharge reason s) := by
  have e : pauseCharge reason s = s.charged (s.chg.paused reason) s.acct := by
    unfold pauseCharge State.charged Charger.paused
    simp only [setCharge_chg]
    rw [setCharge_eq]
  rw [e]
  exact charged_continued _ ⟨rfl, rfl⟩ nofun

theorem beginPrecharge_continued (s : State) : Continued s (beginPrecharge s) := by
  have e : beginPrecharge s = s.charged (s.chg.precharged s.now) s.acct := by
    unfold beginPrecharge State.charged Charger.precharged
    simp only [setCharge_chg]
    rw [setCharge_eq]
    rfl
  rw [e]
  exact charged_continued _ ⟨rfl, rfl⟩ nofun

theorem beginBulk_continued (s : State) : Continued s (beginBulk s) := by
  have e : beginBulk s = s.charged s.chg.bulked s.acct := by
    unfold beginBulk State.charged Charger.bulked
    simp only [setCharge_chg]
    rw [setCharge_eq]
  rw [e]
  exact charged_continued _ ⟨rfl, rfl⟩ nofun

/-- The controller at entry to TOPOFF, but for its order. -/
def Charger.topped (c : Charger) : Charger := { c with state := .topoff, excess := 0 }

theorem enterTopoff_eq (s : State) : enterTopoff s = s.charged s.chg.topped s.acct := by
  unfold enterTopoff State.charged Charger.topped
  simp only [setCharge_chg]
  rw [setCharge_eq]

/-- The controller at entry to BALANCE, but for its order. -/
def Charger.balanced (now : Nat) (c : Charger) : Charger :=
  { c with state := .balance, balTimer := some (now + 7200000000), excess := 0 }

theorem enterBalance_eq (s : State) : enterBalance s = releaseCharge (s.charged (s.chg.balanced s.now) s.acct) := by
  unfold enterBalance State.charged Charger.balanced
  simp only [setCharge_chg]
  rw [setCharge_eq]
  rfl

theorem storeLatest_continued (r : ScanRecord) (s : State) : Continued s (storeLatest r s) := by
  have stored : Continued s { s with chg := s.chg.stored r } := Continued.chg ⟨rfl, rfl, id⟩
  rw [storeLatest_eq]
  split
  · exact stored
  · exact stored.trans (reformOrder_continued _)

theorem bleedScan_continued (r : ScanRecord) (s : State) : Continued s (bleedScan r s) := by
  rw [bleedScan_eq]
  split
  · exact Continued.chg ⟨rfl, rfl, id⟩
  · exact Continued.refl s

theorem undocked_reordered (s : State) : Reordered s s.undocked :=
  ((setCharge_reordered .absent s).trans (reformOrder_reordered _)).trans (Reordered.chgAcct _ _ _)

/-! ## The shape of the whole -/

/-- Own changes, at most one release of or request for the path, own changes again. -/
def ChargeWork (s t : State) : Prop :=
  ∃ u v, Continued s u ∧ (v = u ∨ v = releaseCharge u ∨ v = requestCharge u) ∧ Continued v t

theorem ChargeWork.own {s t : State} (h : Continued s t) : ChargeWork s t := ⟨t, t, h, Or.inl rfl, Continued.refl t⟩

theorem ChargeWork.releases {s t : State} (h : Continued s t) : ChargeWork s (releaseCharge t) :=
  ⟨t, _, h, Or.inr (Or.inl rfl), Continued.refl _⟩

theorem ChargeWork.requests {s t : State} (h : Continued s t) : ChargeWork s (requestCharge t) :=
  ⟨t, _, h, Or.inr (Or.inr rfl), Continued.refl _⟩

theorem ChargeWork.after {s t u : State} (h : Continued s t) (k : ChargeWork t u) : ChargeWork s u := by
  obtain ⟨_, _, first, mid, last⟩ := k
  exact ⟨_, _, h.trans first, mid, last⟩

theorem ChargeWork.before {s t u : State} (h : ChargeWork s t) (k : Continued t u) : ChargeWork s u := by
  obtain ⟨_, _, first, mid, last⟩ := h
  exact ⟨_, _, first, mid, last.trans k⟩

theorem enterPaused_shape (reason : PauseReason) (s : State) : ChargeWork s (enterPaused reason s) :=
  ChargeWork.releases (pauseCharge_continued reason s)

theorem enterDone_shape (s : State) : ChargeWork s (enterDone s) := by
  rw [enterDone_eq]
  exact ChargeWork.releases (charged_continued _ ⟨rfl, rfl⟩ nofun)

theorem enterChargeFault_shape (cause : ChargeCause) (s : State) : ChargeWork s (enterChargeFault cause s) := by
  rw [enterChargeFault_eq]
  have failed : Continued s (s.charged (s.chg.failed cause) { s.acct with learning := false }) := charged_continued _ ⟨rfl, rfl⟩ nofun
  exact ChargeWork.releases (failed.trans ((raiseHandle_continued _ _).trans (raiseDock_continued _ _)))

theorem topoffScan_shape (r : ScanRecord) (s : State) : ChargeWork s (topoffScan r s) := by
  unfold topoffScan
  dsimp only
  have lowered : Continued s
      (if s.settings.chgVcell ≤ r.cells.vmax then putOrder (s.chg.orderCur - 20) s.settings.chgVcell s else s) := by
    split
    · exact putOrder_continued _ _ s
    · exact Continued.refl s
  refine ChargeWork.after lowered ?_
  generalize (if s.settings.chgVcell ≤ r.cells.vmax then putOrder (s.chg.orderCur - 20) s.settings.chgVcell s else s) = t
  split
  · split
    · rw [enterBalance_eq]
      exact ChargeWork.releases (charged_continued _ ⟨rfl, rfl⟩ nofun)
    · exact enterDone_shape t
  · exact ChargeWork.own (Continued.refl t)

theorem chargeTransition_shape (r : ScanRecord) (s : State) : ChargeWork s (chargeTransition r s) := by
  have stays : ChargeWork s s := ChargeWork.own (Continued.refl s)
  unfold chargeTransition
  cases s.chg.state with
  | precharge =>
    dsimp only
    split
    · exact ChargeWork.own (beginBulk_continued s)
    · exact stays
  | bulk =>
    dsimp only
    split
    · rw [enterTopoff_eq]
      exact ChargeWork.own (charged_continued _ ⟨rfl, rfl⟩ nofun)
    · exact stays
  | topoff => exact topoffScan_shape r s
  | balance =>
    dsimp only
    split
    · exact enterDone_shape s
    · exact stays
  | done =>
    dsimp only
    split
    · exact ChargeWork.requests (Continued.refl s)
    · exact stays
  | paused =>
    dsimp only
    split
    · exact ChargeWork.requests (Continued.chg ⟨rfl, rfl, id⟩)
    · exact stays
  | absent | qualify | waitIdle | fault => exact stays

theorem chargeSteps_shape (r : ScanRecord) (s : State) : ChargeWork s (chargeSteps r s) := by
  unfold chargeSteps
  split
  · exact enterChargeFault_shape _ s
  split
  · exact enterPaused_shape _ s
  split
  · exact enterPaused_shape _ s
  split
  · dsimp only
    have counted : Continued s { s with chg := { s.chg with excess := excessAfter s.chg.orderCur r.i s.chg.excess } } :=
      Continued.chg ⟨rfl, rfl, id⟩
    refine ChargeWork.after counted ?_
    split
    · exact chargeTransition_shape r _
    · exact enterChargeFault_shape _ _
  · exact chargeTransition_shape r s

theorem chargeJudge_shape (r : ScanRecord) (s : State) : ChargeWork s (chargeJudge r s) := by
  unfold chargeJudge
  split
  · exact ChargeWork.after (storeLatest_continued r s) ((chargeSteps_shape r _).before (bleedScan_continued r _))
  · dsimp only
    have off : Continued s { s with chg := { s.chg with bleeds := Bleeds.off } } := Continued.chg ⟨rfl, rfl, id⟩
    refine ChargeWork.after off ?_
    split
    · exact enterPaused_shape _ _
    · exact ChargeWork.own (Continued.refl _)

/-- Neither a release of the path nor a request for it loses the dock. -/
theorem requestCharge_stays (s : State) : s.chg.Stays (requestCharge s).chg := by
  rcases requestCharge_cases s with ⟨-, e⟩ | ⟨-, e⟩ | ⟨-, e⟩
  · have chg : s.pathTaken.chg = s.chg := by rw [pathTaken_eq]
    have e' : requestCharge s = entrySelection s.pathTaken := e
    rw [e', ← chg]
    rcases entrySelection_cases s.pathTaken with ⟨reason, e⟩ | e | e <;> rw [e]
    · obtain ⟨-, stays⟩ := pauseCharge_continued reason s.pathTaken
      obtain same : (arbRelease .charger (pauseCharge reason s.pathTaken)).1.chg = (pauseCharge reason s.pathTaken).chg := by
        rcases arbRelease_cases .charger (pauseCharge reason s.pathTaken) with ⟨-, e⟩ | ⟨-, -, e⟩ | ⟨_, -, -, e⟩ <;> rw [e]
      rw [same]
      exact stays
    · exact (beginPrecharge_continued _).2
    · exact (beginBulk_continued _).2
  · rw [e]
    exact Charger.Stays.of_eq rfl
  · rw [e]
    exact ((setCharge_continued { s with arb := { s.arb with waiting := some .charger } } (st := .waitIdle) nofun).trans (reformOrder_continued _)).2

theorem ChargeWork.stays {s t : State} (h : ChargeWork s t) : s.chg.Stays t.chg := by
  obtain ⟨u, v, ⟨-, first⟩, mid, ⟨-, last⟩⟩ := h
  refine first.trans (Charger.Stays.trans ?_ last)
  rcases mid with rfl | rfl | rfl
  · exact Charger.Stays.of_eq rfl
  · exact Charger.Stays.of_eq (releaseCharge_chg u)
  · exact requestCharge_stays u

/-! ## By who holds the path -/

/-- `t` is `s` but for the path, the controller, the account, the notices and a shelf entry. -/
def ByControl (s t : State) : Prop :=
  Standing s t
    ∧ ∃ (p : Path) (w : Option Side) (c : Charger) (q : Account) (h : BitVec 15) (d : BitVec 3) (e : ShelfEntry) (deep : Option Nat),
      t = { s with
        arb := { s.arb with path := p, waiting := w }, chg := c, acct := q
        ports := { s.ports with handleNotes := h, dockNotes := d }, pwr := { s.pwr with entry := e, deepTimer := deep } }

theorem ByControl.refl (s : State) : ByControl s s := ⟨Standing.refl s, _, _, _, _, _, _, _, _, rfl⟩

theorem ByControl.trans {s t u : State} (h : ByControl s t) (k : ByControl t u) : ByControl s u := by
  obtain ⟨first, _, _, _, _, _, _, _, _, rfl⟩ := h
  obtain ⟨second, _, _, _, _, _, _, _, _, rfl⟩ := k
  exact ⟨first.trans second, _, _, _, _, _, _, _, _, rfl⟩

theorem Reordered.byControl {s t : State} (h : Reordered s t) : ByControl s t := by
  obtain ⟨stands, _, _, _, _, rfl⟩ := h
  exact ⟨stands, _, _, _, _, _, _, _, _, rfl⟩

theorem ByCharger.byControl {s t : State} (h : ByCharger s t) (stands : Standing s t) : ByControl s t := by
  obtain ⟨_, _, _, _, _, rfl⟩ := h
  exact ⟨stands, _, _, _, _, _, _, _, _, rfl⟩

theorem ByControl.path (s : State) (p : Path) (w : Option Side) : ByControl s { s with arb := { s.arb with path := p, waiting := w } } :=
  ⟨Standing.of_eq rfl rfl, _, _, _, _, _, _, _, _, rfl⟩

theorem ByControl.suc {s t : State} (h : ByControl s t) : t.suc = s.suc := by
  obtain ⟨-, _, _, _, _, _, _, _, _, rfl⟩ := h
  rfl

theorem ByControl.now {s t : State} (h : ByControl s t) : t.now = s.now := by
  obtain ⟨-, _, _, _, _, _, _, _, _, rfl⟩ := h
  rfl

theorem ByControl.bin {s t : State} (h : ByControl s t) : t.bin = s.bin := by
  obtain ⟨-, _, _, _, _, _, _, _, _, rfl⟩ := h
  rfl

theorem ByControl.dirt {s t : State} (h : ByControl s t) : t.dirt = s.dirt := by
  obtain ⟨-, _, _, _, _, _, _, _, _, rfl⟩ := h
  rfl

theorem ByControl.head {s t : State} (h : ByControl s t) : t.head = s.head := by
  obtain ⟨-, _, _, _, _, _, _, _, _, rfl⟩ := h
  rfl

theorem ByControl.gs {s t : State} (h : ByControl s t) : t.arb.gs = s.arb.gs := by
  obtain ⟨-, _, _, _, _, _, _, _, _, rfl⟩ := h
  rfl

theorem pathTaken_byControl (s : State) : ByControl s s.pathTaken := by
  have stands : Standing s s.pathTaken :=
    (Standing.trans (t := { s with arb := { s.arb with path := .charge, waiting := none } }) (Standing.of_eq rfl rfl)
      (cancelShelf_standing _)).trans (Standing.of_eq rfl rfl)
  refine ⟨stands, ?_⟩
  rw [pathTaken_eq]
  exact ⟨_, _, _, _, _, _, _, _, rfl⟩

/-- What the controller's work keeps of the path, by who holds it when it begins. -/
structure PathWork (s t : State) : Prop where
  /-- the motor holds the path, which the controller may only wait for -/
  discharging : s.arb.path = .discharge → s.arb.waiting ≠ some .suction →
    ByControl s t ∧ t.arb.path = .discharge ∧ t.arb.waiting ≠ some .suction
  /-- nobody waits and the motor does not hold the path, which the controller may take and give up -/
  alone : s.arb.path ≠ .discharge → s.arb.waiting = none → ByControl s t ∧ t.arb.path ≠ .discharge ∧ t.arb.waiting = none
  /-- a run waits behind the controller: it waits on, or starts with the release of the path (04 R71, R72) -/
  queued : s.arb.path = .charge → s.arb.waiting = some .suction → s.suc.state = .waitPath →
    Standing s t
      ∧ (ByControl s t ∧ t.arb.path = .charge ∧ t.arb.waiting = some .suction
        ∨ t.now = s.now ∧ t.arb.path = .discharge ∧ t.arb.waiting = none ∧ t.suc = s.suc.toStarting s.now ∧ t.bin = s.bin.aborted)

theorem PathWork.still {s t : State} (h : ByControl s t) (arb : t.arb = s.arb) : PathWork s t := by
  refine ⟨fun path wait => ⟨h, ?_, ?_⟩, fun path alone => ⟨h, ?_, ?_⟩, fun path queued _ => ⟨h.1, Or.inl ⟨h, ?_, ?_⟩⟩⟩ <;>
    (rw [arb]; assumption)

/-- Own changes before and after keep what is kept. -/
theorem PathWork.between {s u v t : State} (first : Reordered s u) (mid : PathWork u v) (last : Reordered v t) : PathWork s t := by
  obtain ⟨discharging, alone, queued⟩ := mid
  rw [first.arb] at discharging alone queued
  rw [first.suc] at queued
  refine ⟨fun path wait => ?_, fun path none_ => ?_, fun path wait waits => ?_⟩
  · rw [last.arb]
    obtain ⟨own, rest⟩ := discharging path wait
    exact ⟨first.byControl.trans (own.trans last.byControl), rest⟩
  · rw [last.arb]
    obtain ⟨own, rest⟩ := alone path none_
    exact ⟨first.byControl.trans (own.trans last.byControl), rest⟩
  · rw [last.arb, last.suc]
    obtain ⟨stands, rest⟩ := queued path wait waits
    refine ⟨first.1.trans (stands.trans last.1), rest.imp (fun h => ?_) fun h => ?_⟩
    · exact ⟨first.byControl.trans (h.1.trans last.byControl), h.2⟩
    · obtain ⟨-, _, _, _, _, rfl⟩ := first
      obtain ⟨-, _, _, _, _, rfl⟩ := last
      exact h

theorem releaseCharge_pathWork (s : State) : PathWork s (releaseCharge s) := by
  refine ⟨fun path wait => ?_, fun path none_ => ?_, fun path wait waits => ?_⟩
  · rcases releaseCharge_cases s with ⟨-, e⟩ | ⟨no, -⟩ | ⟨no, -⟩ | ⟨no, -⟩
    · rw [e]
      exact ⟨ByControl.refl s, path, wait⟩
    all_goals cases path.symm.trans no
  · by_cases mine : s.arb.path = .charge
    · rw [releaseCharge_alone mine none_]
      exact ⟨ByControl.path s .idle s.arb.waiting, nofun, none_⟩
    · rcases releaseCharge_cases s with ⟨-, e⟩ | ⟨no, -⟩ | ⟨no, -⟩ | ⟨no, -⟩
      · rw [e]
        exact ⟨ByControl.refl s, path, none_⟩
      all_goals exact absurd no mine
  · obtain ⟨⟨_, _, _, _, _, _, _, _, frame⟩, stands, -, -, free, -, starts⟩ := releaseCharge_spec path (Or.inr ⟨wait, waits⟩)
    obtain ⟨discharge, suc, -, bin⟩ := starts wait
    exact ⟨stands, Or.inr ⟨by rw [frame], discharge, free, suc, bin⟩⟩

theorem requestCharge_pathWork (s : State) : PathWork s (requestCharge s) := by
  have holds (mine : s.arb.path = .charge) : requestCharge s = s := by
    rcases requestCharge_cases s with ⟨no, -⟩ | ⟨-, e⟩ | ⟨no, -⟩
    · cases mine.symm.trans no
    · exact e
    · cases mine.symm.trans no
  refine ⟨fun path _ => ?_, fun path none_ => ?_, fun path wait waits => ?_⟩
  · rcases requestCharge_cases s with ⟨no, -⟩ | ⟨no, -⟩ | ⟨-, e⟩
    · cases path.symm.trans no
    · cases path.symm.trans no
    · have own := (setCharge_reordered .waitIdle { s with arb := { s.arb with waiting := some .charger } }).trans (reformOrder_reordered _)
      rw [e, own.arb]
      exact ⟨(ByControl.path s s.arb.path (some .charger)).trans own.byControl, path, nofun⟩
  · by_cases mine : s.arb.path = .charge
    · rw [holds mine]
      exact ⟨ByControl.refl s, path, none_⟩
    · rcases requestCharge_cases s with ⟨-, e⟩ | ⟨no, -⟩ | ⟨no, -⟩
      · have taken : s.pathTaken.arb.path = .charge ∧ s.pathTaken.arb.waiting = none := by rw [pathTaken_eq]; exact ⟨rfl, rfl⟩
        obtain ⟨stands, admitted, refused⟩ := entrySelection_taken taken.1 taken.2
        have e' : requestCharge s = entrySelection s.pathTaken := e
        rw [e']
        refine ⟨(pathTaken_byControl s).trans ((entrySelection_byCharger _).byControl stands), ?_⟩
        by_cases admits : s.pathTaken.admits
        · rw [(admitted admits).1, taken.1, taken.2]
          exact ⟨nofun, rfl⟩
        · rw [(refused admits).1]
          exact ⟨nofun, taken.2⟩
      · exact absurd no mine
      · exact absurd no path
  · rw [holds path]
    exact ⟨Standing.refl s, Or.inl ⟨ByControl.refl s, path, wait⟩⟩

theorem ChargeWork.pathWork {s t : State} (h : ChargeWork s t) : PathWork s t := by
  obtain ⟨u, v, ⟨first, -⟩, mid, ⟨last, -⟩⟩ := h
  refine PathWork.between first ?_ last
  rcases mid with rfl | rfl | rfl
  · exact PathWork.still (ByControl.refl _) rfl
  · exact releaseCharge_pathWork u
  · exact requestCharge_pathWork u

theorem arbWithdraw_byControl (side : Side) (s : State) :
    ByControl s (arbWithdraw side s) ∧ (arbWithdraw side s).arb.path = s.arb.path
      ∧ (s.arb.waiting = some side ∧ (arbWithdraw side s).arb.waiting = none ∨ (arbWithdraw side s).arb.waiting = s.arb.waiting ∧ s.arb.waiting ≠ some side) := by
  rcases arbWithdraw_cases side s with ⟨mine, e⟩ | ⟨other, e⟩ <;> rw [e]
  · exact ⟨ByControl.path s s.arb.path none, rfl, Or.inl ⟨mine, rfl⟩⟩
  · exact ⟨ByControl.refl s, rfl, Or.inr ⟨rfl, other⟩⟩

theorem detachDock_pathWork (s : State) : PathWork s (detachDock s) := by
  rw [detachDock_eq]
  have first := (undocked_reordered s).trans (raiseHandle_reordered .dockChange _)
  obtain ⟨discharging, alone, queued⟩ := PathWork.between first (releaseCharge_pathWork _) (Reordered.refl _)
  obtain ⟨own, path, wait⟩ := arbWithdraw_byControl .charger (releaseCharge (raiseHandle .dockChange s.undocked))
  refine ⟨fun h k => ?_, fun h k => ?_, fun h k waits => ?_⟩
  · obtain ⟨before, held, other⟩ := discharging h k
    refine ⟨before.trans own, path.trans held, ?_⟩
    rcases wait with ⟨-, none_⟩ | ⟨same, -⟩
    · rw [none_]; nofun
    · rw [same]; exact other
  · obtain ⟨before, held, none_⟩ := alone h k
    refine ⟨before.trans own, fun e => held (path.symm.trans e), ?_⟩
    rcases wait with ⟨-, gone⟩ | ⟨same, -⟩
    · exact gone
    · rw [same]; exact none_
  · obtain ⟨stands, rest⟩ := queued h k waits
    refine ⟨stands.trans own.1, rest.imp (fun ⟨before, held, still⟩ => ⟨before.trans own, path.trans held, ?_⟩)
      fun ⟨now, held, none_, suc, bin⟩ => ⟨?_, path.trans held, ?_, own.suc.trans suc, ?_⟩⟩
    · rcases wait with ⟨no, -⟩ | ⟨same, -⟩
      · cases still.symm.trans no
      · exact same.trans still
    · rw [own.now, now]
    · rcases wait with ⟨-, gone⟩ | ⟨same, -⟩
      · exact gone
      · exact same.trans none_
    · rw [own.bin, bin]

/-! ## An attach, and the whole scan -/

/-- A dock found and noticed: the lock latch is all that is left to clear. -/
theorem attached_byControl (s : State) :
    ByControl s (raiseHandle .dockChange s.attached) ∧ (raiseHandle .dockChange s.attached).arb = s.arb := by
  obtain ⟨c, a, h, e⟩ : ∃ c a h, raiseHandle .dockChange s.attached
      = { s with chg := c, acct := a, ports := { s.ports with handleNotes := h }, pwr := { s.pwr with entry := .none } } := by
    unfold State.attached
    dsimp only
    rw [setCharge_eq, cancelShelf_notes]
    exact ⟨_, _, _, rfl⟩
  have stands : Standing s (raiseHandle .dockChange s.attached) := by
    obtain ⟨stands, -⟩ := attached_byExchange s
    exact stands.trans (raiseHandle_standing _ _)
  rw [e] at stands ⊢
  exact ⟨⟨stands, _, _, _, _, _, _, _, _, rfl⟩, rfl⟩

theorem clearLock_off {s : State} (off : s.suc.lock = false) : clearLock s = s := by
  rcases clearLock_cases s with ⟨-, e⟩ | ⟨-, on, -⟩
  · rw [e, ← off]
  · exact absurd (off.symm.trans on) nofun

/-- A scan that clears no lock latch. -/
theorem chargeScan_pathWork {r : ScanRecord} {s : State} (off : s.suc.lock = false ∨ s.chg.state ≠ .absent ∨ s.chg.attachCount r < 5) :
    PathWork s (chargeScan r s) := by
  have counted (c : Charger) {t : State} (h : PathWork { s with chg := c } t) : PathWork s t :=
    PathWork.between (Reordered.chg s c) h (Reordered.refl t)
  rw [chargeScan_eq]
  by_cases absent : s.chg.state = .absent
  · rw [if_pos absent]
    by_cases found : 5 ≤ s.chg.attachCount r
    · rw [if_pos found, attachDock_eq]
      have unlocked : s.suc.lock = false := by
        rcases off with unlocked | present | few
        · exact unlocked
        · exact absurd absent present
        · omega
      refine counted { s.chg with attach := s.chg.attachCount r } ?_
      obtain ⟨own, arb⟩ := attached_byControl { s with chg := { s.chg with attach := s.chg.attachCount r } }
      rw [clearLock_off (by rw [own.suc]; exact unlocked)]
      exact PathWork.still own arb
    · rw [if_neg found]
      exact counted { s.chg with attach := s.chg.attachCount r } (chargeJudge_shape r _).pathWork
  · rw [if_neg absent]
    split
    · exact counted { s.chg with detach := s.chg.detachCount r } (detachDock_pathWork _)
    · exact counted { s.chg with detach := s.chg.detachCount r } (chargeJudge_shape r _).pathWork

/-- The release of the motor's path, by a regulator that does not wait. -/
theorem releaseSuction_free {s : State} (wait : s.arb.waiting ≠ some .suction) :
    ByControl s (releaseSuction s) ∧ (releaseSuction s).arb.path ≠ .discharge := by
  rcases releaseSuction_cases s with ⟨no, e⟩ | ⟨-, -, e⟩ | ⟨-, no, -⟩ | ⟨-, -, e⟩
  · rw [e]
    exact ⟨ByControl.refl s, no⟩
  · rw [e]
    exact ⟨ByControl.path s _ _, nofun⟩
  · exact absurd no wait
  · rw [e]
    have handed := ByControl.path s .charge none
    unfold chargeTaken
    split
    · have idle : (arbRelease .charger { s with arb := { s.arb with path := .charge, waiting := none } }).1
          = { s with arb := { s.arb with path := .idle, waiting := none } } := rfl
      rw [idle]
      exact ⟨ByControl.path s _ _, nofun⟩
    · obtain ⟨stands, admitted, refused⟩ := entrySelection_taken (s := { s with arb := { s.arb with path := .charge, waiting := none } }) rfl rfl
      refine ⟨handed.trans ((entrySelection_byCharger _).byControl stands), ?_⟩
      by_cases admits : ({ s with arb := { s.arb with path := .charge, waiting := none } } : State).admits
      · rw [(admitted admits).1]
        nofun
      · rw [(refused admits).1]
        nofun

end Sys2Proof.Machine
end

section
/-! PROOFS. The motor at a scan, from its own checks to what the whole scan leaves of it (04 R75 to R77; 01 R19). -/

namespace Sys2Proof.Machine

/-! ## The regulator's own work (04 R75 to R77) -/

/-- The regulator with the motor temperature of a valid scan taken. -/
def Suction.heard (r : ScanRecord) (u : Suction) : Suction := if r.isValid = true then { u with lastTemp := some r.motorTemp } else u

theorem heard_fields (r : ScanRecord) (u : Suction) :
    u.heard r = { u with lastTemp := if r.validity = .valid then some r.motorTemp else u.lastTemp } := by
  unfold Suction.heard
  by_cases valid : r.validity = .valid
  · rw [if_pos ((isValid_iff r).2 valid), if_pos valid]
  · rw [if_neg fun h => valid ((isValid_iff r).1 h), if_neg valid]

/-- `s` with the motor temperature taken. -/
def State.heard (r : ScanRecord) (s : State) : State := { s with suc := s.suc.heard r }

theorem heard_eq (r : ScanRecord) (s : State) :
    (if r.isValid = true then { s with suc := { s.suc with lastTemp := some r.motorTemp } } else s) = s.heard r := by
  unfold State.heard Suction.heard
  split <;> rfl

theorem heard_kept (r : ScanRecord) (u : Suction) :
    (u.heard r).state = u.state ∧ (u.heard r).enableAsked = u.enableAsked ∧ (u.heard r).target = u.target ∧ (u.heard r).lock = u.lock
      ∧ (u.heard r).pressed = u.pressed ∧ (u.heard r).overCount = u.overCount ∧ (u.heard r).speed = u.speed := by
  rw [heard_fields]
  exact ⟨rfl, rfl, rfl, rfl, rfl, rfl, rfl⟩

theorem suctionScan_rests {r : ScanRecord} {s : State} (rests : s.suc.state = .stopped ∨ s.suc.state = .waitPath) :
    suctionScan r s = s.heard r := by
  have state : (s.heard r).suc.state = s.suc.state := (heard_kept r s.suc).1
  unfold suctionScan
  rw [heard_eq]
  dsimp only
  rw [state]
  rcases rests with rest | rest <;> rw [rest]

theorem suctionScan_fault {r : ScanRecord} {s : State} (fault : s.suc.state = .fault) :
    suctionScan r s
      = if (r.isValid && (s.heard r).mayLeaveFault) = true then { s.heard r with suc := { (s.heard r).suc with state := .stopped } }
        else s.heard r := by
  have state : (s.heard r).suc.state = s.suc.state := (heard_kept r s.suc).1
  unfold suctionScan
  rw [heard_eq]
  dsimp only
  rw [state, fault]

/-- The checks at a valid scan of a driving motor: a cause is a fault; else the motor is steered, but for STOPPING. -/
theorem suctionScan_checked {r : ScanRecord} {s : State} (drives : s.suc.state.driving = true) (enabled : s.suc.enableAsked = true)
    (valid : r.isValid = true) :
    suctionScan r s
      = if ((s.suc.heard r).checkMotor r).2 = .none then
          if s.suc.state = .stopping then { s with suc := ((s.suc.heard r).checkMotor r).1 }
          else steerScan r { s with suc := ((s.suc.heard r).checkMotor r).1 }
        else faultSuction ((s.suc.heard r).checkMotor r).2 { s with suc := ((s.suc.heard r).checkMotor r).1 } := by
  obtain ⟨state, enable, -⟩ := heard_kept r s.suc
  have asks : ((s.heard r).suc.enableAsked && r.isValid) = true := by
    change ((s.suc.heard r).enableAsked && r.isValid) = true
    rw [enable, enabled, valid]
    rfl
  unfold suctionScan
  rw [heard_eq]
  dsimp only
  rw [asks, show (s.heard r).suc.state = s.suc.state from state]
  cases at_ : s.suc.state with
  | stopped => rw [at_] at drives; cases drives
  | waitPath => rw [at_] at drives; cases drives
  | fault => rw [at_] at drives; cases drives
  | starting => rfl
  | running => rfl
  | stopping => rfl

/-- An invalid scan checks nothing. -/
theorem suctionScan_unchecked {r : ScanRecord} {s : State} (drives : s.suc.state.driving = true) (invalid : ¬r.isValid = true) :
    suctionScan r s = if s.suc.state = .stopping then s else steerScan r s := by
  have still : s.heard r = s := by
    unfold State.heard Suction.heard
    rw [if_neg invalid]
  have idle : (s.suc.enableAsked && r.isValid) = false := by
    rw [Bool.eq_false_iff.2 invalid]
    exact Bool.and_false _
  unfold suctionScan
  rw [heard_eq, still]
  dsimp only
  rw [idle]
  generalize s.suc.state = at_ at drives
  cases at_ with
  | stopped => cases drives
  | waitPath => cases drives
  | fault => cases drives
  | starting => rfl
  | running => rfl
  | stopping => rfl

theorem motorHot_iff (x : Therm) : motorHot x = true ↔ ∀ t, x = .ok t → 120 ≤ t := by
  cases x with
  | ok t => simp [motorHot]
  | opened => exact ⟨fun _ => nofun, fun _ => rfl⟩
  | shorted => exact ⟨fun _ => nofun, fun _ => rfl⟩

theorem overcurrent_iff (r : ScanRecord) : overcurrent r = true ↔ r.motorSat = true ∨ 45000 < r.motor := by
  unfold overcurrent
  rw [Bool.or_eq_true, decide_eq_true_eq]

/-- The checks of R75, by what the scan shows. -/
theorem checkMotor_cases (r : ScanRecord) (u : Suction) :
    (motorHot r.motorTemp = true →
        u.checkMotor r = ({ u with overCount := if overcurrent r = true then u.overCount else 0 }, .hot))
      ∧ (motorHot r.motorTemp = false →
        u.checkMotor r
          = ({ u with overCount := if overcurrent r = true then min 3 (u.overCount + 1) else 0 },
            if (if overcurrent r = true then min 3 (u.overCount + 1) else 0) = 3 then .overcurrent else .none)) := by
  unfold Suction.checkMotor
  refine ⟨fun hot => ?_, fun cool => ?_⟩
  · rw [if_pos hot]
    split <;> rfl
  · rw [if_neg (by rw [cool]; nofun)]
    split
    · dsimp only
      refine congrArg₂ Prod.mk rfl (if_congr ?_ rfl rfl)
      unfold countUp
      omega
    · rfl

/-! ## From the regulator's work to the hand-offs -/

/-- The state in which the regulator finds a scan. -/
def State.atMotor (r : ScanRecord) (s : State) : State := (s.judged r).weighed r

theorem atMotor_kept (r : ScanRecord) (s : State) :
    (s.atMotor r).suc = s.suc ∧ (s.atMotor r).arb = s.arb ∧ (s.atMotor r).settings = s.settings ∧ (s.atMotor r).dirt = s.dirt
      ∧ (s.atMotor r).bin = s.bin := by
  unfold State.atMotor
  rw [weighed_eq]
  exact ⟨rfl, rfl, rfl, rfl, rfl⟩

theorem allowanceScan_kept (r : ScanRecord) (s : State) :
    Standing s (allowanceScan r s) ∧ (allowanceScan r s).suc = s.suc ∧ (allowanceScan r s).dirt = s.dirt := by
  rw [allowanceScan_eq]
  split
  · exact ⟨Standing.trans (t := { s with alw := s.allowed r }) (Standing.of_eq rfl rfl) (raiseHandle_standing _ _), rfl, rfl⟩
  · exact ⟨Standing.of_eq rfl rfl, rfl, rfl⟩

theorem ByHandOff.dirt {s t : State} (h : ByHandOff s t) : t.dirt = s.dirt := by
  obtain ⟨-, _, _, _, _, _, _, rfl⟩ := h
  rfl

theorem ByHandOff.suc {s t : State} (h : ByHandOff s t) : t.suc = { s.suc with target := t.suc.target, duty := t.suc.duty } := by
  obtain ⟨-, _, _, _, _, _, _, rfl⟩ := h
  rfl

/-- The hand-offs leave a regulator whose target rests. -/
theorem scanHandOffs_suc {r : ScanRecord} {before s : State} (rest : s.suc.target = 0) : (scanHandOffs r before s).suc = s.suc := by
  rw [scanHandOffs_eq]
  have head : (handOffHead before s).suc = s.suc := by
    rcases handOffHead_cases before s with e | e <;> rw [e]
  have grants : (handOffGrants r before (handOffHead before s)).suc = s.suc := by
    unfold handOffGrants
    split
    · rw [recompute_suc_rest (by rw [head]; exact rest), head]
    · exact head
  unfold handOffOverload headOverload
  split
  · rw [wandPowerOff_suc (by change (handOffGrants r before (handOffHead before s)).suc.target = 0; rw [grants]; exact rest)]
    exact grants
  · exact grants

/-- A changed suction or clog state is followed by a recomputation. -/
theorem scanHandOffs_granted {r : ScanRecord} {before s : State}
    (moved : s.suc.state ≠ before.suc.state ∨ s.suc.clogged ≠ before.suc.clogged) : Granted (scanHandOffs r before s) := by
  rw [scanHandOffs_eq]
  have head : (handOffHead before s).suc = s.suc := by
    rcases handOffHead_cases before s with e | e <;> rw [e]
  have again : handOffGrants r before (handOffHead before s) = recompute (handOffHead before s) := by
    refine if_pos ?_
    rw [head, Bool.or_eq_true, Bool.or_eq_true, bne_iff_ne, bne_iff_ne]
    exact Or.inl moved
  rw [again]
  unfold handOffOverload headOverload
  split
  · exact wandPowerOff_granted _
  · exact recompute_granted _

/-- What the hand-offs find of the regulator's own work, and leave of the rest. -/
theorem handedOff_spec (r : ScanRecord) (s : State) :
    Standing (suctionScan r (s.atMotor r)) (handedOff r s) ∧ (handedOff r s).dirt = (suctionScan r (s.atMotor r)).dirt
      ∧ (handedOff r s).suc
        = { (suctionScan r (s.atMotor r)).suc with target := (handedOff r s).suc.target, duty := (handedOff r s).suc.duty }
      ∧ ((suctionScan r (s.atMotor r)).suc.target = 0 → (handedOff r s).suc = (suctionScan r (s.atMotor r)).suc)
      ∧ ((suctionScan r (s.atMotor r)).suc.state ≠ s.suc.state ∨ (suctionScan r (s.atMotor r)).suc.clogged ≠ s.suc.clogged →
        Granted (handedOff r s)) := by
  obtain ⟨stands, suc, dirt⟩ := allowanceScan_kept r (suctionScan r (s.atMotor r))
  have hands := scanHandOffs_byHandOff r s (allowanceScan r (suctionScan r (s.atMotor r)))
  have e : handedOff r s = scanHandOffs r s (allowanceScan r (suctionScan r (s.atMotor r))) := rfl
  rw [e]
  refine ⟨stands.trans hands.1, hands.dirt.trans dirt, ?_, fun rest => ?_, fun moved => ?_⟩
  · have own := hands.suc
    rw [suc] at own
    exact own
  · rw [scanHandOffs_suc (by rw [suc]; exact rest), suc]
  · exact scanHandOffs_granted (by rw [suc]; exact moved)

theorem handedOff_path (r : ScanRecord) (s : State) :
    (handedOff r s).arb.path = s.arb.path ∧ (handedOff r s).arb.waiting = s.arb.waiting ∧ (handedOff r s).chg = s.chg
      ∧ (handedOff r s).bin = s.bin ∧ (handedOff r s).now = s.now ∧ (handedOff r s).settings = s.settings := by
  obtain ⟨_, _, _, _, _, _, e⟩ := handedOff_frame r s
  rw [e]
  exact ⟨rfl, rfl, rfl, rfl, rfl, rfl⟩

/-! ## What the whole scan leaves of the motor -/

theorem receiveScan_unfaulted {r : ScanRecord} {s : State}
    (none_ : (suctionScan r (s.atMotor r)).suc.state = .fault → s.suc.state = .fault) :
    receiveScan r s = chargeScan r (handedOff r s) := by
  rw [receiveScan_eq]
  refine if_neg fun h => ?_
  rw [Bool.and_eq_true, beq_iff_eq, bne_iff_ne] at h
  obtain ⟨fault, was⟩ := h
  obtain ⟨-, suc, -⟩ := allowanceScan_kept r (suctionScan r (s.atMotor r))
  change (allowanceScan r (suctionScan r (s.atMotor r))).suc.state = .fault at fault
  rw [suc] at fault
  exact was (none_ fault)

theorem receiveScan_faulted {r : ScanRecord} {s : State} (fault : (suctionScan r (s.atMotor r)).suc.state = .fault)
    (was : s.suc.state ≠ .fault) : receiveScan r s = releaseSuction (chargeScan r (handedOff r s)) := by
  rw [receiveScan_eq]
  refine if_pos ?_
  rw [Bool.and_eq_true, beq_iff_eq, bne_iff_ne]
  obtain ⟨-, suc, -⟩ := allowanceScan_kept r (suctionScan r (s.atMotor r))
  refine ⟨?_, was⟩
  change (allowanceScan r (suctionScan r (s.atMotor r))).suc.state = .fault
  rw [suc]
  exact fault

/-- A fault that a scan finds: the motor at rest, the path given up, nothing granted (04 R76). -/
theorem receiveScan_faults {r : ScanRecord} {s z : State} {cause : SuctionCause} (path : s.arb.path = .discharge)
    (alone : s.arb.waiting ≠ some .suction) (was : s.suc.state ≠ .fault) (faults : suctionScan r (s.atMotor r) = faultSuction cause z) :
    (receiveScan r s).suc = z.suc.toFault cause ∧ (receiveScan r s).men = false ∧ (receiveScan r s).arb.path ≠ .discharge
      ∧ (receiveScan r s).arb.gs = 0 ∧ Standing z (receiveScan r s) ∧ (receiveScan r s).noted .suctionFault
      ∧ (receiveScan r s).dirt = z.leftDirt := by
  obtain ⟨stands, dirt, -, rest, granted⟩ := handedOff_spec r s
  obtain ⟨held, wait, -⟩ := handedOff_path r s
  rw [faults, faultSuction_eq] at stands dirt rest granted
  have suc : (handedOff r s).suc = z.suc.toFault cause := rest rfl
  obtain ⟨own, -, other⟩ := (chargeScan_pathWork (r := r) (s := handedOff r s) (Or.inl (by rw [suc]; rfl))).discharging
    (held.trans path) (by rw [wait]; exact alone)
  obtain ⟨own', leaves⟩ := releaseSuction_free other
  have all := own.trans own'
  have e : receiveScan r s = releaseSuction (chargeScan r (handedOff r s)) :=
    receiveScan_faulted (by rw [faults, faultSuction_eq]; rfl) was
  rw [← e] at all leaves
  have gs : (handedOff r s).arb.gs = 0 :=
    ((granted (Or.inl fun same => was same.symm)).rest (demandS_rest (by rw [suc]; rfl))).2
  have first : Standing z (handedOff r s) :=
    Standing.trans (t := { z with suc := z.suc.toFault cause, dirt := z.leftDirt }) (Standing.of_eq rfl rfl)
      ((raiseHandle_standing _ _).trans stands)
  refine ⟨all.suc.trans suc, ?_, leaves, all.gs.trans gs, first.trans all.1, all.1.1 _ (stands.1 _ (noted_raise _ _)), all.dirt.trans dirt⟩
  unfold State.men
  rw [all.suc, suc]
  rfl

/-! ## A motor that drives on -/

/-- The regulator with what a scan's checks and steering never touch. -/
def Suction.OnlySteered (u v : Suction) : Prop :=
  v.state = u.state ∧ v.enableAsked = u.enableAsked ∧ v.lock = u.lock ∧ v.pressed = u.pressed ∧ v.speed = u.speed

theorem Suction.OnlySteered.trans {u v w : Suction} (h : u.OnlySteered v) (k : v.OnlySteered w) : u.OnlySteered w := by
  obtain ⟨state, enable, lock, pressed, speed⟩ := h
  obtain ⟨state', enable', lock', pressed', speed'⟩ := k
  exact ⟨state'.trans state, enable'.trans enable, lock'.trans lock, pressed'.trans pressed, speed'.trans speed⟩

theorem steer_fields (t : Settings) (gs : Nat) (r : ScanRecord) (u : Suction) :
    ∃ (target duty : Nat) (acc : Int) (trim : Option Trim), u.steer t gs r = { u with target := target, duty := duty, acc := acc, trim := trim } := by
  unfold Suction.steer
  dsimp only
  split
  · exact ⟨_, _, _, _, rfl⟩
  · exact ⟨_, _, _, u.trim, rfl⟩

/-- The regulator after the ramp, the trim and the clog counts. -/
def State.steered (r : ScanRecord) (s : State) : Suction := s.suc.steer s.settings s.arb.gs r

theorem steerScan_starting {r : ScanRecord} {s : State} (other : s.suc.state ≠ .running) : steerScan r s = { s with suc := s.steered r } := by
  unfold steerScan
  dsimp only
  rw [if_neg (by rw [steer_state]; exact other)]
  rfl

theorem steerScan_running {r : ScanRecord} {s : State} (running : s.suc.state = .running) :
    steerScan r s
      = if ((s.steered r).countClog s.settings).2 = true then
          if 3 ≤ ((s.steered r).countClog s.settings).1.episodes then
            faultSuction .clog (raiseHandle .clog { s with suc := ((s.steered r).countClog s.settings).1 })
          else raiseHandle .clog { s with suc := ((s.steered r).countClog s.settings).1 }
        else { s with suc := ((s.steered r).countClog s.settings).1 } := by
  unfold steerScan
  dsimp only
  rw [if_pos (by rw [steer_state]; exact running)]
  rfl

/-- Steering goes on with the count of the checks, or ends in a fault. -/
theorem steerScan_cases (r : ScanRecord) (s : State) :
    (∃ (u : Suction) (h : BitVec 15), steerScan r s = { s with suc := u, ports := { s.ports with handleNotes := h } }
        ∧ s.suc.OnlySteered u ∧ u.overCount = s.suc.overCount)
      ∨ ∃ (z : State), steerScan r s = faultSuction .clog z ∧ s.suc.OnlySteered z.suc ∧ z.suc.overCount = s.suc.overCount := by
  obtain ⟨_, _, _, _, steered⟩ := steer_fields s.settings s.arb.gs r s.suc
  obtain ⟨_, _, _, _, counted⟩ := countClog_frame s.settings (s.steered r)
  have alike : s.suc.OnlySteered ((s.steered r).countClog s.settings).1
      ∧ ((s.steered r).countClog s.settings).1.overCount = s.suc.overCount := by
    rw [counted]
    unfold State.steered
    rw [steered]
    exact ⟨⟨rfl, rfl, rfl, rfl, rfl⟩, rfl⟩
  by_cases running : s.suc.state = .running
  · rw [steerScan_running running]
    split
    · split
      · exact Or.inr ⟨_, rfl, alike⟩
      · exact Or.inl ⟨_, _, rfl, alike⟩
    · exact Or.inl ⟨_, _, rfl, alike⟩
  · rw [steerScan_starting running]
    refine Or.inl ⟨_, s.ports.handleNotes, rfl, ?_⟩
    unfold State.steered
    rw [steered]
    exact ⟨⟨rfl, rfl, rfl, rfl, rfl⟩, rfl⟩

/-- The overcurrent count that the checks leave of a scan. -/
def Suction.checkedCount (r : ScanRecord) (u : Suction) : Nat := if r.isValid = true then (u.checkMotor r).1.overCount else u.overCount

/-- A driving motor at a scan: it drives on, or it is in FAULT. -/
theorem suctionScan_drives {r : ScanRecord} {s : State} (drives : s.suc.state.driving = true) (enabled : s.suc.enableAsked = true) :
    (∃ (u : Suction) (h : BitVec 15), suctionScan r s = { s with suc := u, ports := { s.ports with handleNotes := h } }
        ∧ s.suc.OnlySteered u ∧ u.overCount = (s.suc.heard r).checkedCount r)
      ∨ ∃ (c : SuctionCause) (z : State), suctionScan r s = faultSuction c z ∧ s.suc.OnlySteered z.suc
        ∧ z.suc.overCount = (s.suc.heard r).checkedCount r := by
  obtain ⟨state, enable, target, lock, pressed, over_, speed⟩ := heard_kept r s.suc
  by_cases valid : r.isValid = true
  · have frame := checkMotor_frame r (s.suc.heard r)
    obtain ⟨u, hu⟩ : ∃ u, u = ((s.suc.heard r).checkMotor r).1 := ⟨_, rfl⟩
    have alike : s.suc.OnlySteered u := by
      rw [hu, frame]
      exact ⟨state, enable, lock, pressed, speed⟩
    have count : u.overCount = (s.suc.heard r).checkedCount r := by
      unfold Suction.checkedCount
      rw [if_pos valid, hu]
    rw [suctionScan_checked drives enabled valid, ← hu, ← count]
    split
    · split
      · exact Or.inl ⟨u, s.ports.handleNotes, rfl, alike, rfl⟩
      · rcases steerScan_cases r { s with suc := u } with ⟨v, h, e, same, over'⟩ | ⟨z, e, same, over'⟩
        · exact Or.inl ⟨v, h, e, alike.trans same, over'⟩
        · exact Or.inr ⟨_, z, e, alike.trans same, over'⟩
    · exact Or.inr ⟨_, _, rfl, alike, rfl⟩
  · have count : (s.suc.heard r).checkedCount r = s.suc.overCount := (if_neg valid).trans over_
    rw [suctionScan_unchecked drives valid, count]
    split
    · exact Or.inl ⟨s.suc, s.ports.handleNotes, rfl, ⟨rfl, rfl, rfl, rfl, rfl⟩, rfl⟩
    · rcases steerScan_cases r s with ⟨u, h, e, same, over'⟩ | ⟨z, e, same, over'⟩
      · exact Or.inl ⟨u, h, e, same, over'⟩
      · exact Or.inr ⟨_, z, e, same, over'⟩

/-- The end of a run that the lock alone held, as the regulator sees it. -/
theorem runEnds_suc {s : State} (drives : s.suc.state = .starting ∨ s.suc.state = .running) (enabled : s.suc.enableAsked = true)
    (absent : s.runRequest = false) :
    (runEnds s).suc = if s.suc.speed < 5000 then s.suc.toStopped else s.suc.toStopping s.now := by
  by_cases slow : s.suc.speed < 5000
  · obtain ⟨stops, -, speed, -⟩ := runEnded_stopping s
    have none_ : s.runEnded.stopping.runRequest = false := by
      rw [stops]
      exact absent
    rw [if_pos slow, runEnds_drives drives, enterStopping_ends (by rw [speed]; exact slow), endStopping_suc none_, stops]
    rfl
  · rw [if_neg slow]
    obtain ⟨suc, -⟩ := runEnds_slows drives (Nat.not_lt.1 slow) enabled
    exact suc

/-- An attach clears the lock latch: a run that it alone held ends. -/
theorem clearLock_suc {s : State} (latched : s.suc.lock = true → s.suc.state = .running ∧ s.suc.enableAsked = true) :
    (clearLock s).suc
      = if s.suc.pressed = true ∨ s.suc.lock = false then { s.suc with lock := false }
        else if s.suc.speed < 5000 then { s.suc with lock := false }.toStopped else { s.suc with lock := false }.toStopping s.now := by
  rcases clearLock_cases s with ⟨held, e⟩ | ⟨released, on, e⟩
  · rw [if_pos held, e]
  · obtain ⟨running, enabled⟩ := latched on
    rw [if_neg (by rw [released, on]; decide), e]
    refine runEnds_suc (s := { s with suc := { s.suc with lock := false } }) (Or.inr running) enabled ?_
    unfold State.runRequest
    dsimp only
    rw [released]
    rfl

/-- A scan that finds a dock with the lock latch set. -/
theorem chargeScan_attaches {r : ScanRecord} {s : State} (absent : s.chg.state = .absent) (found : 5 ≤ s.chg.attachCount r) :
    ∃ a, ByControl s a ∧ a.arb = s.arb ∧ chargeScan r s = clearLock a := by
  rw [chargeScan_eq, if_pos absent, if_pos found, attachDock_eq]
  obtain ⟨own, arb⟩ := attached_byControl { s with chg := { s.chg with attach := s.chg.attachCount r } }
  exact ⟨_, (Reordered.chg s { s.chg with attach := s.chg.attachCount r }).byControl.trans own, arb, rfl⟩

theorem clearLock_overCount {s : State} (latched : s.suc.lock = true → s.suc.state = .running ∧ s.suc.enableAsked = true) :
    (clearLock s).suc.overCount = s.suc.overCount := by
  rw [clearLock_suc latched]
  split
  · rfl
  · split <;> rfl

end Sys2Proof.Machine
end

section
/-! PROOFS. A scan checks the motor (04 R75, R76, R77). -/

namespace Sys2Proof.Machine

/-- A driving motor that no check sends to FAULT keeps its overcurrent count through the rest of the scan. -/
theorem receiveScan_overCount {r : ScanRecord} {s : State} (ok : PathOk s) (drives : s.suc.state.driving = true) :
    (receiveScan r s).suc.overCount = (s.suc.heard r).checkedCount r := by
  obtain ⟨held, own, waits, charger, queue, -, enabled, -, latched, -⟩ := ok
  have path := held.2 drives
  have alone : s.arb.waiting ≠ some .suction := fun h => absurd (path.symm.trans (queue h)) nofun
  have enabled : s.suc.enableAsked = true := enabled.trans drives
  obtain ⟨suc, arb, -⟩ := atMotor_kept r s
  rcases suctionScan_drives (r := r) (s := s.atMotor r) (by rw [suc]; exact drives) (by rw [suc]; exact enabled) with
    ⟨u, h, e, ⟨state, enable, lock, pressed, speed⟩, count⟩ | ⟨c, z, e, -, count⟩
  · rw [suc] at state enable lock pressed speed count
    obtain ⟨-, -, steered, -⟩ := handedOff_spec r s
    rw [e] at steered
    have whole : receiveScan r s = chargeScan r (handedOff r s) := receiveScan_unfaulted fun fault => by
      rw [e] at fault
      exact state.symm.trans fault
    obtain ⟨path', wait', chg', -⟩ := handedOff_path r s
    have over_ : (handedOff r s).suc.overCount = (s.suc.heard r).checkedCount r := by rw [steered]; exact count
    rw [whole]
    by_cases off : (handedOff r s).suc.lock = false ∨ (handedOff r s).chg.state ≠ .absent ∨ (handedOff r s).chg.attachCount r < 5
    · obtain ⟨mine, -⟩ := (chargeScan_pathWork off).discharging (path'.trans path) (by rw [wait']; exact alone)
      rw [mine.suc, over_]
    · rw [not_or, not_or, not_ne_iff, Nat.not_lt] at off
      obtain ⟨-, absent, found⟩ := off
      obtain ⟨a, mine, -, attaches⟩ := chargeScan_attaches absent found
      rw [attaches, clearLock_overCount, mine.suc, over_]
      rw [mine.suc]
      intro on
      have on' : s.suc.lock = true := by
        rw [steered] at on
        exact lock.symm.trans on
      rw [steered]
      exact ⟨state.trans (latched on'), enable.trans enabled⟩
  · rw [suc] at count
    obtain ⟨suc', -⟩ := receiveScan_faults path alone (fun fault => by rw [fault] at drives; cases drives) e
    rw [suc']
    exact count

/-- A regulator at rest through the whole scan: what the controller's work can still do to it. -/
theorem receiveScan_rests {r : ScanRecord} {s : State} (rest : (suctionScan r (s.atMotor r)).suc.target = 0)
    (off : (suctionScan r (s.atMotor r)).suc.lock = false)
    (none_ : (suctionScan r (s.atMotor r)).suc.state = .fault → s.suc.state = .fault) :
    PathWork (handedOff r s) (receiveScan r s) ∧ (handedOff r s).suc = (suctionScan r (s.atMotor r)).suc := by
  obtain ⟨-, -, -, rests, -⟩ := handedOff_spec r s
  have suc := rests rest
  rw [receiveScan_unfaulted none_]
  exact ⟨chargeScan_pathWork (Or.inl (by rw [suc]; exact off)), suc⟩

/-- Outside STARTING and RUNNING, and with no run waiting, a scan's regulator is its own work alone, and the gauge stands. -/
theorem receiveScan_suc {r : ScanRecord} {s : State} (ok : PathOk s) (away : s.suc.state ≠ .waitPath)
    (rest : (suctionScan r (s.atMotor r)).suc.target = 0) (off : (suctionScan r (s.atMotor r)).suc.lock = false)
    (none_ : (suctionScan r (s.atMotor r)).suc.state = .fault → s.suc.state = .fault) :
    (receiveScan r s).suc = (suctionScan r (s.atMotor r)).suc ∧ (receiveScan r s).bin = s.bin := by
  obtain ⟨held, -, waits, -, -, behind, -⟩ := ok
  obtain ⟨⟨discharging, alone, -⟩, suc⟩ := receiveScan_rests rest off none_
  obtain ⟨path, wait, -, bin, -⟩ := handedOff_path r s
  rw [path, wait] at discharging alone
  have other : s.arb.waiting ≠ some .suction := fun h => away (waits.1 h)
  have own : ByControl (handedOff r s) (receiveScan r s) := by
    by_cases discharge : s.arb.path = .discharge
    · exact (discharging discharge other).1
    · refine (alone discharge ?_).1
      cases who : s.arb.waiting with
      | none => rfl
      | some side =>
        cases side with
        | suction => exact absurd who other
        | charger => exact absurd (behind who) discharge
  exact ⟨own.suc.trans suc, own.bin.trans bin⟩

theorem cooled_some (x : Therm) : cooled (some x) = true ↔ ∃ y, x = .ok y ∧ y ≤ 100 := by
  rw [cooled_iff]
  exact ⟨fun ⟨y, same, low⟩ => ⟨y, Option.some.inj same, low⟩, fun ⟨y, same, low⟩ => ⟨y, congrArg some same, low⟩⟩

theorem mayLeaveFault_iff (s : State) :
    s.mayLeaveFault = true ↔ s.runRequest = false ∧ (s.suc.faultCause = .hot → cooled s.suc.lastTemp = true) := by
  unfold State.mayLeaveFault
  rw [Bool.and_eq_true, Bool.not_eq_true', Bool.or_eq_true, bne_iff_ne]
  refine and_congr_right fun _ => ?_
  by_cases hot : s.suc.faultCause = .hot
  · exact ⟨fun h _ => h.resolve_left fun k => k hot, fun h => Or.inr (h hot)⟩
  · exact ⟨fun _ k => absurd k hot, fun _ => Or.inl hot⟩

theorem aborted_meas (b : Bin) : b.aborted.meas = none := by
  unfold Bin.aborted
  split
  · rfl
  · rename_i rests
    exact Option.not_isSome_iff_eq_none.1 rests

/-- Settles O43: the checks by their state, each with its end. -/
theorem scanFaultsMotor : Obligations.ScanFaultsMotor := by
  intro s ok grants start first k phase
  obtain ⟨t, r, n, next, table, -, e⟩ := scan_received k phase
  refine ⟨t, r, next, table, ?_⟩
  intro valid hot tooMuch count temp faulted
  obtain ⟨p, hp⟩ : ∃ p, p = s.atScan start n := ⟨_, rfl⟩
  obtain ⟨x, hx⟩ : ∃ x, x = receiveScan r p := ⟨_, rfl⟩
  rw [← hp, ← hx] at e
  have psuc : p.suc = s.suc := hp ▸ rfl
  have parb : p.arb = s.arb := hp ▸ rfl
  have pok : PathOk p := hp ▸ ok
  have suc : t.suc = x.suc := by rw [e]
  have bin : t.bin = x.bin := by rw [e]
  have arb : t.arb = x.arb := by rw [e]
  have now : t.now = x.now := by rw [e]
  obtain ⟨msuc, marb, -⟩ := atMotor_kept r p
  rw [psuc] at msuc
  rw [parb] at marb
  have heard : (s.suc.heard r) = { s.suc with lastTemp := temp } := heard_fields r s.suc
  have hot_iff : motorHot r.motorTemp = true ↔ hot := motorHot_iff r.motorTemp
  have over_iff : overcurrent r = true ↔ tooMuch := overcurrent_iff r
  obtain ⟨-, -, -, -, still⟩ := grants
  obtain ⟨held, own, waits, charger, queue, behind, enabled, runs, latched, -⟩ := id ok
  have valid_iff : r.isValid = true ↔ valid := isValid_iff r
  obtain ⟨checkHot, checkCool⟩ := checkMotor_cases r (s.suc.heard r)
  have heardCount : (s.suc.heard r).overCount = s.suc.overCount := by rw [heard]
  have counted : (if overcurrent r = true then min 3 ((s.suc.heard r).overCount + 1) else 0) = count := by
    rw [heardCount, if_congr over_iff rfl rfl]
  rw [counted] at checkCool
  have drivesEnabled (drives : s.suc.state.driving = true) : s.suc.enableAsked = true := enabled.trans drives
  have checked (drives : s.suc.state.driving = true) (yes : valid) :=
    suctionScan_checked (r := r) (s := p.atMotor r) (by rw [msuc]; exact drives) (by rw [msuc]; exact drivesEnabled drives) (valid_iff.2 yes)
  rw [msuc] at checked
  have faults (drives : s.suc.state.driving = true) (cause : SuctionCause) (m : Nat) (yes : valid)
      (z : suctionScan r (p.atMotor r) = faultSuction cause { p.atMotor r with suc := { s.suc.heard r with overCount := m } }) :
      faulted cause ∧ t.suc.overCount = m := by
    have path := held.2 drives
    obtain ⟨fsuc, men, leaves, gs, -, noted, dirt⟩ := receiveScan_faults (s := p) (by rw [parb]; exact path)
      (by rw [parb]; exact fun h => absurd (path.symm.trans (queue h)) nofun)
      (by rw [psuc]; exact fun fault => by rw [fault] at drives; cases drives) z
    rw [← hx] at fsuc men leaves gs noted dirt
    have given : temp = some r.motorTemp := if_pos yes
    refine ⟨⟨?_, ?_, by rw [arb]; exact leaves, by rw [arb]; exact gs, ?_, fun running => ?_⟩, by rw [suc, fsuc]; rfl⟩
    · rw [suc, fsuc, heard, given]
      rfl
    · rw [e]
      exact men
    · rw [e]
      exact noted
    · have left : x.dirt = (p.atMotor r).dirt.leave := by
        rw [dirt]
        refine if_pos ?_
        rw [heard]
        exact running
      rw [e]
      change x.dirt.window = none ∧ x.dirt.eff = 0 ∧ x.dirt.heavy = false
      rw [left]
      exact ⟨rfl, rfl, rfl⟩
  refine ⟨fun drives yes hot_ => ?_, fun drives yes cool full => ?_, fun drives yes cool few => ?_, fun drives no => ?_,
    fun stopping quiet => ?_, fun fault => ?_, fun stopped => ?_, fun waiting => ?_⟩
  · have is_ := checkHot (hot_iff.2 hot_)
    have z := checked drives yes
    rw [is_] at z
    obtain ⟨faulted_, m⟩ := faults drives _ _ yes (z.trans (if_neg nofun))
    refine ⟨faulted_, m.trans ?_⟩
    rw [if_congr over_iff rfl rfl, heardCount]
  · have is_ := checkCool (Bool.eq_false_iff.2 fun h => cool (hot_iff.1 h))
    have z := checked drives yes
    rw [is_, full, if_pos rfl] at z
    exact faults drives _ _ yes (z.trans (if_neg nofun))
  · have is_ := checkCool (Bool.eq_false_iff.2 fun h => cool (hot_iff.1 h))
    rw [suc, hx, receiveScan_overCount pok (by rw [psuc]; exact drives), psuc]
    unfold Suction.checkedCount
    rw [if_pos (valid_iff.2 yes), is_]
  · rw [suc, hx, receiveScan_overCount pok (by rw [psuc]; exact drives), psuc]
    unfold Suction.checkedCount
    rw [if_neg fun h => no (valid_iff.1 h), heardCount]
  · have target : s.suc.target = 0 := (still (by rw [stopping]; rfl)).1
    have unlocked : s.suc.lock = false := Bool.eq_false_iff.2 fun on => by rw [latched on] at stopping; cases stopping
    obtain ⟨m, work⟩ : ∃ m, (suctionScan r (p.atMotor r)).suc = { s.suc with overCount := m, lastTemp := temp } := by
      by_cases yes : valid
      · obtain ⟨cool, few⟩ := quiet.resolve_left fun no => no yes
        have is_ := checkCool (Bool.eq_false_iff.2 fun h => cool (hot_iff.1 h))
        have z := checked (by rw [stopping]; rfl) yes
        rw [is_, if_neg few, if_pos rfl, if_pos stopping, heard] at z
        exact ⟨count, by rw [z]⟩
      · have z := suctionScan_unchecked (r := r) (s := p.atMotor r) (by rw [msuc, stopping]; rfl) fun h => yes (valid_iff.1 h)
        rw [msuc, if_pos stopping] at z
        refine ⟨s.suc.overCount, ?_⟩
        rw [z, msuc, show temp = s.suc.lastTemp from if_neg yes]
    obtain ⟨own, -⟩ := receiveScan_suc (r := r) pok (by rw [psuc, stopping]; nofun) (by rw [work]; exact target)
      (by rw [work]; exact unlocked) (by rw [work]; intro fault; cases stopping.symm.trans fault)
    rw [← hx, work] at own
    rw [suc, own]
  · have work := suctionScan_fault (r := r) (s := p.atMotor r) (by rw [msuc]; exact fault)
    have target : s.suc.target = 0 := (still (by rw [fault]; rfl)).1
    have unlocked : s.suc.lock = false := Bool.eq_false_iff.2 fun on => by rw [latched on] at fault; cases fault
    have hsuc : ((p.atMotor r).heard r).suc = { s.suc with lastTemp := temp } := by
      unfold State.heard
      rw [msuc]
      exact heard
    have may : (r.isValid && ((p.atMotor r).heard r).mayLeaveFault) = true
        ↔ valid ∧ s.runRequest = false ∧ (s.suc.faultCause = .hot → ∃ x, r.motorTemp = .ok x ∧ x ≤ 100) := by
      rw [Bool.and_eq_true, valid_iff]
      refine and_congr_right fun yes => ?_
      rw [mayLeaveFault_iff]
      unfold State.runRequest
      rw [hsuc, show temp = some r.motorTemp from if_pos yes, cooled_some]
    have left : (suctionScan r (p.atMotor r)).suc
        = if (r.isValid && ((p.atMotor r).heard r).mayLeaveFault) = true then { s.suc with state := .stopped, lastTemp := temp }
          else { s.suc with lastTemp := temp } := by
      rw [work]
      split
      · dsimp only
        rw [hsuc]
      · exact hsuc
    obtain ⟨own, gauge⟩ := receiveScan_suc (r := r) pok (by rw [psuc, fault]; nofun) (by rw [left]; split <;> exact target)
      (by rw [left]; split <;> exact unlocked) (by rw [psuc]; exact fun _ => fault)
    rw [← hx] at own gauge
    rw [left] at own
    have binP : p.bin = s.bin := hp ▸ rfl
    intro leaves
    refine ⟨fun yes => ?_, fun no => ?_, by rw [bin, gauge, binP]⟩
    · rw [suc, own, if_pos (may.2 yes)]
    · rw [suc, own, if_neg fun h => no (may.1 h)]
  · have work := suctionScan_rests (r := r) (s := p.atMotor r) (by rw [msuc]; exact Or.inl stopped)
    have hsuc : (suctionScan r (p.atMotor r)).suc = { s.suc with lastTemp := temp } := by
      rw [work]
      unfold State.heard
      rw [msuc]
      exact heard
    obtain ⟨own, gauge⟩ := receiveScan_suc (r := r) pok (by rw [psuc, stopped]; nofun)
      (by rw [hsuc]; exact (still (by rw [stopped]; rfl)).1)
      (by rw [hsuc]; exact Bool.eq_false_iff.2 fun on => by rw [latched on] at stopped; cases stopped)
      (by rw [hsuc]; intro fault; cases stopped.symm.trans fault)
    rw [← hx] at own gauge
    have binP : p.bin = s.bin := hp ▸ rfl
    exact ⟨by rw [suc, own, hsuc], by rw [bin, gauge, binP]⟩
  · have work := suctionScan_rests (r := r) (s := p.atMotor r) (by rw [msuc]; exact Or.inr waiting)
    have hsuc : (suctionScan r (p.atMotor r)).suc = { s.suc with lastTemp := temp } := by
      rw [work]
      unfold State.heard
      rw [msuc]
      exact heard
    have queued := waits.2 waiting
    obtain ⟨⟨-, -, starts⟩, same⟩ := receiveScan_rests (r := r) (s := p)
      (by rw [hsuc]; exact (still (by rw [waiting]; rfl)).1)
      (by rw [hsuc]; exact Bool.eq_false_iff.2 fun on => by rw [latched on] at waiting; cases waiting)
      (by rw [hsuc]; intro fault; cases waiting.symm.trans fault)
    obtain ⟨path', wait', -, bin', now', -⟩ := handedOff_path r p
    rw [path', wait', same, hsuc, bin', now', parb, ← hx] at starts
    obtain ⟨-, own | ⟨later, discharge, free, begun, gauge⟩⟩ := starts (queue queued) queued waiting
    · obtain ⟨own, charge, wait⟩ := own
      refine ⟨fun _ => ⟨by rw [suc, own.suc, same, hsuc], by rw [arb]; exact wait⟩, fun away => ?_⟩
      rw [arb] at away
      exact absurd charge away
    · refine ⟨fun charge => ?_, fun _ => ⟨?_, ?_, by rw [arb]; exact free, ?_⟩⟩
      · rw [arb] at charge
        cases discharge.symm.trans charge
      · rw [suc, begun, now, later]
        rfl
      · unfold State.men
        rw [suc, arb, begun, discharge]
        rfl
      · rw [bin, gauge]
        exact aborted_meas _

end Sys2Proof.Machine
end

section
/-! PROOFS. A scan finds the dock, or its loss (08 R138 to R140). -/

namespace Sys2Proof.Machine

/-! ## Scans that leave the dock where it was -/

/-- Only a driving motor is sent to FAULT. -/
theorem suctionScan_newFault {r : ScanRecord} {s : State} (fault : (suctionScan r s).suc.state = .fault) (was : s.suc.state ≠ .fault) :
    s.suc.state.driving = true := by
  cases state : s.suc.state with
  | stopped =>
    rw [suctionScan_rests (Or.inl state)] at fault
    cases state.symm.trans ((heard_kept r s.suc).1.symm.trans fault)
  | waitPath =>
    rw [suctionScan_rests (Or.inr state)] at fault
    cases state.symm.trans ((heard_kept r s.suc).1.symm.trans fault)
  | fault => exact absurd state was
  | starting => rfl
  | running => rfl
  | stopping => rfl

theorem entrySelection_stays (s : State) : s.chg.Stays (entrySelection s).chg := by
  rcases entrySelection_cases s with ⟨reason, e⟩ | e | e <;> rw [e]
  · obtain ⟨-, stays⟩ := pauseCharge_continued reason s
    have same : (arbRelease .charger (pauseCharge reason s)).1.chg = (pauseCharge reason s).chg := by
      rcases arbRelease_cases .charger (pauseCharge reason s) with ⟨-, e⟩ | ⟨-, -, e⟩ | ⟨_, -, -, e⟩ <;> rw [e]
    rw [same]
    exact stays
  · exact (beginPrecharge_continued _).2
  · exact (beginBulk_continued _).2

theorem releaseSuction_stays (s : State) : s.chg.Stays (releaseSuction s).chg := by
  rcases releaseSuction_cases s with ⟨-, e⟩ | ⟨-, -, e⟩ | ⟨-, -, e⟩ | ⟨-, -, e⟩ <;> rw [e]
  · exact Charger.Stays.of_eq rfl
  · exact Charger.Stays.of_eq rfl
  · exact Charger.Stays.of_eq rfl
  · unfold chargeTaken
    split
    · exact Charger.Stays.of_eq rfl
    · exact entrySelection_stays _

/-- With nobody waiting the motor's release leaves the path IDLE, and the controller alone. -/
theorem releaseSuction_alone {s : State} (alone : s.arb.waiting = none) :
    (releaseSuction s).chg = s.chg ∧ (releaseSuction s).arb.waiting = none
      ∧ (s.arb.path = .discharge → (releaseSuction s).arb.path = .idle)
      ∧ (s.arb.path ≠ .discharge → releaseSuction s = s) := by
  rcases releaseSuction_cases s with ⟨no, e⟩ | ⟨path, -, e⟩ | ⟨-, no, -⟩ | ⟨-, no, -⟩
  · exact ⟨by rw [e], by rw [e]; exact alone, fun h => absurd h no, fun _ => e⟩
  · rw [e]
    exact ⟨rfl, alone, fun _ => rfl, fun h => absurd path h⟩
  · cases alone.symm.trans no
  · cases alone.symm.trans no

theorem chargeJudge_absent {r : ScanRecord} {s : State} (absent : s.chg.state = .absent) : (chargeJudge r s).chg.state = .absent := by
  unfold chargeJudge
  split
  · have stored : (storeLatest r s).chg.state = .absent := (storeLatest_kept r s).1.trans absent
    have steps : chargeSteps r (storeLatest r s) = storeLatest r s := by
      unfold chargeSteps chargeTransition
      rw [stored]
      rfl
    rw [steps, bleedScan_eq, if_neg (by rw [stored]; decide)]
    exact stored
  · have rests : ({ s with chg := { s.chg with bleeds := Bleeds.off } } : State).chg.state.windowed = false := by
      dsimp only
      rw [absent]
      rfl
    dsimp only at rests ⊢
    rw [rests]
    exact absent

/-! ## A detach (08 R140) -/

/-- The order number after a detach: it advances unless the order stood at rest under the ceiling in force. -/
def State.undockedNumber (s : State) : Nat :=
  if s.chg.orderCur = 0 ∧ s.chg.orderCeil = s.settings.chgVcell then s.chg.orderNum else (s.chg.orderNum + 1) % 256

/-- The controller at a detach. -/
def Charger.undocked (ceil num : Nat) (c : Charger) : Charger :=
  Charger.cleared { c with state := .absent, orderCur := 0, orderCeil := ceil, orderNum := num }

theorem undocked_spec {s : State} (present : s.chg.state ≠ .absent) :
    s.undocked.chg = s.chg.undocked s.settings.chgVcell s.undockedNumber ∧ s.undocked.noted .chargeState
      ∧ (¬(s.chg.orderCur = 0 ∧ s.chg.orderCeil = s.settings.chgVcell) → s.undocked.dockNoted .orderChanged) := by
  obtain ⟨u, hu⟩ : ∃ u, u = setCharge .absent s := ⟨_, rfl⟩
  have set_ : u = raiseHandle .chargeState { s with chg := { s.chg with state := .absent } } := hu.trans (if_neg present)
  have formed : reformOrder u = putOrder 0 s.settings.chgVcell u := by
    rw [set_]
    rfl
  have e : s.undocked = { reformOrder u with chg := (reformOrder u).chg.cleared, acct := (reformOrder u).acct.closeSession } := by
    rw [hu]
    rfl
  have stands := putOrder_standing 0 s.settings.chgVcell u
  have state : (putOrder 0 s.settings.chgVcell u).noted .chargeState := stands.1 _ (by rw [set_]; exact noted_raise _ _)
  rw [e, formed]
  refine ⟨?_, state, fun moved => ?_⟩
  · unfold State.undockedNumber Charger.undocked
    dsimp only
    rcases putOrder_cases 0 s.settings.chgVcell u with ⟨cur, ceil, e⟩ | ⟨moved, e⟩
    · rw [set_] at cur ceil
      rw [e, set_, if_pos ⟨cur.symm, ceil.symm⟩]
      change Charger.cleared { s.chg with state := .absent } = _
      rw [show s.settings.chgVcell = s.chg.orderCeil from ceil, show (0 : Nat) = s.chg.orderCur from cur]
    · rw [set_] at moved
      rw [e, set_, if_neg fun h => moved ⟨h.1.symm, h.2.symm⟩]
      rfl
  · have put : putOrder 0 s.settings.chgVcell u = _ := if_neg fun h => moved (by
      rw [set_] at h
      exact ⟨h.1.symm, h.2.symm⟩)
    rw [put]
    exact dockNoted_raise _ _

/-- What a detach leaves, by who holds the path. -/
theorem detachDock_spec {s : State} (present : s.chg.state ≠ .absent)
    (waits : s.arb.waiting = some .suction → s.arb.path = .charge ∧ s.suc.state = .waitPath)
    (behind : s.arb.waiting = some .charger → s.arb.path = .discharge) :
    (detachDock s).chg = s.chg.undocked s.settings.chgVcell s.undockedNumber ∧ (detachDock s).noted .dockChange
      ∧ (detachDock s).noted .chargeState
      ∧ (¬(s.chg.orderCur = 0 ∧ s.chg.orderCeil = s.settings.chgVcell) → (detachDock s).dockNoted .orderChanged)
      ∧ (detachDock s).arb.waiting = none
      ∧ (s.arb.path = .charge → s.arb.waiting = none → (detachDock s).arb.path = .idle)
      ∧ (s.arb.path = .charge → s.arb.waiting = some .suction →
        (detachDock s).arb.path = .discharge ∧ (detachDock s).suc = s.suc.toStarting s.now)
      ∧ (s.arb.path ≠ .charge → (detachDock s).arb.path = s.arb.path ∧ (detachDock s).suc = s.suc) := by
  obtain ⟨chg, state, order⟩ := undocked_spec present
  obtain ⟨u, hu⟩ : ∃ u, u = raiseHandle .dockChange s.undocked := ⟨_, rfl⟩
  have own : Reordered s u := hu ▸ (undocked_reordered s).trans (raiseHandle_reordered _ _)
  have now : u.now = s.now := own.byControl.now
  have raised : Standing s.undocked u := hu ▸ raiseHandle_standing _ _
  have dock : u.noted .dockChange := hu ▸ noted_raise _ _
  have chg : u.chg = s.chg.undocked s.settings.chgVcell s.undockedNumber := by rw [hu]; exact chg
  obtain ⟨withdraws, path, wait⟩ := arbWithdraw_byControl .charger (releaseCharge u)
  have e : detachDock s = arbWithdraw .charger (releaseCharge u) := by rw [detachDock_eq, hu]
  have chg' : (arbWithdraw .charger (releaseCharge u)).chg = (releaseCharge u).chg := by
    rcases arbWithdraw_cases .charger (releaseCharge u) with ⟨-, e⟩ | ⟨-, e⟩ <;> rw [e]
  have stands : Standing u (releaseCharge u) := (releaseCharge_byExchange u).1
  have whole := stands.trans withdraws.1
  have rests (other : s.arb.path ≠ .charge) : releaseCharge u = u := by
    rcases releaseCharge_cases u with ⟨-, e⟩ | ⟨no, -⟩ | ⟨no, -⟩ | ⟨no, -⟩
    · exact e
    all_goals
      rw [own.arb] at no
      exact absurd no other
  have starts (mine : s.arb.path = .charge) (queued : s.arb.waiting = some .suction) :=
    releaseCharge_spec (s := u) (by rw [own.arb]; exact mine) (Or.inr ⟨by rw [own.arb]; exact queued, by rw [own.suc]; exact (waits queued).2⟩)
  rw [e, chg', releaseCharge_chg]
  refine ⟨chg, whole.1 _ dock, whole.1 _ (raised.1 _ state), fun moved => whole.2 _ (raised.2 _ (order moved)), ?_, fun mine alone => ?_,
    fun mine queued => ?_, fun other => ?_⟩
  · rcases wait with ⟨-, none_⟩ | ⟨same, not⟩
    · exact none_
    · rw [same]
      cases who : s.arb.waiting with
      | none =>
        by_cases mine : s.arb.path = .charge
        · rw [releaseCharge_alone (by rw [own.arb]; exact mine) (by rw [own.arb]; exact who)]
          exact (congrArg Arbiter.waiting own.arb).trans who
        · rw [rests mine, own.arb]
          exact who
      | some side =>
        cases side with
        | suction =>
          obtain ⟨-, -, -, -, free, -⟩ := starts (waits who).1 who
          exact free
        | charger =>
          rw [rests (by rw [behind who]; nofun), own.arb] at not
          exact absurd who not
  · rw [path, releaseCharge_alone (by rw [own.arb]; exact mine) (by rw [own.arb]; exact alone)]
  · obtain ⟨-, -, -, -, -, -, begun⟩ := starts mine queued
    obtain ⟨discharge, suc, -⟩ := begun (by rw [own.arb]; exact queued)
    rw [path, withdraws.suc, discharge, suc, own.suc, now]
    exact ⟨rfl, rfl⟩
  · rw [path, withdraws.suc, rests other, own.arb, own.suc]
    exact ⟨rfl, rfl⟩

end Sys2Proof.Machine
end

section
/-! PROOFS. An attach, and the dock contact at a scan (08 R138 to R140; 04 R68). -/

namespace Sys2Proof.Machine

/-! ## An attach (08 R139) -/

/-- The controller at an attach. -/
def Charger.found (now : Nat) (c : Charger) : Charger := { c with state := .qualify, helloTimer := some (now + 1000000), detach := 0 }

/-- What an attach leaves, but for the lock latch. -/
theorem attached_spec {s : State} (absent : s.chg.state = .absent) :
    ∃ a, a = raiseHandle .dockChange s.attached ∧ a.chg = s.chg.found s.now ∧ a.noted .dockChange ∧ a.noted .chargeState
      ∧ a.pwr = { s.pwr with entry := .none } ∧ (s.pwr.entry ≠ .none → a.noted .shelfRefused) ∧ a.head = s.head := by
  obtain ⟨u, hu⟩ : ∃ u, u = cancelShelf s := ⟨_, rfl⟩
  have quiet := cancelShelf_notes s
  rw [← hu] at quiet
  have other : u.chg.state ≠ .qualify := by
    rw [quiet]
    dsimp only
    rw [absent]
    nofun
  have set_ : setCharge .qualify u = raiseHandle .chargeState { u with chg := { u.chg with state := .qualify } } := if_neg other
  have e : s.attached
      = { setCharge .qualify u with
          chg := { (setCharge .qualify u).chg with helloTimer := some ((setCharge .qualify u).now + ms 1000), detach := 0 }
          acct := (setCharge .qualify u).acct.openSession } := by
    rw [hu]
    rfl
  have stands : Standing (setCharge .qualify u) (raiseHandle .dockChange s.attached) := by
    refine Standing.trans (t := s.attached) ?_ (raiseHandle_standing _ _)
    rw [e]
    exact Standing.of_eq rfl rfl
  refine ⟨_, rfl, ?_, noted_raise _ _, stands.1 _ ?_, ?_, fun pending => stands.1 _ ((setCharge_standing _ _).1 _ ?_), ?_⟩
  · change s.attached.chg = _
    rw [e, set_, quiet]
    rfl
  · rw [set_]
    exact noted_raise _ _
  · change s.attached.pwr = _
    rw [e, set_, quiet]
    rfl
  · rw [hu]
    exact cancelShelf_noted pending
  · change s.attached.head = _
    rw [e, set_, quiet]
    rfl

/-- The end of a run that the lock alone held, at its dock (04 R68, R69). -/
theorem clearLock_ends {s : State} (running : s.suc.state = .running) (enabled : s.suc.enableAsked = true) (released : s.suc.pressed = false)
    (on : s.suc.lock = true) (path : s.arb.path = .discharge) (alone : s.arb.waiting = none) (quiet : s.unshelved) :
    ((clearLock s).suc.target = 0 ∧ (clearLock s).suc.acc = 0 ∧ (clearLock s).suc.duty = 0 ∧ (clearLock s).arb.gs = 0)
      ∧ ((clearLock s).head = s.head.runEnd s.now ∧ (clearLock s).dirt.window = none ∧ (clearLock s).chg = s.chg
        ∧ (clearLock s).pwr = s.pwr ∧ (clearLock s).now = s.now)
      ∧ (5000 ≤ s.suc.speed →
        (clearLock s).suc.state = .stopping ∧ (clearLock s).suc.stopTimer = some (s.now + 300000) ∧ (clearLock s).men = true)
      ∧ (s.suc.speed < 5000 → (clearLock s).suc.state = .stopped ∧ (clearLock s).men = false ∧ (clearLock s).arb.path = .idle) := by
  rcases clearLock_cases s with ⟨held | off, -⟩ | ⟨-, -, ends⟩
  · cases released.symm.trans held
  · cases on.symm.trans off
  · rw [ends]
    obtain ⟨x, hx⟩ : ∃ x, x = ({ s with suc := { s.suc with lock := false } } : State) := ⟨_, rfl⟩
    have xsuc : x.suc = { s.suc with lock := false } := hx ▸ rfl
    have absent : x.runRequest = false := by
      unfold State.runRequest
      rw [xsuc, released]
      rfl
    have drives : x.suc.state = .starting ∨ x.suc.state = .running := Or.inr (by rw [xsuc]; exact running)
    have left : x.leftDirt = s.dirt.leave := by
      rw [hx]
      exact if_pos running
    have holds : x.holdsPath := by
      rw [hx]
      exact ⟨path, Or.inl alone, quiet⟩
    have same : x.head = s.head ∧ x.now = s.now ∧ x.chg = s.chg ∧ x.pwr = s.pwr ∧ x.arb = s.arb := hx ▸ ⟨rfl, rfl, rfl, rfl, rfl⟩
    obtain ⟨head, now, chg, pwr, arb⟩ := same
    rw [← hx]
    by_cases slow : s.suc.speed < 5000
    · obtain ⟨suc, -, gs, ⟨-, -, idle, -⟩, -, frame⟩ := runEnds_stops absent drives (by rw [xsuc]; exact slow) holds
      obtain ⟨free, kept⟩ := idle (by rw [arb]; exact alone)
      obtain ⟨_, _, _, _, _, _, _, _, e⟩ := frame
      refine ⟨⟨by rw [suc]; rfl, by rw [suc]; rfl, by rw [suc]; rfl, gs⟩, ⟨?_, ?_, kept.trans chg, ?_, ?_⟩,
        fun fast => absurd slow (Nat.not_lt.2 fast), fun _ => ⟨by rw [suc]; rfl, ?_, free⟩⟩
      · rw [e, ← head, ← now]
      · rw [e]
        change x.leftDirt.window = none
        rw [left]
        rfl
      · rw [e, ← pwr]
      · rw [e, ← now]
      · unfold State.men
        rw [suc]
        rfl
    · obtain ⟨suc, -, gs, frame⟩ := runEnds_slows drives (by rw [xsuc]; exact Nat.not_lt.1 slow) (by rw [xsuc]; exact enabled)
      obtain ⟨a, _, _, _, e⟩ := frame
      have held : (runEnds x).arb.path = .discharge := by
        rw [e]
        change x.arb.path = _
        rw [arb]
        exact path
      refine ⟨⟨by rw [suc]; rfl, by rw [suc]; rfl, by rw [suc]; rfl, gs⟩, ⟨?_, ?_, ?_, ?_, ?_⟩, fun _ => ⟨by rw [suc]; rfl, ?_, ?_⟩,
        fun slow' => absurd slow' slow⟩
      · rw [e, ← head, ← now]
      · rw [e]
        change x.leftDirt.window = none
        rw [left]
        rfl
      · rw [e, ← chg]
      · rw [e, ← pwr]
      · rw [e, ← now]
      · rw [suc, ← now]
        rfl
      · unfold State.men
        rw [suc, held, xsuc]
        change (s.suc.enableAsked && _) = true
        rw [enabled]
        rfl

/-- The wand-off timer after the hand-offs of a scan that ended the run request. -/
theorem handedOff_wandOff {r : ScanRecord} {s : State} (run : s.runRequest = true)
    (ended : (suctionScan r (s.atMotor r)).runRequest = false) (powered : (handedOff r s).head.wand = true) :
    (handedOff r s).head.wandOff = some (s.now + 2000000) := by
  obtain ⟨x, hx⟩ : ∃ x, x = allowanceScan r (suctionScan r (s.atMotor r)) := ⟨_, rfl⟩
  have handed : handedOff r s = handOffOverload s (handOffGrants r s (handOffHead s x)) := by
    rw [hx]
    exact scanHandOffs_eq r s _
  have suc : x.suc = (suctionScan r (s.atMotor r)).suc := hx ▸ (allowanceScan_kept r _).2.1
  have now : x.now = s.now := by
    obtain ⟨_, _, _, e⟩ := suctionScan_frame r (s.atMotor r)
    rw [hx, allowanceScan_eq, e]
    unfold State.atMotor
    rw [weighed_eq]
    split <;> rfl
  have ends : handOffHead s x = { x with head := x.head.runEnd x.now } := by
    refine if_pos ?_
    have none_ : x.runRequest = false := by
      unfold State.runRequest
      rw [suc]
      exact ended
    rw [run, none_]
    rfl
  have head : (handOffGrants r s (handOffHead s x)).head = x.head.runEnd s.now := by
    unfold handOffGrants
    split
    · rw [recompute_head, ends, now]
    · rw [ends, now]
  rw [handed] at powered ⊢
  unfold handOffOverload headOverload at powered ⊢
  split at powered
  · rw [(wandPowerOff_unwanted _).1] at powered
    cases powered
  · rename_i calm
    rw [if_neg calm, head, runEnd_wandOff]
    rw [head, runEnd_wandOff] at powered
    exact if_pos powered

end Sys2Proof.Machine
end

section
/-! PROOFS. The dock contact at a scan (08 R138 to R140). -/

namespace Sys2Proof.Machine

theorem receiveScan_after (r : ScanRecord) (s : State) :
    receiveScan r s = chargeScan r (handedOff r s) ∨ receiveScan r s = releaseSuction (chargeScan r (handedOff r s)) := by
  rw [receiveScan_eq]
  split
  · exact Or.inr rfl
  · exact Or.inl rfl

theorem receiveScan_stays (r : ScanRecord) (s : State) : (chargeScan r (handedOff r s)).chg.Stays (receiveScan r s).chg := by
  rcases receiveScan_after r s with e | e <;> rw [e]
  · exact Charger.Stays.of_eq rfl
  · exact releaseSuction_stays _

theorem releaseSuction_absent {s : State} (absent : s.chg.state = .absent) : (releaseSuction s).chg.state = .absent := by
  rcases releaseSuction_cases s with ⟨-, e⟩ | ⟨-, -, e⟩ | ⟨-, -, e⟩ | ⟨-, -, e⟩ <;> rw [e]
  · exact absent
  · exact absent
  · exact absent
  · unfold chargeTaken
    rw [if_pos (show ({ s with arb := { s.arb with path := .charge, waiting := none } } : State).chg.state = .absent from absent)]
    exact absent

/-- No dock yet: the count goes on (08 R138). -/
theorem receiveScan_undocked {r : ScanRecord} {s : State} (absent : s.chg.state = .absent) (few : s.chg.attachCount r < 5) :
    (receiveScan r s).chg.state = .absent ∧ (receiveScan r s).chg.attach = s.chg.attachCount r
      ∧ (receiveScan r s).chg.detach = s.chg.detach := by
  obtain ⟨-, -, chg, -⟩ := handedOff_path r s
  have e : chargeScan r (handedOff r s)
      = chargeJudge r { handedOff r s with chg := { (handedOff r s).chg with attach := (handedOff r s).chg.attachCount r } } := by
    rw [chargeScan_eq, chg, if_pos absent, if_neg (Nat.not_le.2 few)]
  rw [chg] at e
  have judged : (chargeScan r (handedOff r s)).chg.state = .absent := by
    rw [e]
    exact chargeJudge_absent absent
  have stays := (chargeJudge_shape r { handedOff r s with chg := { s.chg with attach := s.chg.attachCount r } }).stays
  rw [← e] at stays
  obtain ⟨attach, detach, -⟩ := stays.trans (receiveScan_stays r s)
  refine ⟨?_, attach, detach⟩
  rcases receiveScan_after r s with e | e <;> rw [e]
  · exact judged
  · exact releaseSuction_absent judged

/-- The dock is still there: the count goes on (08 R138). -/
theorem receiveScan_docked {r : ScanRecord} {s : State} (present : s.chg.state ≠ .absent) (few : s.chg.detachCount r < 2) :
    (receiveScan r s).chg.state ≠ .absent ∧ (receiveScan r s).chg.detach = s.chg.detachCount r
      ∧ (receiveScan r s).chg.attach = s.chg.attach := by
  obtain ⟨-, -, chg, -⟩ := handedOff_path r s
  have e : chargeScan r (handedOff r s)
      = chargeJudge r { handedOff r s with chg := { s.chg with detach := s.chg.detachCount r } } := by
    rw [chargeScan_eq, chg, if_neg present, if_neg (Nat.not_le.2 few)]
  have stays := (chargeJudge_shape r { handedOff r s with chg := { s.chg with detach := s.chg.detachCount r } }).stays
  rw [← e] at stays
  obtain ⟨attach, detach, there⟩ := stays.trans (receiveScan_stays r s)
  exact ⟨there present, detach, attach⟩

/-! ## An attach at a scan -/

theorem pathOk_undocked {s : State} (ok : PathOk s) (absent : s.chg.state = .absent) : s.arb.path ≠ .charge ∧ s.arb.waiting = none := by
  obtain ⟨-, own, waits, charger, queue, -⟩ := ok
  have away : s.arb.path ≠ .charge := fun h => by
    have charging := own.1 h
    rw [absent] at charging
    cases charging
  refine ⟨away, ?_⟩
  cases who : s.arb.waiting with
  | none => rfl
  | some side =>
    cases side with
    | suction => exact absurd (queue who) away
    | charger => cases absent.symm.trans (charger.1 who)

/-- Button and lock latch after the regulator's own work: only a fault clears the latch. -/
theorem suctionScan_keys {s : State} (r : ScanRecord) (ok : PathOk s) :
    (suctionScan r (s.atMotor r)).suc.pressed = s.suc.pressed
      ∧ ((suctionScan r (s.atMotor r)).suc.lock = true → s.suc.OnlySteered (suctionScan r (s.atMotor r)).suc ∧ s.suc.state = .running)
      ∧ (s.suc.lock = true → (suctionScan r (s.atMotor r)).suc.lock = false →
        ∃ c z, suctionScan r (s.atMotor r) = faultSuction c z ∧ s.suc.OnlySteered z.suc) := by
  obtain ⟨-, -, -, -, -, -, enabled, -, latched, -⟩ := ok
  obtain ⟨suc, -⟩ := atMotor_kept r s
  by_cases drives : s.suc.state.driving = true
  · rcases suctionScan_drives (r := r) (s := s.atMotor r) (by rw [suc]; exact drives) (by rw [suc]; exact enabled.trans drives) with
      ⟨u, h, e, same, -⟩ | ⟨c, z, e, same, -⟩
    · rw [suc] at same
      rw [e]
      obtain ⟨-, -, lock, pressed, -⟩ := id same
      exact ⟨pressed, fun on => ⟨same, latched (lock.symm.trans on)⟩, fun on off => absurd (on.symm.trans (lock.symm.trans off)) nofun⟩
    · rw [suc] at same
      obtain ⟨-, -, -, pressed, -⟩ := id same
      refine ⟨?_, fun on => ?_, fun _ _ => ⟨c, z, e, same⟩⟩
      · rw [e, faultSuction_eq]
        exact pressed
      · rw [e, faultSuction_eq] at on
        cases on
  · have off : s.suc.lock = false := Bool.eq_false_iff.2 fun on => drives (by rw [latched on]; rfl)
    obtain ⟨state, -, -, lock, pressed, -⟩ := heard_kept r s.suc
    have kept : (suctionScan r (s.atMotor r)).suc.pressed = s.suc.pressed ∧ (suctionScan r (s.atMotor r)).suc.lock = false := by
      have still : ((s.atMotor r).heard r).suc = s.suc.heard r := by
        unfold State.heard
        rw [suc]
      cases at_ : s.suc.state with
      | stopped =>
        rw [suctionScan_rests (by rw [suc]; exact Or.inl at_), still]
        exact ⟨pressed, lock.trans off⟩
      | waitPath =>
        rw [suctionScan_rests (by rw [suc]; exact Or.inr at_), still]
        exact ⟨pressed, lock.trans off⟩
      | fault =>
        rw [suctionScan_fault (by rw [suc]; exact at_)]
        split
        · dsimp only
          rw [still]
          exact ⟨pressed, lock.trans off⟩
        · rw [still]
          exact ⟨pressed, lock.trans off⟩
      | starting => rw [at_] at drives; exact absurd rfl drives
      | running => rw [at_] at drives; exact absurd rfl drives
      | stopping => rw [at_] at drives; exact absurd rfl drives
    exact ⟨kept.1, fun on => absurd (kept.2.symm.trans on) nofun, fun on => absurd (off.symm.trans on) nofun⟩

/-- What the scan of an attach leaves: the controller, the notices, the shelf entry, the lock latch. -/
structure AttachLeaves (s x : State) (n : Nat) : Prop where
  chg : x.chg = ({ s.chg with attach := n } : Charger).found s.now
  dock : x.noted .dockChange
  state : x.noted .chargeState
  entry : x.pwr.entry = .none
  refused : s.pwr.entry ≠ .none → x.noted .shelfRefused
  lock : x.suc.lock = false
  pressed : x.suc.pressed = s.suc.pressed

/-- What it leaves of a run that the lock latch alone held. -/
structure AttachEnds (s x : State) : Prop where
  rest : x.suc.target = 0 ∧ x.suc.acc = 0 ∧ x.suc.duty = 0 ∧ x.arb.gs = 0
  wand : x.head.wand = true → x.head.wandOff = some (s.now + 2000000)
  window : x.dirt.window = none
  fast : x.suc.state ≠ .fault → 5000 ≤ s.suc.speed →
    x.suc.state = .stopping ∧ x.suc.stopTimer = some (s.now + 300000) ∧ x.men = true
  slow : x.suc.state ≠ .fault → s.suc.speed < 5000 → x.suc.state = .stopped ∧ x.men = false ∧ x.arb.path = .idle

theorem receiveScan_attach {r : ScanRecord} {s : State} (ok : PathOk s) (absent : s.chg.state = .absent) (found : 5 ≤ s.chg.attachCount r) :
    AttachLeaves s (receiveScan r s) (s.chg.attachCount r)
      ∧ (s.suc.pressed = false → s.suc.lock = true → AttachEnds s (receiveScan r s)) := by
  obtain ⟨away, alone⟩ := pathOk_undocked ok absent
  obtain ⟨pressedM, lockM, clearedM⟩ := suctionScan_keys r ok
  obtain ⟨held, -, waits, charger, queue, behind, enabled, runs, latched, entryOk, deepOk⟩ := id ok
  obtain ⟨path, wait, chg, -, now, -⟩ := handedOff_path r s
  obtain ⟨-, -, steered, -⟩ := handedOff_spec r s
  have pressedH : (handedOff r s).suc.pressed = s.suc.pressed := by rw [steered]; exact pressedM
  have lockH : (handedOff r s).suc.lock = (suctionScan r (s.atMotor r)).suc.lock := by rw [steered]
  obtain ⟨h, hh⟩ : ∃ h, h = ({ handedOff r s with chg := { s.chg with attach := s.chg.attachCount r } } : State) := ⟨_, rfl⟩
  have hsuc : h.suc = (handedOff r s).suc ∧ h.arb = (handedOff r s).arb ∧ h.now = s.now ∧ h.head = (handedOff r s).head
      ∧ h.chg = { s.chg with attach := s.chg.attachCount r } ∧ h.pwr = (handedOff r s).pwr := hh ▸ ⟨rfl, rfl, now, rfl, rfl, rfl⟩
  obtain ⟨hsuc, harb, hnow, hhead, hchg, hpwr⟩ := hsuc
  obtain ⟨a, ha, achg, dock, state, apwr, refused, ahead⟩ := attached_spec (s := h) (by rw [hchg]; exact absent)
  obtain ⟨own, aarb⟩ := attached_byControl h
  rw [← ha] at own aarb
  have scan : chargeScan r (handedOff r s) = clearLock a := by
    rw [chargeScan_eq, chg, if_pos absent, if_pos found, attachDock_eq, ha, hh]
  have asuc : a.suc = (handedOff r s).suc := own.suc.trans hsuc
  have afree : a.arb.waiting = none := by rw [aarb, harb, wait]; exact alone
  have entryH : (handedOff r s).pwr.entry = s.pwr.entry := by
    obtain ⟨_, _, _, _, _, _, e⟩ := handedOff_frame r s
    rw [e]
  rw [hchg, hnow] at achg
  have pending : s.pwr.entry ≠ .none → a.noted .shelfRefused := fun h => refused (by rw [hpwr, entryH]; exact h)
  rcases clearLock_cases a with ⟨keeps, e⟩ | ⟨released, on, -⟩
  · obtain ⟨stands, chg', pwr', suc', head'⟩ : Standing a (receiveScan r s) ∧ (receiveScan r s).chg = a.chg ∧ (receiveScan r s).pwr = a.pwr
        ∧ (receiveScan r s).suc = { a.suc with lock := false } ∧ (receiveScan r s).head = a.head := by
      rcases receiveScan_after r s with whole | whole <;> rw [whole, scan, e]
      · exact ⟨Standing.of_eq rfl rfl, rfl, rfl, rfl, rfl⟩
      · obtain ⟨stands, -⟩ := releaseSuction_byExchange { a with suc := { a.suc with lock := false } }
        obtain ⟨kept, -⟩ := releaseSuction_alone (s := { a with suc := { a.suc with lock := false } }) afree
        refine ⟨Standing.trans (t := { a with suc := { a.suc with lock := false } }) (Standing.of_eq rfl rfl) stands, kept, ?_⟩
        obtain ⟨_, _, _, _, _, moved⟩ := releaseSuction_byCharger { a with suc := { a.suc with lock := false } }
        rw [moved]
        exact ⟨rfl, rfl, rfl⟩
    refine ⟨⟨chg'.trans achg, stands.1 _ dock, stands.1 _ state, by rw [pwr', apwr], fun h => stands.1 _ (pending h), by rw [suc'],
      by rw [suc', asuc]; exact pressedH⟩, fun released on => ?_⟩
    have offM : (suctionScan r (s.atMotor r)).suc.lock = false := by
      rw [← lockH, ← asuc]
      refine keeps.resolve_left fun held => ?_
      rw [asuc, pressedH, released] at held
      cases held
    obtain ⟨c, z, faults, same⟩ := clearedM on offM
    have running := latched on
    have discharge : s.arb.path = .discharge := held.2 (by rw [running]; rfl)
    obtain ⟨fsuc, -, -, gs, -, -, dirt⟩ := receiveScan_faults (s := s) discharge (by rw [alone]; nofun) (by rw [running]; nofun) faults
    have faulted : (receiveScan r s).suc.state = .fault := by rw [fsuc]; rfl
    refine ⟨⟨by rw [fsuc]; rfl, by rw [fsuc]; rfl, by rw [fsuc]; rfl, gs⟩, fun powered => ?_, ?_, fun no => absurd faulted no,
      fun no => absurd faulted no⟩
    · rw [head', ahead, hhead] at powered ⊢
      refine handedOff_wandOff (runs (Or.inr (Or.inr running))) ?_ powered
      unfold State.runRequest
      rw [pressedM, released, offM]
      rfl
    · have left : z.leftDirt = z.dirt.leave := if_pos (same.1.trans running)
      rw [dirt, left]
      rfl
  · have on' : (suctionScan r (s.atMotor r)).suc.lock = true := by rw [← lockH, ← asuc]; exact on
    obtain ⟨⟨stateM, enableM, -, -, speedM⟩, running⟩ := lockM on'
    have discharge : s.arb.path = .discharge := held.2 (by rw [running]; rfl)
    have whole : receiveScan r s = clearLock a := by
      rw [receiveScan_unfaulted fun fault => stateM.symm.trans fault, scan]
    have quiet : a.unshelved := by
      have noEntry : s.pwr.entry = .none := by
        by_contra some_
        exact absurd (discharge.symm.trans (entryOk some_).1) nofun
      have noDeep : (handedOff r s).pwr.deepTimer = none := by
        obtain ⟨_, _, _, _, _, _, e⟩ := handedOff_frame r s
        rw [e]
        change s.deepAfter r = none
        unfold State.deepAfter State.deepCondition
        rw [discharge]
        split
        · rw [show (Path.discharge == Path.idle) = false from rfl, Bool.and_false]
          rfl
        · cases timer : s.pwr.deepTimer with
          | none => rfl
          | some d => exact absurd (discharge.symm.trans (deepOk (by rw [timer]; rfl)).1) nofun
      unfold State.unshelved
      rw [apwr, hpwr]
      exact ⟨rfl, noDeep⟩
    have speed : a.suc.speed = s.suc.speed := by rw [asuc, steered]; exact speedM
    have nowA : a.now = s.now := own.now.trans hnow
    obtain ⟨rest, ⟨head', dirt', chg', pwr', now'⟩, fast, slow⟩ := clearLock_ends (s := a)
      (by rw [asuc, steered]; exact stateM.trans running)
      (by rw [asuc, steered]; exact enableM.trans (enabled.trans (by rw [running]; rfl))) released on
      (by rw [aarb, harb, path]; exact discharge) afree quiet
    obtain ⟨stands, -⟩ := clearLock_byExchange a
    have suc' := clearLock_suc (s := a) fun _ =>
      ⟨by rw [asuc, steered]; exact stateM.trans running, by rw [asuc, steered]; exact enableM.trans (enabled.trans (by rw [running]; rfl))⟩
    rw [if_neg (by rw [released, on]; decide)] at suc'
    rw [speed, nowA] at fast
    rw [speed] at slow
    rw [whole]
    refine ⟨⟨chg'.trans achg, stands.1 _ dock, stands.1 _ state, by rw [pwr', apwr], fun h => stands.1 _ (pending h), ?_, ?_⟩,
      fun _ _ => ⟨rest, fun powered => ?_, dirt', fun _ => fast, fun _ => slow⟩⟩
    · rw [suc']
      split <;> rfl
    · rw [suc', ← pressedH, ← asuc]
      split <;> rfl
    · rw [head', runEnd_wandOff] at powered ⊢
      rw [← nowA]
      exact if_pos powered

/-! ## A detach at a scan -/

/-- What the scan of a detach leaves: the controller, the notices, the path. -/
structure DetachLeaves (s x : State) (n : Nat) : Prop where
  chg : x.chg = ({ s.chg with detach := n } : Charger).undocked s.settings.chgVcell s.undockedNumber
  dock : x.noted .dockChange
  state : x.noted .chargeState
  order : ¬(s.chg.orderCur = 0 ∧ s.chg.orderCeil = s.settings.chgVcell) → x.dockNoted .orderChanged
  waiting : x.arb.waiting = none
  frees : s.arb.path = .charge → s.arb.waiting = none → x.arb.path = .idle
  hands : s.arb.path = .charge → s.arb.waiting = some .suction → x.arb.path = .discharge ∧ x.suc.state = .starting ∧ x.men = true
  other : s.arb.path ≠ .charge → x.arb.path ≠ .charge ∧ (x.men = s.men → x.arb.path = s.arb.path)

theorem receiveScan_detach {r : ScanRecord} {s : State} (ok : PathOk s) (present : s.chg.state ≠ .absent) (lost : 2 ≤ s.chg.detachCount r) :
    DetachLeaves s (receiveScan r s) (s.chg.detachCount r) := by
  obtain ⟨held, -, waits, -, queue, behind, enabled, -⟩ := ok
  obtain ⟨path, wait, chg, -, now, settings⟩ := handedOff_path r s
  obtain ⟨-, -, steered, -⟩ := handedOff_spec r s
  obtain ⟨suc, -⟩ := atMotor_kept r s
  obtain ⟨h, hh⟩ : ∃ h, h = ({ handedOff r s with chg := { s.chg with detach := s.chg.detachCount r } } : State) := ⟨_, rfl⟩
  have hs : h.suc = (handedOff r s).suc ∧ h.arb = (handedOff r s).arb ∧ h.settings = s.settings
      ∧ h.chg = { s.chg with detach := s.chg.detachCount r } := hh ▸ ⟨rfl, rfl, settings, rfl⟩
  obtain ⟨hsuc, harb, hset, hchg⟩ := hs
  have scan : chargeScan r (handedOff r s) = detachDock h := by
    rw [chargeScan_eq, chg, if_neg present, if_pos lost, hh]
  have queued (who : s.arb.waiting = some .suction) : (handedOff r s).suc.state = .waitPath := by
    have waiting := waits.1 who
    rw [steered, suctionScan_rests (by rw [suc]; exact Or.inr waiting)]
    change ((s.atMotor r).suc.heard r).state = _
    rw [suc]
    exact (heard_kept r s.suc).1.trans waiting
  have number : h.undockedNumber = s.undockedNumber := by
    unfold State.undockedNumber
    rw [hchg, hset]
  obtain ⟨chg', dock, state, order, free, frees, hands, other⟩ := detachDock_spec (s := h) (by rw [hchg]; exact present)
    (by rw [harb, wait, path, hsuc]; exact fun who => ⟨queue who, queued who⟩) (by rw [harb, wait, path]; exact behind)
  rw [hchg, hset, number] at chg'
  rw [hchg, hset] at order
  rw [harb, path, wait] at frees hands
  rw [harb, path] at other
  by_cases faults : (suctionScan r (s.atMotor r)).suc.state = .fault ∧ s.suc.state ≠ .fault
  · obtain ⟨fault, was⟩ := faults
    have drives : s.suc.state.driving = true := by
      have old := suctionScan_newFault fault (by rw [suc]; exact was)
      rw [suc] at old
      exact old
    have discharge := held.2 drives
    obtain ⟨kept, free', idle, -⟩ := releaseSuction_alone free
    obtain ⟨stands, -⟩ := releaseSuction_byExchange (detachDock h)
    have away : (releaseSuction (detachDock h)).arb.path = .idle := idle ((other (by rw [discharge]; nofun)).1.trans discharge)
    rw [receiveScan_faulted fault was, scan]
    refine ⟨kept.trans chg', stands.1 _ dock, stands.1 _ state, fun h => stands.2 _ (order h), free', fun no => ?_, fun no => ?_,
      fun _ => ⟨by rw [away]; nofun, fun same => ?_⟩⟩
    · cases discharge.symm.trans no
    · cases discharge.symm.trans no
    · have on : s.men = true := by
        unfold State.men
        rw [discharge, enabled.trans drives]
        rfl
      have off : (releaseSuction (detachDock h)).men = false := by
        unfold State.men
        rw [away]
        exact Bool.and_false _
      cases off.symm.trans (same.trans on)
  · have quiet : (suctionScan r (s.atMotor r)).suc.state = .fault → s.suc.state = .fault := fun fault => by
      by_contra was
      exact faults ⟨fault, was⟩
    rw [receiveScan_unfaulted quiet, scan]
    refine ⟨chg', dock, state, order, free, frees, fun mine who => ?_, fun away => ?_⟩
    · obtain ⟨discharge, begun⟩ := hands mine who
      refine ⟨discharge, by rw [begun]; rfl, ?_⟩
      unfold State.men
      rw [begun, discharge]
      rfl
    · rw [(other away).1]
      exact ⟨away, fun _ => rfl⟩

/-- Settles O45: no dock, an attach, the dock still there, a detach. -/
theorem scanFindsDock : Obligations.ScanFindsDock := by
  intro s ok start first k phase
  obtain ⟨t, r, n, next, table, -, e⟩ := scan_received k phase
  refine ⟨t, r, next, table, ?_⟩
  intro attach detach
  obtain ⟨p, hp⟩ : ∃ p, p = s.atScan start n := ⟨_, rfl⟩
  obtain ⟨x, hx⟩ : ∃ x, x = receiveScan r p := ⟨_, rfl⟩
  rw [← hp, ← hx] at e
  have pok : PathOk p := hp ▸ ok
  have same : p.chg = s.chg ∧ p.suc = s.suc ∧ p.arb = s.arb ∧ p.pwr = s.pwr ∧ p.settings = s.settings := hp ▸ ⟨rfl, rfl, rfl, rfl, rfl⟩
  obtain ⟨chg, suc, arb, pwr, settings⟩ := same
  have now : t.now = p.now := by
    obtain ⟨_, _, _, _, _, _, _, _, _, _, _, _, _, frame⟩ := receiveScan_frame r p
    rw [e, hx, frame]
  have fields : t.chg = x.chg ∧ t.suc = x.suc ∧ t.arb = x.arb ∧ t.pwr = x.pwr ∧ t.head = x.head ∧ t.dirt = x.dirt := by
    rw [e]
    exact ⟨rfl, rfl, rfl, rfl, rfl, rfl⟩
  obtain ⟨tchg, tsuc, tarb, tpwr, thead, tdirt⟩ := fields
  have tmen : t.men = x.men := by
    unfold State.men
    rw [tsuc, tarb]
  have noted (m : HandleNotice) (h : x.noted m) : t.noted m := by
    rw [e]
    exact h
  refine ⟨fun absent few => ?_, fun absent full => ?_, fun present few => ?_, fun present full => ?_⟩
  · have left := receiveScan_undocked (r := r) (s := p) (by rw [chg]; exact absent) (by rw [chg]; exact few)
    rw [← hx, chg] at left
    rw [tchg]
    exact left
  · have five : s.chg.attachCount r = 5 := full
    obtain ⟨leaves, ends⟩ := receiveScan_attach (r := r) pok (by rw [chg]; exact absent) (by rw [chg, five])
    rw [← hx, chg, five] at leaves
    rw [← hx, suc] at ends
    obtain ⟨chg', dock, state, entry, refused, lock, pressed⟩ := leaves
    have run : t.runRequest = s.suc.pressed := by
      unfold State.runRequest
      rw [tsuc, lock, pressed, suc, Bool.or_false]
    refine ⟨?_, noted _ dock, noted _ state, ?_, by rw [tpwr]; exact entry, fun pending => noted _ (refused (by rw [pwr]; exact pending)),
      by rw [tsuc]; exact lock, by rw [tsuc, pressed, suc], fun keeps => ?_, fun released on => ?_⟩
    · rw [tchg, chg', chg, now]
      rfl
    · unfold State.chgg
      rw [tchg, chg']
      rfl
    · rw [run]
      unfold State.runRequest
      rcases keeps with held | off
      · rw [held]
        rfl
      · rw [off, Bool.or_false]
    · obtain ⟨⟨target, acc, duty, gs⟩, wand, window, fast, slow⟩ := ends released on
      rw [suc, ← now, ← tsuc, ← tmen] at fast
      rw [suc, ← tsuc, ← tmen, ← tarb] at slow
      exact ⟨run.trans released, by rw [tsuc]; exact target, by rw [tsuc]; exact acc, by rw [tsuc]; exact duty, by rw [tarb]; exact gs,
        by rw [thead, now]; exact wand, by rw [tdirt]; exact window, fast, slow⟩
  · have left := receiveScan_docked (r := r) (s := p) (by rw [chg]; exact present) (by rw [chg]; exact few)
    rw [← hx, chg] at left
    rw [tchg]
    exact left
  · have two : s.chg.detachCount r = 2 := full
    obtain ⟨chg', dock, state, order, waiting, frees, hands, other⟩ :=
      receiveScan_detach (r := r) pok (by rw [chg]; exact present) (by rw [chg, two])
    rw [← hx] at chg' dock state order waiting frees hands other
    have men : p.men = s.men := by
      unfold State.men
      rw [suc, arb]
    rw [arb] at frees hands other
    rw [men, ← tmen] at other
    rw [← tmen, ← tarb, ← tsuc] at hands
    rw [← tarb] at frees other waiting
    intro stood
    refine ⟨?_, noted _ dock, noted _ state, fun moved => ?_, ?_, waiting, frees, hands, other⟩
    · have number : p.undockedNumber = if stood then s.chg.orderNum else (s.chg.orderNum + 1) % 256 := by
        unfold State.undockedNumber
        rw [chg, settings]
      rw [tchg, chg', number, chg, settings, two]
      rfl
    · have moved' := order (by rw [chg, settings]; exact moved)
      rw [e]
      exact moved'
    · unfold State.chgg
      rw [tchg, chg']
      rfl

end Sys2Proof.Machine
end

section
/-! PROOFS. A scan steers the motor (04 R77 to R83). -/

namespace Sys2Proof.Machine

/-! ## Target and duty through the hand-offs (03 R57; 04 R78, R80) -/

/-- The duty is the one that the trim loop forms of target and accumulator. -/
def State.DutyFollows (s : State) : Prop := s.suc.duty = dutyFor s.suc.state s.settings.pfull s.suc.target s.suc.acc

/-- The target stands under a top and under the grant, and the duty follows it. -/
def State.Under (top : Nat) (s : State) : Prop := s.suc.target ≤ top ∧ s.suc.target ≤ s.arb.gs ∧ s.DutyFollows

theorem takeGrant_follows {pfull gs : Nat} {u : Suction} (follows : u.duty = dutyFor u.state pfull u.target u.acc) :
    (takeGrant pfull gs u).duty
      = dutyFor (takeGrant pfull gs u).state pfull (takeGrant pfull gs u).target (takeGrant pfull gs u).acc := by
  unfold takeGrant
  split
  · rfl
  · exact follows

theorem recompute_under {top : Nat} {s : State} (low : s.suc.target ≤ top) (follows : s.DutyFollows) : (recompute s).Under top := by
  refine ⟨?_, ?_, ?_⟩
  · rw [recompute_target]
    exact (Nat.min_le_left _ _).trans low
  · rw [recompute_target]
    exact Nat.min_le_right _ _
  · unfold State.DutyFollows
    rw [recompute_suc, recompute_settings]
    exact takeGrant_follows follows

theorem wandPowerOff_under {top : Nat} {s : State} (low : s.suc.target ≤ top) (follows : s.DutyFollows) : (wandPowerOff s).Under top := by
  have first : (recompute s.wandCut).Under top := recompute_under (s := s.wandCut) low follows
  change (headAbsent (recompute s.wandCut)).Under top
  unfold headAbsent dropBrushStack
  split
  · exact recompute_under (s := { raiseHandle .headChange { recompute s.wandCut with head := _ } with arb := _ }) first.1 first.2.2
  · exact first

/-- The hand-offs keep the target under what the steering gave it, and hand the grant on; only an overload lets it fall further. -/
theorem scanHandOffs_under {r : ScanRecord} {before s : State} (within_ : s.suc.target ≤ s.arb.gs) (follows : s.DutyFollows) :
    (scanHandOffs r before s).Under s.suc.target
      ∧ (¬(before.head.overload < 10 ∧ 10 ≤ (handOffGrants r before (handOffHead before s)).head.overload) →
        (scanHandOffs r before s).suc.target = min s.suc.target (scanHandOffs r before s).arb.gs) := by
  have ended : (handOffHead before s).suc = s.suc ∧ (handOffHead before s).arb = s.arb ∧ (handOffHead before s).settings = s.settings := by
    rcases handOffHead_cases before s with e | e <;> rw [e] <;> exact ⟨rfl, rfl, rfl⟩
  obtain ⟨suc, arb, settings⟩ := ended
  have follows' : (handOffHead before s).DutyFollows := by
    unfold State.DutyFollows
    rw [suc, settings]
    exact follows
  have granted : (handOffGrants r before (handOffHead before s)).Under s.suc.target
      ∧ (handOffGrants r before (handOffHead before s)).suc.target
        = min s.suc.target (handOffGrants r before (handOffHead before s)).arb.gs := by
    unfold handOffGrants
    split
    · refine ⟨recompute_under (by rw [suc]) follows', ?_⟩
      rw [recompute_target, suc]
    · refine ⟨⟨by rw [suc], by rw [suc, arb]; exact within_, follows'⟩, ?_⟩
      rw [suc, arb, Nat.min_eq_left within_]
  rw [scanHandOffs_eq]
  unfold handOffOverload headOverload
  split
  · rename_i cut
    exact ⟨wandPowerOff_under (s := raiseHandle .headOverload (handOffGrants r before (handOffHead before s))) granted.1.1 granted.1.2.2,
      fun no => absurd cut no⟩
  · exact ⟨granted.1, fun _ => granted.2⟩

/-- An overload switches off a wand that was on. -/
theorem handedOff_powered {r : ScanRecord} {s : State} (same : (handedOff r s).head.wand = s.head.wand) :
    ∃ x, x = allowanceScan r (suctionScan r (s.atMotor r))
      ∧ ¬(s.head.overload < 10 ∧ 10 ≤ (handOffGrants r s (handOffHead s x)).head.overload) := by
  refine ⟨_, rfl, fun cut => ?_⟩
  obtain ⟨x, hx⟩ : ∃ x, x = allowanceScan r (suctionScan r (s.atMotor r)) := ⟨_, rfl⟩
  rw [← hx] at cut
  have handed : handedOff r s = headOverload (handOffGrants r s (handOffHead s x)) := by
    rw [hx] at cut ⊢
    exact (scanHandOffs_eq r s _).trans (if_pos cut)
  have off : (handedOff r s).head.wand = false := by
    rw [handed]
    exact (wandPowerOff_unwanted _).1
  have head : x.head = { s.head with overload := s.head.counted s.arb.gh r } := by
    rw [hx, motorScan_head]
    unfold State.atMotor
    rw [weighed_eq, headScan_eq]
  have over_ : (handOffGrants r s (handOffHead s x)).head.overload = s.head.counted s.arb.gh r := by
    have ended : (handOffHead s x).head.overload = s.head.counted s.arb.gh r := by
      rcases handOffHead_cases s x with e | e <;> rw [e]
      · rw [head]
      · dsimp only
        rw [runEnd_wandOff, head]
    unfold handOffGrants
    split
    · rw [recompute_head, ended]
    · exact ended
  have counts : s.head.counts r = true := by
    by_contra no
    obtain ⟨below, ten⟩ := cut
    rw [over_] at ten
    unfold Head.counted at ten
    rw [if_neg no] at ten
    omega
  obtain ⟨-, -, -, -, -, powered, -⟩ := (counts_iff r s.head).1 counts
  cases (same.symm.trans off).symm.trans powered

/-! ## The steering (04 R77 steps 3 and 4, R78 to R80, R82, R83) -/

/-- Whether a scan's error leaves the accumulator alone (04 R79). -/
def Suction.holds (error : Int) (u : Suction) : Prop := (u.duty = 1000 ∧ 0 < error) ∨ (u.duty = 0 ∧ error < 0)

theorem trimUpdate_eq (ki : Nat) (r : ScanRecord) (u : Suction) (error : Int) (is_ : error = (u.target : Int) - motorPower r) :
    u.trimUpdate ki r
      = { u with
          trim := some ⟨motorPower r, error⟩
          acc := (u.trimUpdate ki r).acc }
      ∧ (u.holds error → (u.trimUpdate ki r).acc = u.acc)
      ∧ (¬u.holds error → (u.trimUpdate ki r).acc = max (-20000) (min 20000 (u.acc + error * ki))) := by
  subst is_
  have holds : ((u.duty == 1000 && decide (0 < (u.target : Int) - motorPower r)) || (u.duty == 0 && decide ((u.target : Int) - motorPower r < 0)))
      = true ↔ u.holds ((u.target : Int) - motorPower r) := by
    unfold Suction.holds
    rw [Bool.or_eq_true, Bool.and_eq_true, Bool.and_eq_true, beq_iff_eq, beq_iff_eq, decide_eq_true_eq, decide_eq_true_eq]
  exact ⟨rfl, fun h => if_pos (holds.2 h), fun h => if_neg fun k => h (holds.1 k)⟩

/-- The accumulator after a scan's trim update, if there is one. -/
def Suction.accAfter (t : Settings) (gs : Nat) (r : ScanRecord) (u : Suction) : Int :=
  if r.isValid = true then (({ u with target := rampTarget t.rampUp gs u.target } : Suction).trimUpdate t.ki r).acc else u.acc

theorem steer_eq (t : Settings) (gs : Nat) (r : ScanRecord) (u : Suction) :
    u.steer t gs r
      = { u with
          target := rampTarget t.rampUp gs u.target
          trim := if r.isValid = true then some ⟨motorPower r, (rampTarget t.rampUp gs u.target : Int) - motorPower r⟩ else u.trim
          acc := u.accAfter t gs r
          duty := dutyFor u.state t.pfull (rampTarget t.rampUp gs u.target) (u.accAfter t gs r) } := by
  unfold Suction.steer Suction.accAfter
  dsimp only
  split <;> rfl

/-- A motor that a scan leaves driving: what the rest of the scan can still do to it. -/
theorem receiveScan_drivesOn {r : ScanRecord} {s : State} {v : Suction} {notes : BitVec 15} (ok : PathOk s)
    (drives : s.suc.state.driving = true)
    (work : suctionScan r (s.atMotor r)
      = { s.atMotor r with suc := v, ports := { (s.atMotor r).ports with handleNotes := notes } })
    (alike : s.suc.OnlySteered v) (within_ : v.target ≤ s.arb.gs) (follows : v.duty = dutyFor v.state s.settings.pfull v.target v.acc)
    (keeps : s.suc.pressed = true ∨ ¬(s.chg.state = .absent ∧ (receiveScan r s).chg.state = .qualify)) :
    ((receiveScan r s).suc
          = { v with
              target := (receiveScan r s).suc.target, duty := (receiveScan r s).suc.duty, lock := (receiveScan r s).suc.lock }
        ∧ (receiveScan r s).suc.target ≤ v.target ∧ (receiveScan r s).suc.target ≤ (receiveScan r s).arb.gs
        ∧ ((receiveScan r s).head.wand = s.head.wand → (receiveScan r s).suc.target = min v.target (receiveScan r s).arb.gs)
        ∧ (receiveScan r s).suc.duty = dutyFor v.state s.settings.pfull (receiveScan r s).suc.target v.acc)
      ∧ Standing (suctionScan r (s.atMotor r)) (receiveScan r s)
      ∧ (v.clogged ≠ s.suc.clogged →
        (receiveScan r s).arb.ds = (receiveScan r s).demandS
          ∧ (receiveScan r s).arb.gs = min (receiveScan r s).demandS ((receiveScan r s).alw.pallow - (receiveScan r s).arb.gh))
      ∧ ((receiveScan r s).arb.path = .discharge ∧ (receiveScan r s).men = true ∧ (receiveScan r s).bin = s.bin
        ∧ (receiveScan r s).dirt = s.dirt) := by
  obtain ⟨held, -, -, -, queue, -, enabled, -⟩ := id ok
  have discharge := held.2 drives
  have enable : s.suc.enableAsked = true := enabled.trans drives
  have alone : s.arb.waiting ≠ some .suction := fun h => absurd (discharge.symm.trans (queue h)) nofun
  obtain ⟨state, enableV, lock, pressed, speed⟩ := alike
  obtain ⟨msuc, marb, mset, mdirt, mbin⟩ := atMotor_kept r s
  obtain ⟨path, wait, chg, bin, now, settings⟩ := handedOff_path r s
  obtain ⟨stands, dirt, steered, -, granted⟩ := handedOff_spec r s
  rw [work] at dirt steered granted
  have whole : receiveScan r s = chargeScan r (handedOff r s) := receiveScan_unfaulted fun fault => by
    rw [work] at fault
    exact state.symm.trans fault
  have under : (handedOff r s).Under v.target
      ∧ ((handedOff r s).head.wand = s.head.wand → (handedOff r s).suc.target = min v.target (handedOff r s).arb.gs) := by
    obtain ⟨x, hx⟩ : ∃ x, x = allowanceScan r (suctionScan r (s.atMotor r)) := ⟨_, rfl⟩
    have own : x.suc = v ∧ x.arb = s.arb ∧ x.settings = s.settings := by
      rw [hx, allowanceScan_eq, work]
      split
      · exact ⟨rfl, marb, mset⟩
      · exact ⟨rfl, marb, mset⟩
    obtain ⟨xsuc, xarb, xset⟩ := own
    have hands := scanHandOffs_under (r := r) (before := s) (s := x) (by rw [xsuc, xarb]; exact within_) (by
      unfold State.DutyFollows
      rw [xsuc, xset]
      exact follows)
    rw [xsuc] at hands
    have e : handedOff r s = scanHandOffs r s x := by rw [hx]; rfl
    rw [e]
    refine ⟨hands.1, fun same => hands.2 ?_⟩
    rw [← e] at same
    obtain ⟨y, hy, calm⟩ := handedOff_powered same
    rw [← hx] at hy
    rw [← hy]
    exact calm
  obtain ⟨⟨low, given, duty⟩, exact_⟩ := under
  have dutyH : (handedOff r s).suc.duty = dutyFor v.state s.settings.pfull (handedOff r s).suc.target v.acc := by
    have formed := duty
    unfold State.DutyFollows at formed
    rw [settings] at formed
    rw [formed, steered]
  obtain ⟨a, l, own, away, e, still⟩ : ∃ (a : State) (l : Bool), ByControl (handedOff r s) a ∧ a.arb.path = .discharge
      ∧ receiveScan r s = { a with suc := { a.suc with lock := l } } ∧ (l = a.suc.lock ∨ s.suc.pressed = true) := by
    by_cases off : (handedOff r s).suc.lock = false ∨ (handedOff r s).chg.state ≠ .absent ∨ (handedOff r s).chg.attachCount r < 5
    · obtain ⟨own, away, -⟩ := (chargeScan_pathWork off).discharging (path.trans discharge) (by rw [wait]; exact alone)
      exact ⟨_, _, own, away, whole, Or.inl rfl⟩
    · rw [not_or, not_or, not_ne_iff, Nat.not_lt] at off
      obtain ⟨-, absent, found⟩ := off
      obtain ⟨a, own, arb, attaches⟩ := chargeScan_attaches absent found
      rw [chg] at absent found
      obtain ⟨⟨attached, -⟩, -⟩ := receiveScan_attach ok absent found
      have down : s.suc.pressed = true := keeps.resolve_right fun no => no ⟨absent, by rw [attached]; rfl⟩
      refine ⟨a, false, own, by rw [arb, path]; exact discharge, ?_, Or.inr down⟩
      rcases clearLock_cases a with ⟨-, e⟩ | ⟨up, -⟩
      · rw [whole, attaches, e]
      · rw [own.suc, steered] at up
        cases up.symm.trans (pressed.trans down)
  have hsuc := own.suc
  refine ⟨⟨?_, ?_, ?_, ?_, ?_⟩, ?_, fun moved => ?_, ?_, ?_, ?_, ?_⟩
  · rw [e]
    dsimp only
    rw [hsuc, steered]
  · rw [e]
    dsimp only
    rw [hsuc]
    exact low
  · rw [e]
    dsimp only
    rw [hsuc, own.gs]
    exact given
  · rw [e]
    dsimp only
    rw [hsuc, own.gs, own.head]
    exact exact_
  · rw [e]
    dsimp only
    rw [hsuc]
    exact dutyH
  · rw [e]
    exact stands.trans (own.1.trans (Standing.of_eq rfl rfl))
  · have fresh := granted (Or.inr moved)
    obtain ⟨same, ds, gh, pallow⟩ : (receiveScan r s).demandS = (handedOff r s).demandS ∧ (receiveScan r s).arb.ds = (handedOff r s).arb.ds
        ∧ (receiveScan r s).arb.gh = (handedOff r s).arb.gh ∧ (receiveScan r s).alw.pallow = (handedOff r s).alw.pallow := by
      have run : ({ a with suc := { a.suc with lock := l } } : State).runRequest = a.runRequest := by
        unfold State.runRequest
        rcases still with rfl | down
        · rfl
        · rw [hsuc, steered]
          dsimp only
          rw [pressed, down]
          rfl
      have alike : ({ a with suc := { a.suc with lock := l } } : State).demandS = a.demandS := by
        unfold State.demandS State.uncappedDs
        rw [run]
        rfl
      rw [e, alike]
      obtain ⟨-, _, _, _, _, _, _, _, _, ea⟩ := own
      rw [ea]
      exact ⟨rfl, rfl, rfl, rfl⟩
    have gs : (receiveScan r s).arb.gs = (handedOff r s).arb.gs := by
      rw [e]
      exact own.gs
    rw [same, ds, gs, gh, pallow]
    exact ⟨fresh.ds, fresh.gs⟩
  · rw [e]
    exact away
  · rw [e]
    unfold State.men
    dsimp only
    rw [hsuc, away, steered]
    dsimp only
    rw [enableV, enable]
    rfl
  · rw [e]
    exact own.bin.trans bin
  · rw [e]
    exact own.dirt.trans (dirt.trans mdirt)

end Sys2Proof.Machine
end

section
/-! PROOFS. A scan steers the motor: the ramp, the trim, the clog detector (04 R77 to R83). -/

namespace Sys2Proof.Machine

/-- The lock count of a scan (04 R82). -/
def Suction.locks (t : Settings) (u : Suction) : Nat :=
  if t.clogMinP ≤ u.target ∧ t.clogRpm ≤ u.speed then min 255 (u.lockCount + 1) else 0

/-- The unlock count of a scan (04 R83). -/
def Suction.unlocks (t : Settings) (u : Suction) : Nat := if u.speed + 5000 < t.clogRpm then min 1023 (u.unlockCount + 1) else 0

theorem countClog_clear {t : Settings} {u : Suction} (clear : u.clogged = false) :
    u.countClog t
      = if t.clogLock ≤ u.locks t then
          ({ u with clogged := true, lockCount := 0, unlockCount := 0, episodes := min 3 (u.episodes + 1) }, true)
        else ({ u with lockCount := u.locks t }, false) := by
  unfold Suction.countClog
  rw [if_neg (by rw [clear]; nofun)]
  rfl

theorem countClog_clogged {t : Settings} {u : Suction} (clogged : u.clogged = true) :
    u.countClog t
      = if t.clogUnlock ≤ u.unlocks t then ({ u with clogged := false, lockCount := 0, unlockCount := 0 }, false)
        else ({ u with unlockCount := u.unlocks t }, false) := by
  unfold Suction.countClog
  rw [if_pos clogged]
  rfl

theorem dutyFor_steered {st : SuctionState} (steered : st.steered = true) (pfull target : Nat) (acc : Int) :
    dutyFor st pfull target acc = (max 0 (min 1000 (((target * 1000 / pfull : Nat) : Int) + Int.tdiv acc 64))).toNat := by
  cases st with
  | starting => rfl
  | running => rfl
  | stopped | waitPath | stopping | fault => cases steered

theorem steered_drives {st : SuctionState} (steered : st.steered = true) : st.driving = true := by
  cases st with
  | starting => rfl
  | running => rfl
  | stopped | waitPath | stopping | fault => cases steered

/-- The regulator that a scan's checks hand to the steering, where they find no fault. -/
theorem suctionScan_steers {r : ScanRecord} {s : State} (steered : s.suc.state.steered = true) (enabled : s.suc.enableAsked = true)
    (checked : r.validity = .valid →
      (∃ x, r.motorTemp = .ok x ∧ x < 120) ∧ ((r.motorSat = true ∨ 45000 < r.motor) → s.suc.overCount < 2)) :
    ∃ c, suctionScan r s
      = steerScan r
          { s with suc := { s.suc with lastTemp := if r.validity = .valid then some r.motorTemp else s.suc.lastTemp, overCount := c } } := by
  have drives := steered_drives steered
  have goes : ¬s.suc.state = .stopping := fun h => by rw [h] at steered; cases steered
  by_cases valid : r.validity = .valid
  · obtain ⟨⟨y, temp, low⟩, few⟩ := checked valid
    obtain ⟨-, cool⟩ := checkMotor_cases r (s.suc.heard r)
    have is_ := cool (Bool.eq_false_iff.2 fun hot => by
      have high := (motorHot_iff _).1 hot y temp
      omega)
    rw [heard_fields, if_pos valid] at is_
    dsimp only at is_
    have none_ : ¬(if overcurrent r = true then min 3 (s.suc.overCount + 1) else 0) = 3 := by
      split
      · rename_i much
        have below := few ((overcurrent_iff r).1 much)
        omega
      · omega
    rw [if_neg none_] at is_
    refine ⟨if overcurrent r = true then min 3 (s.suc.overCount + 1) else 0, ?_⟩
    rw [suctionScan_checked drives enabled ((isValid_iff r).2 valid), heard_fields, if_pos valid, is_, if_pos rfl, if_neg goes]
  · refine ⟨s.suc.overCount, ?_⟩
    rw [suctionScan_unchecked drives fun h => valid ((isValid_iff r).1 h), if_neg goes, if_neg valid]

theorem steerScan_counts {r : ScanRecord} {s : State} {v w : Suction} (running : s.suc.state = .running)
    (is_ : v = s.steered r) (count : v.countClog s.settings = (w, false)) : steerScan r s = { s with suc := w } := by
  rw [steerScan_running running, ← is_, count]
  exact if_neg Bool.false_ne_true

theorem steerScan_clogs {r : ScanRecord} {s : State} {v w : Suction} (running : s.suc.state = .running)
    (is_ : v = s.steered r) (count : v.countClog s.settings = (w, true)) :
    steerScan r s
      = if 3 ≤ w.episodes then faultSuction .clog (raiseHandle .clog { s with suc := w }) else raiseHandle .clog { s with suc := w } := by
  rw [steerScan_running running, ← is_, count]
  exact if_pos rfl

/-- Settles O44: the steering, then the clog detector by its state, then what the hand-offs and the controller leave of the two. -/
theorem scanSteersMotor : Obligations.ScanSteersMotor := by
  intro s ok grants steers start first k phase
  obtain ⟨t, r, n, next, table, -, e⟩ := scan_received k phase
  refine ⟨t, r, next, table, ?_⟩
  intro valid checked attached ramped power error holds acc locks unlocks clogs clears steered checks keeps
  obtain ⟨p, hp⟩ : ∃ p, p = s.atScan start n := ⟨_, rfl⟩
  obtain ⟨x, hx⟩ : ∃ x, x = receiveScan r p := ⟨_, rfl⟩
  rw [← hp, ← hx] at e
  have pok : PathOk p := hp ▸ ok
  have same : p.chg = s.chg ∧ p.suc = s.suc ∧ p.arb = s.arb ∧ p.settings = s.settings ∧ p.head = s.head ∧ p.bin = s.bin ∧ p.dirt = s.dirt :=
    hp ▸ ⟨rfl, rfl, rfl, rfl, rfl, rfl, rfl⟩
  obtain ⟨chg, suc, arb, settings, head, bin, dirt⟩ := same
  obtain ⟨msuc, marb, mset, mdirt, mbin⟩ := atMotor_kept r p
  obtain ⟨-, -, within_, -⟩ := grants
  obtain ⟨held, -, -, -, queue, -, enabled, -⟩ := id ok
  have drives := steered_drives steers
  have discharge := held.2 drives
  obtain ⟨c, work⟩ := suctionScan_steers (r := r) (s := p.atMotor r) (by rw [msuc, suc]; exact steers)
    (by rw [msuc, suc]; exact enabled.trans drives) (by rw [msuc, suc]; exact checks)
  rw [msuc, suc] at work
  obtain ⟨u, hu⟩ : ∃ u, u = ({ s.suc with lastTemp := if r.validity = .valid then some r.motorTemp else s.suc.lastTemp, overCount := c } : Suction) :=
    ⟨_, rfl⟩
  obtain ⟨z, hz⟩ : ∃ z, z = ({ p.atMotor r with suc := u } : State) := ⟨_, rfl⟩
  rw [← hu, ← hz] at work
  obtain ⟨v, hv⟩ : ∃ v, v = z.steered r := ⟨_, rfl⟩
  have zfields : z.settings = s.settings ∧ z.arb = s.arb ∧ z.suc = u ∧ z.dirt = s.dirt := by
    rw [hz]
    exact ⟨mset.trans settings, marb.trans arb, rfl, mdirt.trans dirt⟩
  obtain ⟨zset, zarb, zsuc, zdirt⟩ := zfields
  have accIs : u.accAfter s.settings s.arb.gs r = acc := by
    have target : u.target = s.suc.target := hu ▸ rfl
    have duty : u.duty = s.suc.duty := hu ▸ rfl
    have before : u.acc = s.suc.acc := hu ▸ rfl
    unfold Suction.accAfter
    by_cases yes : r.validity = .valid
    · rw [if_pos ((isValid_iff r).2 yes), target]
      obtain ⟨-, stands, moves⟩ := trimUpdate_eq s.settings.ki r { u with target := rampTarget s.settings.rampUp s.arb.gs s.suc.target } error rfl
      have same : ({ u with target := rampTarget s.settings.rampUp s.arb.gs s.suc.target } : Suction).holds error ↔ holds := by
        unfold Suction.holds
        dsimp only
        rw [duty]
      by_cases holding : holds
      · rw [stands (same.2 holding)]
        exact before.trans (if_neg fun h => h.2 holding).symm
      · rw [moves fun h => holding (same.1 h), before]
        exact (if_pos ⟨yes, holding⟩).symm
    · rw [if_neg fun h => yes ((isValid_iff r).1 h), before]
      exact (if_neg fun h => yes h.1).symm
  have veq : v = { s.suc with
      lastTemp := if r.validity = .valid then some r.motorTemp else s.suc.lastTemp, overCount := c, target := ramped
      trim := if valid then some ⟨power, error⟩ else s.suc.trim, acc := acc
      duty := dutyFor s.suc.state s.settings.pfull ramped acc } := by
    rw [hv]
    unfold State.steered
    rw [zset, zarb, zsuc, steer_eq, accIs, hu]
    dsimp only
    rw [if_congr (isValid_iff r) rfl rfl]
    rfl
  have rampedLe : ramped ≤ s.arb.gs := rampTarget_le within_
  have tsuc : t.suc = x.suc := by rw [e]
  have steeredIs (same : t.suc.overCount = c) : steered = { v with target := t.suc.target, duty := t.suc.duty, lock := t.suc.lock } := by
    rw [veq, ← same]
  have rest (v' : Suction) (notes : BitVec 15) (cl : Bool) (lo un ep : Nat)
      (w : suctionScan r (p.atMotor r) = { p.atMotor r with suc := v', ports := { (p.atMotor r).ports with handleNotes := notes } })
      (fr : v' = { v with clogged := cl, lockCount := lo, unlockCount := un, episodes := ep }) :
      (t.suc = { steered with clogged := cl, lockCount := lo, unlockCount := un, episodes := ep })
        ∧ (t.suc.target ≤ ramped ∧ t.suc.target ≤ t.arb.gs ∧ (t.head.wand = s.head.wand → t.suc.target = min ramped t.arb.gs)
          ∧ t.suc.duty = (max 0 (min 1000 (((t.suc.target * 1000 / s.settings.pfull : Nat) : Int) + Int.tdiv acc 64))).toNat)
        ∧ (∀ m, (suctionScan r (p.atMotor r)).noted m → t.noted m)
        ∧ (cl ≠ s.suc.clogged → t.arb.ds = t.demandS ∧ t.arb.gs = min t.demandS (t.alw.pallow - t.arb.gh))
        ∧ t.arb.path = .discharge ∧ t.men = true ∧ t.bin = s.bin ∧ t.dirt = s.dirt := by
    have alike : s.suc.OnlySteered v' := by
      rw [fr, veq]
      exact ⟨rfl, rfl, rfl, rfl, rfl⟩
    have attachedX : s.suc.pressed = true ∨ ¬(s.chg.state = .absent ∧ x.chg.state = .qualify) := by
      have tchg : t.chg = x.chg := by rw [e]
      rw [← tchg]
      exact keeps
    obtain ⟨⟨suc', low, given, exact_, duty⟩, stands, fresh, path', men', bin', dirt'⟩ :=
      receiveScan_drivesOn (r := r) (s := p) (v := v') pok (by rw [suc]; exact drives) w (by rw [suc]; exact alike)
        (by rw [fr, veq, arb]; exact rampedLe) (by rw [fr, veq, settings]) (by rw [suc, chg, ← hx]; exact attachedX)
    rw [← hx] at suc' low given exact_ duty stands fresh path' men' bin' dirt'
    rw [suc] at fresh
    rw [head] at exact_
    have over_ : t.suc.overCount = c := by
      rw [tsuc, suc', fr, veq]
    refine ⟨?_, ⟨?_, ?_, ?_, ?_⟩, ?_, fun moved => ?_, ?_, ?_, ?_, ?_⟩
    · rw [steeredIs over_, tsuc, ← tsuc]
      refine (tsuc.trans suc').trans ?_
      rw [fr, ← tsuc]
    · rw [tsuc]
      refine low.trans ?_
      rw [fr, veq]
    · rw [e]
      exact given
    · rw [e]
      intro same
      refine (exact_ same).trans ?_
      rw [fr, veq]
    · rw [tsuc, duty, fr, veq, settings]
      exact dutyFor_steered steers _ _ _
    · intro m noted
      rw [e]
      exact stands.1 _ noted
    · rw [e]
      refine fresh ?_
      rw [fr]
      exact moved
    · rw [e]
      exact path'
    · rw [e]
      exact men'
    · rw [e]
      exact bin'.trans bin
    · rw [e]
      exact dirt'.trans dirt
  have kept : v.clogged = s.suc.clogged ∧ v.lockCount = s.suc.lockCount ∧ v.unlockCount = s.suc.unlockCount ∧ v.episodes = s.suc.episodes := by
    rw [veq]
    exact ⟨rfl, rfl, rfl, rfl⟩
  obtain ⟨wasClogged, wasLocks, wasUnlocks, wasEpisodes⟩ := kept
  have locksAre : v.locks z.settings = locks := by
    rw [zset, veq]
    rfl
  have unlocksAre : v.unlocks z.settings = unlocks := by
    rw [zset, veq]
    rfl
  have goesOn (w : Suction) (noNew : w = { v with clogged := w.clogged, lockCount := w.lockCount, unlockCount := w.unlockCount, episodes := w.episodes })
      (done : steerScan r z = { z with suc := w }) :=
    rest w z.ports.handleNotes w.clogged w.lockCount w.unlockCount w.episodes (by rw [work, done, hz]) noNew
  by_cases running : s.suc.state = .running
  · have run : z.suc.state = .running := by rw [zsuc, hu]; exact running
    by_cases clogged : s.suc.clogged = true
    · have noClog : ¬clogs := fun h => by rw [h.2.1] at clogged; cases clogged
      have count := countClog_clogged (t := z.settings) (wasClogged.trans clogged)
      rw [unlocksAre] at count
      refine ⟨fun h => absurd h noClog, fun _ => ?_⟩
      by_cases free : s.settings.clogUnlock ≤ unlocks
      · rw [if_pos (by rw [zset]; exact free)] at count
        obtain ⟨suc', ⟨low, given, exact_, duty⟩, -, fresh, tail⟩ := goesOn _ rfl (steerScan_counts run hv count)
        refine ⟨?_, low, given, exact_, duty, fun h => absurd h noClog, fun _ => fresh (by rw [clogged]; nofun), tail⟩
        rw [if_neg noClog, if_pos ⟨running, clogged, free⟩, suc', wasEpisodes]
      · rw [if_neg (by rw [zset]; exact free)] at count
        obtain ⟨suc', ⟨low, given, exact_, duty⟩, -, -, tail⟩ := goesOn _ rfl (steerScan_counts run hv count)
        have noClear : ¬clears := fun h => free h.2.2
        refine ⟨?_, low, given, exact_, duty, fun h => absurd h noClog, fun h => absurd h (not_or.2 ⟨noClog, noClear⟩), tail⟩
        rw [if_neg noClog, if_neg noClear, if_neg (by rw [running]; nofun), if_pos clogged, suc', wasClogged, wasLocks, wasEpisodes]
    · have clear := Bool.eq_false_iff.2 clogged
      have noClear : ¬clears := fun h => clogged h.2.1
      have count := countClog_clear (t := z.settings) (wasClogged.trans clear)
      rw [locksAre, wasEpisodes] at count
      by_cases full : s.settings.clogLock ≤ locks
      · have clogging : clogs := ⟨running, clear, full⟩
        rw [if_pos (by rw [zset]; exact full)] at count
        have raised := steerScan_clogs run hv count
        refine ⟨fun _ third => ?_, fun fewer => ?_⟩
        · rw [if_pos (show 3 ≤ min 3 (s.suc.episodes + 1) by omega)] at raised
          obtain ⟨fsuc, men, leaves, gs, stands, noted, left⟩ := receiveScan_faults (s := p) (by rw [arb]; exact discharge)
            (by rw [arb]; exact fun h => absurd (discharge.symm.trans (queue h)) nofun)
            (by rw [suc]; exact fun fault => by rw [fault] at drives; cases drives) (work.trans raised)
          rw [← hx] at fsuc men leaves gs stands noted left
          have three : min 3 (s.suc.episodes + 1) = 3 := by omega
          have over_ : t.suc.overCount = c := by rw [tsuc, fsuc, veq]; rfl
          have closed : x.dirt = z.dirt.leave := left.trans (if_pos (by rw [veq]; exact running))
          refine ⟨?_, by rw [e]; exact men, by rw [e]; exact leaves, by rw [e]; exact gs, ?_, by rw [e]; exact noted, ?_⟩
          · rw [steeredIs over_, tsuc, fsuc, three]
            rfl
          · rw [e]
            exact stands.1 _ (noted_raise _ _)
          · rw [e]
            change x.dirt.window = none ∧ x.dirt.eff = 0
            rw [closed]
            exact ⟨rfl, rfl⟩
        · have few : ¬2 ≤ s.suc.episodes := fun h => fewer ⟨clogging, h⟩
          rw [if_neg (show ¬3 ≤ min 3 (s.suc.episodes + 1) by omega)] at raised
          have next_ : min 3 (s.suc.episodes + 1) = s.suc.episodes + 1 := by omega
          rw [next_] at raised
          have done := work.trans raised
          obtain ⟨suc', ⟨low, given, exact_, duty⟩, stands, fresh, tail⟩ :=
            rest _ _ true 0 0 (s.suc.episodes + 1) (by rw [done, hz]; rfl) rfl
          refine ⟨?_, low, given, exact_, duty, fun _ => stands _ ?_, fun _ => fresh (by rw [clear]; nofun), tail⟩
          · rw [if_pos clogging, suc']
          · rw [done]
            exact noted_raise _ _
      · have noClog : ¬clogs := fun h => full h.2.2
        rw [if_neg (by rw [zset]; exact full)] at count
        obtain ⟨suc', ⟨low, given, exact_, duty⟩, -, -, tail⟩ := goesOn _ rfl (steerScan_counts run hv count)
        refine ⟨fun h => absurd h noClog, fun _ =>
          ⟨?_, low, given, exact_, duty, fun h => absurd h noClog, fun h => absurd h (not_or.2 ⟨noClog, noClear⟩), tail⟩⟩
        rw [if_neg noClog, if_neg noClear, if_neg (by rw [running]; nofun), if_neg clogged, suc', wasClogged, wasUnlocks]
  · have noClog : ¬clogs := fun h => running h.1
    have noClear : ¬clears := fun h => running h.1
    have step := steerScan_starting (r := r) (s := z) (by rw [zsuc, hu]; exact running)
    rw [← hv] at step
    obtain ⟨suc', ⟨low, given, exact_, duty⟩, -, -, tail⟩ := goesOn v rfl step
    have starting : s.suc.state = .starting := by
      cases st : s.suc.state with
      | starting => rfl
      | running => exact absurd st running
      | stopped | waitPath | stopping | fault => rw [st] at steers; cases steers
    refine ⟨fun h => absurd h noClog, fun _ =>
      ⟨?_, low, given, exact_, duty, fun h => absurd h noClog, fun h => absurd h (not_or.2 ⟨noClog, noClear⟩), tail⟩⟩
    rw [if_neg noClog, if_neg noClear, if_pos starting, suc', wasClogged, wasLocks, wasUnlocks, wasEpisodes]

end Sys2Proof.Machine
end

section
/-! PROOFS. The charge controller's changes of state in a row, as one change with its order advanced (08 R145). -/

namespace Sys2Proof.Machine

/-! ## An order that advances (08 R145) -/

/-- The controller with `n` changes of its order current made, the last to `current`. -/
def Charger.advanced (n current now : Nat) (c : Charger) : Charger :=
  { c with
    orderCur := current, orderNum := (c.orderNum + n) % 256
    unreadSince := if n = 0 then c.unreadSince else some (c.unreadSince.getD now) }

/-- One change of the order current, or none. -/
def advance (old new : Nat) : Nat := if new = old then 0 else 1

theorem advance_self (c : Nat) : advance c c = 0 := if_pos rfl

theorem ordered_advanced {c : Charger} (current now : Nat) (num : c.orderNum ≤ 255) :
    c.ordered current now = c.advanced (advance c.orderCur current) current now := by
  unfold Charger.ordered Charger.advanced advance
  by_cases same : current = c.orderCur
  · rw [if_pos same, if_pos same, if_pos same, if_pos rfl, Nat.add_zero, Nat.mod_eq_of_lt (Nat.lt_succ_of_le num)]
  · rw [if_neg same, if_neg same, if_neg same, if_neg (by decide)]

theorem advanced_none {c : Charger} (now : Nat) (num : c.orderNum ≤ 255) : c.advanced 0 c.orderCur now = c := by
  unfold Charger.advanced
  rw [if_pos rfl, Nat.add_zero, Nat.mod_eq_of_lt (Nat.lt_succ_of_le num)]

theorem advanced_number (n current now : Nat) (c : Charger) : (c.advanced n current now).orderNum ≤ 255 :=
  Nat.le_of_lt_succ (Nat.mod_lt _ (by decide))

theorem advanced_advanced (n m current current' now : Nat) (c : Charger) :
    (c.advanced n current now).advanced m current' now = c.advanced (n + m) current' now := by
  unfold Charger.advanced
  dsimp only
  rw [Nat.mod_add_mod, Nat.add_assoc]
  by_cases none_ : n = 0
  · rw [none_, if_pos rfl, Nat.zero_add]
  · rw [if_neg none_, if_neg (show ¬n + m = 0 by omega)]
    split <;> rfl

/-! ## What a row of changes leaves -/

/-- `t` is `s` with the controller `c`, `n` changes of its order made, the last to `current`, and what these raise. -/
def Landed (c : Charger) (n current : Nat) (s t : State) : Prop :=
  t.chg = c.advanced n current s.now ∧ Standing s t ∧ (s.chg.state ≠ c.state → t.noted .chargeState)
    ∧ (n ≠ 0 → t.dockNoted .orderChanged) ∧ t.now = s.now ∧ t.settings = s.settings ∧ t.smp = s.smp

/-- A change that leaves the controller alone. -/
structure Passed (s t : State) : Prop where
  chg : t.chg = s.chg
  stands : Standing s t
  now : t.now = s.now
  settings : t.settings = s.settings
  smp : t.smp = s.smp

theorem Passed.refl (s : State) : Passed s s := ⟨rfl, Standing.refl s, rfl, rfl, rfl⟩

theorem Passed.arb (s : State) (a : Arbiter) : Passed s { s with arb := a } := ⟨rfl, Standing.of_eq rfl rfl, rfl, rfl, rfl⟩

theorem ByExchange.passed {k : Prop} {s t : State} (h : ByExchange k s t) (chg : t.chg = s.chg) : Passed s t := by
  obtain ⟨stands, -, _, _, _, _, _, _, _, _, _, _, _, _, _, -, -, e⟩ := h
  refine ⟨chg, stands, ?_, ?_, ?_⟩ <;> rw [e]

theorem releaseCharge_passed (s : State) : Passed s (releaseCharge s) := (releaseCharge_byExchange s).passed (releaseCharge_chg s)

theorem pathTaken_passed (s : State) : Passed s s.pathTaken := by
  obtain ⟨stands, -⟩ := pathTaken_byControl s
  refine ⟨?_, stands, ?_, ?_, ?_⟩ <;> rw [pathTaken_eq]

theorem Landed.trans {c e g : Charger} {n m cur cur' : Nat} {s t u : State} (h : Landed c n cur s t) (k : Landed e m cur' t u)
    (is_ : e = g.advanced n cur s.now) : Landed g (n + m) cur' s u := by
  obtain ⟨chg, stands, state, order, now, settings, smp⟩ := h
  obtain ⟨chg', stands', state', order', now', settings', smp'⟩ := k
  refine ⟨?_, stands.trans stands', fun moved => ?_, fun some_ => ?_, now'.trans now, settings'.trans settings, smp'.trans smp⟩
  · rw [chg', is_, now, advanced_advanced]
  · by_cases first : s.chg.state = c.state
    · refine state' ?_
      rw [chg, is_]
      exact fun same => moved (first.trans same)
    · exact stands'.1 _ (state first)
  · by_cases none_ : n = 0
    · exact order' (by omega)
    · exact stands'.2 _ (order none_)

theorem Landed.passes {c : Charger} {n cur : Nat} {s t u : State} (h : Landed c n cur s t) (k : Passed t u) : Landed c n cur s u := by
  obtain ⟨chg, stands, state, order, now, settings, smp⟩ := h
  exact ⟨k.chg.trans chg, stands.trans k.stands, fun moved => k.stands.1 _ (state moved), fun some_ => k.stands.2 _ (order some_),
    k.now.trans now, k.settings.trans settings, k.smp.trans smp⟩

/-- Fields of the controller that its order has no part in. -/
theorem Landed.chg {c e : Charger} {n cur : Nat} {s t : State} (h : Landed c n cur s t) (same : e.state = c.state) :
    Landed e n cur s { t with chg := e.advanced n cur s.now } := by
  obtain ⟨-, stands, state, order, now, settings, smp⟩ := h
  refine ⟨rfl, ⟨stands.1, stands.2⟩, fun moved => ?_, order, now, settings, smp⟩
  rw [same] at moved
  exact state moved

theorem landed_refl {s : State} (num : s.chg.orderNum ≤ 255) : Landed s.chg 0 s.chg.orderCur s s :=
  ⟨(advanced_none s.now num).symm, Standing.refl s, fun moved => absurd rfl moved, fun some_ => absurd rfl some_, rfl, rfl, rfl⟩

/-- A change of its own that puts the order once. -/
theorem landed_of {a : Account} {c : Charger} {current : Nat} {s t : State} (frame : ChargedTo a (c.ordered current s.now) s t)
    (stands : Standing s t) (state : s.chg.state ≠ c.state → t.noted .chargeState)
    (order : current ≠ c.orderCur → t.dockNoted .orderChanged) (num : c.orderNum ≤ 255) :
    Landed c (advance c.orderCur current) current s t := by
  obtain ⟨_, _, e⟩ := frame
  refine ⟨?_, stands, state, fun some_ => order fun same => some_ (if_pos same), ?_, ?_, ?_⟩
  · rw [← ordered_advanced current s.now num, e]
  all_goals rw [e]

theorem Moved.landed {c : Charger} {current : Nat} {s t : State} (h : Moved c current s t) (num : c.orderNum ≤ 255) :
    Landed c (advance c.orderCur current) current s t := landed_of h.1 h.2.1 h.2.2.1 h.2.2.2 num

/-! ## Rows of the controller's own changes, which leave the arbiter alone but for a release of the path -/

/-- A row of own changes: the arbiter stands where the controller does not hold the path. -/
def Owned (c : Charger) (n current : Nat) (s t : State) : Prop := Landed c n current s t ∧ (s.arb.path ≠ .charge → t.arb = s.arb)

/-- A row of own changes without a release. -/
def Turned (c : Charger) (n current : Nat) (s t : State) : Prop := Landed c n current s t ∧ t.arb = s.arb

theorem Turned.owned {c : Charger} {n cur : Nat} {s t : State} (h : Turned c n cur s t) : Owned c n cur s t := ⟨h.1, fun _ => h.2⟩

theorem Turned.released {c : Charger} {n cur : Nat} {s t : State} (h : Turned c n cur s t) : Owned c n cur s (releaseCharge t) := by
  refine ⟨h.1.passes (releaseCharge_passed t), fun off => ?_⟩
  rcases releaseCharge_cases t with ⟨-, e⟩ | ⟨no, -⟩ | ⟨no, -⟩ | ⟨no, -⟩
  · rw [e]
    exact h.2
  all_goals
    rw [h.2] at no
    exact absurd no off

theorem turned_refl {s : State} (num : s.chg.orderNum ≤ 255) : Turned s.chg 0 s.chg.orderCur s s := ⟨landed_refl num, rfl⟩

theorem Turned.chg {c e : Charger} {n cur : Nat} {s t : State} (h : Turned c n cur s t) (same : e.state = c.state) :
    Turned e n cur s { t with chg := e.advanced n cur s.now } := ⟨h.1.chg same, h.2⟩

theorem Turned.trans {c e g : Charger} {n m cur cur' : Nat} {s t u : State} (h : Turned c n cur s t) (k : Turned e m cur' t u)
    (is_ : e = g.advanced n cur s.now) : Turned g (n + m) cur' s u := ⟨h.1.trans k.1 is_, k.2.trans h.2⟩

/-- One more change after a row, which puts the order once. -/
theorem Turned.then {a : Account} {c g : Charger} {n cur current : Nat} {s t u : State} (h : Turned c n cur s t)
    (frame : ChargedTo a ((g.advanced n cur s.now).ordered current t.now) t u) (stands : Standing t u)
    (state : t.chg.state ≠ g.state → u.noted .chargeState) (order : current ≠ cur → u.dockNoted .orderChanged) :
    Turned g (n + advance cur current) current s u := by
  refine h.trans ⟨landed_of (c := g.advanced n cur s.now) frame stands state order (advanced_number _ _ _ _), ?_⟩ rfl
  obtain ⟨_, _, e⟩ := frame
  rw [e]

theorem Turned.moves {c g : Charger} {n cur current : Nat} {s t u : State} (h : Turned c n cur s t)
    (k : Moved (g.advanced n cur s.now) current t u) : Turned g (n + advance cur current) current s u :=
  h.then k.1 k.2.1 k.2.2.1 k.2.2.2

/-- One more change after a row, to a state that forms its own order current. -/
theorem Turned.charged {c : Charger} {n cur current : Nat} {s t : State} (h : Turned c n cur s t) (g : Charger) (a : Account)
    (ceil : g.orderCeil = s.settings.chgVcell) (forms : State.formedCurrent { t with chg := g.advanced n cur s.now } = current) :
    Turned g (n + advance cur current) current s (t.charged (g.advanced n cur s.now) a) := by
  obtain ⟨-, -, -, -, -, settings, -⟩ := id h.1
  obtain ⟨frame, stands, state, order⟩ := charged_spec a (c := g.advanced n cur s.now) (ceil.trans (by rw [settings])) forms
  exact h.then frame stands state order

theorem Turned.put {c : Charger} {n cur : Nat} {s t : State} (h : Turned c n cur s t) (current : Nat)
    (ceil : c.orderCeil = s.settings.chgVcell) :
    Turned c (n + advance cur current) current s (putOrder current s.settings.chgVcell t) := by
  have chg := h.1.1
  obtain ⟨frame, order⟩ := putOrder_spec (ceil := s.settings.chgVcell) current (s := t) (by rw [chg]; exact ceil)
  rw [chg] at frame order
  exact h.then frame (putOrder_standing _ _ _) (fun moved => absurd (by rw [chg]; rfl) moved) order

/-! ## The scan's own parts -/

theorem storeLatest_turned {r : ScanRecord} {s : State} (ceil : s.chg.orderCeil = s.settings.chgVcell) (num : s.chg.orderNum ≤ 255)
    (stands : s.formedCurrent = s.chg.orderCur) :
    Turned (s.chg.stored r) (advance s.chg.orderCur (State.formedCurrent { s with chg := s.chg.stored r }))
      (State.formedCurrent { s with chg := s.chg.stored r }) s (storeLatest r s) := by
  have first : Turned (s.chg.stored r) 0 s.chg.orderCur s { s with chg := s.chg.stored r } := by
    have row := (turned_refl num).chg (e := s.chg.stored r) rfl
    rwa [show (s.chg.stored r).advanced 0 s.chg.orderCur s.now = s.chg.stored r from advanced_none (c := s.chg.stored r) s.now num] at row
  rw [storeLatest_eq]
  by_cases same : coldAfter r.tmin s.chg.cold = s.chg.cold
  · have formed : State.formedCurrent { s with chg := s.chg.stored r } = s.chg.orderCur := by
      rw [← stands]
      unfold Charger.stored
      rw [same]
      rfl
    rw [if_pos same, formed, advance_self]
    exact first
  · rw [if_neg same]
    have row := first.put (State.formedCurrent { s with chg := s.chg.stored r }) ceil
    rwa [Nat.zero_add] at row

/-- The bleeds a scan leaves the controller with. -/
def Charger.bled (settings : Settings) (r : ScanRecord) (c : Charger) : Charger :=
  { c with bleeds := if c.state = .topoff ∨ c.state = .balance then selectBleeds settings.balDelta r.cells else c.bleeds }

theorem bleedScan_landed {r : ScanRecord} {c : Charger} {n cur : Nat} {s t : State} (h : Landed c n cur s t) :
    Landed (c.bled s.settings r) n cur s (bleedScan r t) ∧ (bleedScan r t).arb = t.arb := by
  have row := h.chg (e := c.bled s.settings r) rfl
  obtain ⟨chg, -, -, -, -, settings, -⟩ := h
  have state : t.chg.state = c.state := by rw [chg]; rfl
  have bal : t.settings.balDelta = s.settings.balDelta := by rw [settings]
  rw [bleedScan_eq, state, bal]
  unfold Charger.bled at row ⊢
  by_cases bleeds : c.state = .topoff ∨ c.state = .balance
  · rw [if_pos bleeds] at row ⊢
    rw [if_pos bleeds]
    have put : ({ t.chg with bleeds := selectBleeds s.settings.balDelta r.cells } : Charger)
        = Charger.advanced n cur s.now { c with bleeds := selectBleeds s.settings.balDelta r.cells } := by
      rw [chg]
      rfl
    rw [put]
    exact ⟨row, rfl⟩
  · rw [if_neg bleeds] at row ⊢
    rw [if_neg bleeds]
    rw [show ({ t with chg := Charger.advanced n cur s.now { c with bleeds := c.bleeds } } : State) = t by rw [← chg]] at row
    exact ⟨row, rfl⟩

theorem Owned.bled {r : ScanRecord} {c : Charger} {n cur : Nat} {s t : State} (h : Owned c n cur s t) :
    Owned (c.bled s.settings r) n cur s (bleedScan r t) := by
  obtain ⟨row, arb⟩ := bleedScan_landed (r := r) h.1
  exact ⟨row, fun off => arb.trans (h.2 off)⟩

end Sys2Proof.Machine
end

section
/-! PROOFS. What a scan leaves of the controller once the path is settled: a row of own changes, or entry selection (08 R141, R144). -/

namespace Sys2Proof.Machine

/-! ## The release of the motor's path after the controller's work (01 R19) -/

/-- The state after the controller's work `y`, or after the release of the path that a motor's fault of the same scan adds. -/
def Scanned (s y x : State) : Prop := x = y ∨ s.arb.path = .discharge ∧ x = releaseSuction y

theorem Owned.scanned {c : Charger} {n cur : Nat} {s y x : State} (h : Owned c n cur s y) (other : s.arb.waiting ≠ some .charger)
    (after : Scanned s y x) : Landed c n cur s x := by
  obtain ⟨row, keeps⟩ := h
  rcases after with rfl | ⟨discharge, rfl⟩
  · exact row
  · have arb := keeps (by rw [discharge]; nofun)
    refine row.passes ?_
    rcases releaseSuction_cases y with ⟨-, e⟩ | ⟨-, -, e⟩ | ⟨-, -, e⟩ | ⟨-, wait, -⟩
    · rw [e]
      exact Passed.refl y
    · rw [e]
      exact Passed.arb y _
    · rw [e]
      exact Passed.arb y _
    · rw [arb] at wait
      exact absurd wait other

/-! ## Entry selection after a row of changes (08 R144) -/

/-- The outcomes of entry selection by the controller `g`, after `n` changes of its order, the last to `cur`. -/
def Entered (g : Charger) (n cur : Nat) (s x : State) : Prop :=
  (g.latest = none → Landed (g.paused .scan) (n + advance cur 0) 0 s x)
    ∧ ∀ v, g.latest = some v →
      if 3 ≤ s.smp.invalidCount then Landed (g.paused .scan) (n + advance cur 0) 0 s x
      else if v.thermFault = true then Landed (g.paused .therm) (n + advance cur 0) 0 s x
      else if outsideWindow s.settings v.tmin v.tmax = true then Landed (g.paused .temp) (n + advance cur 0) 0 s x
      else if v.vmin < 3000 then Landed (g.precharged s.now) (n + advance cur 150) 150 s x
      else Landed g.bulked (n + advance cur (State.bulkCurrent { s with chg := g })) (State.bulkCurrent { s with chg := g }) s x

theorem Landed.moves {c g : Charger} {n cur current : Nat} {s t u : State} (h : Landed c n cur s t)
    (k : Moved (g.advanced n cur s.now) current t u) : Landed g (n + advance cur current) current s u :=
  h.trans (k.landed (advanced_number _ _ _ _)) rfl

theorem Landed.entered {g : Charger} {n cur : Nat} {s u x : State} (h : Landed g n cur s u) (selected : Selected u x) :
    Entered g n cur s x := by
  obtain ⟨chg, -, -, -, now, settings, smp⟩ := id h
  obtain ⟨pauses, begins⟩ := selected
  have latest : u.chg.latest = g.latest := by rw [chg]; rfl
  have count : u.smp.invalidCount = s.smp.invalidCount := by rw [smp]
  have pause (reason : PauseReason) (why : u.entryPause = some reason) : Landed (g.paused reason) (n + advance cur 0) 0 s x := by
    obtain ⟨v, moved, e⟩ := pauses reason why
    rw [chg] at moved
    rw [e]
    exact (h.moves (g := g.paused reason) moved).passes (Passed.arb v _)
  refine ⟨fun none_ => pause _ (entryPause_unheard (Or.inl (latest.trans none_))), fun v some_ => ?_⟩
  split
  · rename_i third
    exact pause _ (entryPause_unheard (Or.inr (by rw [count]; exact third)))
  rename_i heard
  have why := entryPause_heard (latest.trans some_) (by rw [count]; omega)
  split
  · rename_i therm
    exact pause _ (why.trans (if_pos therm))
  rename_i sound
  rw [if_neg sound, settings] at why
  split
  · rename_i out
    exact pause _ (why.trans (if_pos out))
  rename_i inside
  obtain ⟨low, high⟩ := begins (why.trans (if_neg inside)) v (latest.trans some_)
  split
  · rename_i empty
    have moved := low empty
    rw [chg, now] at moved
    exact h.moves (g := g.precharged s.now) moved
  · rename_i enough
    have moved := high (by omega)
    have bulk : u.bulkCurrent = State.bulkCurrent { s with chg := g } := by
      unfold State.bulkCurrent
      rw [chg, settings]
      rfl
    rw [chg, bulk] at moved
    exact h.moves (g := g.bulked) moved

theorem Selected.leavesMotor {s t : State} (h : Selected s t) (path : s.arb.path = .charge) : t.arb.path ≠ .discharge := by
  obtain ⟨_, _, _, _, -, e, ⟨-, idle⟩ | ⟨-, same⟩, -⟩ := h.cases
  · rw [e]
    exact fun no => by cases idle.symm.trans no
  · rw [e]
    exact fun no => by cases (same.trans path).symm.trans no

/-- A request for the path, as the scan leaves it: it waits behind the motor, or entry selection has followed. -/
def Requested (g : Charger) (n : Nat) (s x : State) : Prop :=
  (x.chg.state = .waitIdle ∧ Landed { g with state := .waitIdle } n 0 s x) ∨ (x.arb.path ≠ .discharge ∧ Entered g n 0 s x)

/-- Behind a motor that holds the path, or hands it on with its own fault. -/
theorem Landed.waits {g : Charger} {n : Nat} {s y x : State} (h : Landed { g with state := .waitIdle } n 0 s y)
    (path : y.arb.path = .discharge) (wait : y.arb.waiting = some .charger) (ceil : g.orderCeil = s.settings.chgVcell)
    (after : Scanned s y x) : Requested g n s x := by
  obtain ⟨chg, -, -, -, -, settings, -⟩ := id h
  have state : y.chg.state = .waitIdle := by rw [chg]; rfl
  rcases after with rfl | ⟨-, rfl⟩
  · exact Or.inl ⟨state, h⟩
  · have taken : releaseSuction y = entrySelection { y with arb := { y.arb with path := .charge, waiting := none } } := by
      rcases releaseSuction_cases y with ⟨no, -⟩ | ⟨-, no, -⟩ | ⟨-, no, -⟩ | ⟨-, -, e⟩
      · exact absurd path no
      · cases wait.symm.trans no
      · cases wait.symm.trans no
      · rw [e]
        exact if_neg (by rw [state]; nofun)
    have selected := entrySelection_selected (s := { y with arb := { y.arb with path := .charge, waiting := none } }) rfl rfl
      (by rw [settings]; change y.chg.orderCeil = _; rw [chg]; exact ceil)
    rw [taken]
    exact Or.inr ⟨selected.leavesMotor rfl, (h.passes (Passed.arb y _)).entered selected⟩

theorem bled_of {settings : Settings} {r : ScanRecord} {c : Charger} (h : ¬(c.state = .topoff ∨ c.state = .balance)) :
    c.bled settings r = c := by
  unfold Charger.bled
  rw [if_neg h]

theorem bleedScan_rests {r : ScanRecord} {s : State} (h : ¬(s.chg.state = .topoff ∨ s.chg.state = .balance)) : bleedScan r s = s := by
  rw [bleedScan_eq, if_neg h]

/-- A request for the path by a controller whose order stands at 0 (08 R141). -/
theorem Turned.requests {r : ScanRecord} {g : Charger} {n : Nat} {s u x : State} (h : Turned g n 0 s u)
    (ceil : g.orderCeil = s.settings.chgVcell) (away : s.arb.path ≠ .charge)
    (after : Scanned s (bleedScan r (requestCharge u)) x) : Requested g n s x := by
  obtain ⟨row, arb⟩ := h
  obtain ⟨chg, -, -, -, now, settings, -⟩ := id row
  have ceilU : u.chg.orderCeil = u.settings.chgVcell := by
    rw [settings, chg]
    exact ceil
  by_cases idle : s.arb.path = .idle
  · have selected := requestCharge_selected (s := u) (by rw [arb]; exact idle) ceilU
    have taken : u.pathTaken.arb.path = .charge := by rw [pathTaken_eq]
    have state : ¬((requestCharge u).chg.state = .topoff ∨ (requestCharge u).chg.state = .balance) := by
      obtain ⟨_, _, v, _, moved, e, ⟨what, -⟩ | ⟨what, -⟩, -⟩ := selected.cases
      all_goals
        rw [e]
        change ¬(v.chg.state = .topoff ∨ v.chg.state = .balance)
        rw [moved.frame.1]
        rintro (no | no)
      · cases what.symm.trans no
      · cases what.symm.trans no
      · rcases what with what | what <;> cases what.symm.trans no
      · rcases what with what | what <;> cases what.symm.trans no
    rw [bleedScan_rests state] at after
    have same : x = requestCharge u := by
      rcases after with e | ⟨no, -⟩
      · exact e
      · cases idle.symm.trans no
    rw [same]
    exact Or.inr ⟨selected.leavesMotor taken, (row.passes (pathTaken_passed u)).entered selected⟩
  · have discharge : s.arb.path = .discharge := by
      cases path : s.arb.path with
      | idle => exact absurd path idle
      | charge => exact absurd path away
      | discharge => rfl
    have moved := requestCharge_waits (s := u) (by rw [arb]; exact discharge) ceilU
    have placed := row.passes (Passed.arb u { u.arb with waiting := some .charger })
    have landed : Landed { g with state := .waitIdle } n 0 s (requestCharge u) := by
      rw [show ({ u.chg with state := .waitIdle } : Charger) = Charger.advanced n 0 s.now { g with state := .waitIdle } by
        rw [chg]; rfl] at moved
      have one := placed.moves (g := { g with state := .waitIdle }) moved
      rwa [advance_self, Nat.add_zero] at one
    have state : (requestCharge u).chg.state = .waitIdle := by
      rw [landed.1]
      rfl
    rw [bleedScan_rests (by rw [state]; rintro (no | no) <;> cases no)] at after
    refine landed.waits ?_ ?_ ceil after
    · rw [moved.frame.2.1, arb]
      exact discharge
    · rw [moved.frame.2.1]

end Sys2Proof.Machine
end

section
/-! PROOFS. The charge controller's work on a scan (08 R145 to R157): each step as a row of changes, and the whole. -/

namespace Sys2Proof.Machine

/-! ## Each entry after a row of changes -/

section rows
variable {c : Charger} {n cur : Nat} {s u : State}

theorem Landed.ceil (h : Landed c n cur s u) (ceil : c.orderCeil = s.settings.chgVcell) : u.chg.orderCeil = u.settings.chgVcell := by
  obtain ⟨chg, -, -, -, -, settings, -⟩ := h
  rw [settings, chg]
  exact ceil

theorem Turned.paused (h : Turned c n cur s u) (ceil : c.orderCeil = s.settings.chgVcell) (reason : PauseReason) :
    Owned (c.paused reason) (n + advance cur 0) 0 s (enterPaused reason u) := by
  have moved := pauseCharge_moved reason (h.1.ceil ceil)
  rw [show u.chg.paused reason = (c.paused reason).advanced n cur s.now by rw [h.1.1]; rfl] at moved
  exact (h.moves moved).released

theorem Turned.failed (h : Turned c n cur s u) (ceil : c.orderCeil = s.settings.chgVcell) (cause : ChargeCause) :
    Owned (c.failed cause) (n + advance cur 0) 0 s (enterChargeFault cause u)
      ∧ (enterChargeFault cause u).noted .chargeFault ∧ (enterChargeFault cause u).dockNoted .chargeFault := by
  obtain ⟨frame, stands, state, order, fault, dock⟩ := chargeFailed_spec cause (h.1.ceil ceil)
  have is_ : u.chg.failed cause = (c.failed cause).advanced n cur s.now := by rw [h.1.1]; rfl
  have states : u.chg.state = c.state := by rw [h.1.1]; rfl
  rw [is_] at frame
  obtain ⟨-, kept, -⟩ := releaseCharge_passed (u.chargeFailed cause)
  rw [enterChargeFault_eq]
  refine ⟨(h.then (g := c.failed cause) frame stands state fun moved => order ?_).released, kept.1 _ fault, kept.2 _ dock⟩
  rw [h.1.1]
  exact moved

theorem Turned.bulked (h : Turned c n cur s u) (ceil : c.orderCeil = s.settings.chgVcell) :
    Turned c.bulked (n + advance cur (State.bulkCurrent { s with chg := c })) (State.bulkCurrent { s with chg := c }) s (beginBulk u) := by
  obtain ⟨chg, -, -, -, -, settings, -⟩ := id h.1
  have moved := beginBulk_moved (h.1.ceil ceil)
  have bulk : u.bulkCurrent = State.bulkCurrent { s with chg := c } := by
    unfold State.bulkCurrent
    rw [chg, settings]
    rfl
  rw [bulk, show u.chg.bulked = c.bulked.advanced n cur s.now by rw [chg]; rfl] at moved
  exact h.moves moved

theorem Turned.topped (h : Turned c n cur s u) (ceil : c.orderCeil = s.settings.chgVcell) :
    Turned c.topped n cur s (enterTopoff u) := by
  have row := h.charged c.topped u.acct (current := cur) ceil rfl
  rwa [advance_self, Nat.add_zero, ← show u.chg.topped = c.topped.advanced n cur s.now by rw [h.1.1]; rfl, ← enterTopoff_eq] at row

theorem Turned.balanced (h : Turned c n cur s u) (ceil : c.orderCeil = s.settings.chgVcell) :
    Owned (c.balanced s.now) (n + advance cur 0) 0 s (enterBalance u) := by
  obtain ⟨chg, -, -, -, now, -⟩ := id h.1
  have row := h.charged (c.balanced s.now) u.acct (current := 0) ceil rfl
  rw [← show u.chg.balanced u.now = (c.balanced s.now).advanced n cur s.now by rw [chg, now]; rfl] at row
  rw [enterBalance_eq]
  exact row.released

theorem Turned.filled (h : Turned c n cur s u) (ceil : c.orderCeil = s.settings.chgVcell) :
    Owned c.filled (n + advance cur 0) 0 s (enterDone u) := by
  have row := h.charged c.filled (u.acct.fullMark u.settings.designCap) (current := 0) ceil rfl
  rw [← show u.chg.filled = c.filled.advanced n cur s.now by rw [h.1.1]; rfl] at row
  rw [enterDone_eq]
  exact row.released

end rows

/-! ## The steps of a valid scan (08 R157), one equation per step -/

section steps
variable {r : ScanRecord} {s : State}

theorem chargeSteps_over (charging : s.chg.state.charging = true) (high : s.settings.chgVcell + 50 < r.cells.vmax) :
    chargeSteps r s = enterChargeFault .cellOver s :=
  if_pos (by rw [charging, decide_eq_true high]; rfl)

theorem chargeSteps_therm (low : ¬(s.chg.state.charging = true ∧ s.settings.chgVcell + 50 < r.cells.vmax))
    (windowed : s.chg.state.windowed = true) (therm : r.thermFault = true) : chargeSteps r s = enterPaused .therm s := by
  refine (if_neg ?_).trans (if_pos (by rw [windowed, therm]; rfl))
  rwa [Bool.and_eq_true, decide_eq_true_iff]

theorem chargeSteps_temp (low : ¬(s.chg.state.charging = true ∧ s.settings.chgVcell + 50 < r.cells.vmax))
    (windowed : s.chg.state.windowed = true) (therm : r.thermFault = false) (out : outsideWindow s.settings r.tmin r.tmax = true) :
    chargeSteps r s = enterPaused .temp s := by
  refine (if_neg ?_).trans ((if_neg ?_).trans (if_pos (by rw [windowed, out]; rfl)))
  · rwa [Bool.and_eq_true, decide_eq_true_iff]
  · rw [therm, Bool.and_false]
    exact Bool.false_ne_true

/-- The state after the excess count of a valid scan in a charging state (08 R147). -/
def State.counted (r : ScanRecord) (s : State) : State :=
  { s with chg := { s.chg with excess := excessAfter s.chg.orderCur r.i s.chg.excess } }

theorem chargeSteps_counted (charging : s.chg.state.charging = true) (low : ¬s.settings.chgVcell + 50 < r.cells.vmax)
    (therm : r.thermFault = false) (inside : outsideWindow s.settings r.tmin r.tmax = false) :
    chargeSteps r s
      = if (s.counted r).excessCause = .none then chargeTransition r (s.counted r)
        else enterChargeFault (s.counted r).excessCause (s.counted r) := by
  refine (if_neg ?_).trans ((if_neg ?_).trans ((if_neg ?_).trans (if_pos charging)))
  · rw [Bool.and_eq_true, decide_eq_true_iff]
    exact fun h => low h.2
  · rw [therm, Bool.and_false]
    exact Bool.false_ne_true
  · rw [inside, Bool.and_false]
    exact Bool.false_ne_true

theorem chargeSteps_on (rests : ¬s.chg.state.charging = true)
    (sound : s.chg.state.windowed = true → r.thermFault = false ∧ outsideWindow s.settings r.tmin r.tmax = false) :
    chargeSteps r s = chargeTransition r s := by
  refine (if_neg ?_).trans ((if_neg ?_).trans ((if_neg ?_).trans (if_neg rests)))
  all_goals rw [Bool.and_eq_true]
  · exact fun h => rests h.1
  · exact fun h => absurd ((sound h.1).1.symm.trans h.2) nofun
  · exact fun h => absurd ((sound h.1).2.symm.trans h.2) nofun

theorem gracePassed_any (s : State) :
    s.gracePassed = s.chg.read.any fun o => o.number == s.chg.orderNum && decide (o.moment + 500000 ≤ s.now) := by
  unfold State.gracePassed
  cases s.chg.read <;> rfl

theorem orderIsRead_any (s : State) : s.orderIsRead = s.chg.read.any fun o => o.number == s.chg.orderNum := by
  unfold State.orderIsRead
  cases s.chg.read <;> rfl

/-- What a full excess count calls for (08 R147). -/
theorem excessCause_cases (most : s.chg.excess ≤ 50) :
    (s.chg.excess = 50 → s.gracePassed = true → s.excessCause = .overcurrent)
      ∧ (s.chg.excess = 50 → s.gracePassed = false → s.orderIsRead = false →
        (s.chg.unreadSince.any fun m => decide (m + 2000000 ≤ s.now)) = true → s.excessCause = .noOrderRead)
      ∧ (¬(s.chg.excess = 50 ∧ s.gracePassed = true) →
        ¬(s.chg.excess = 50 ∧ s.gracePassed = false ∧ s.orderIsRead = false
          ∧ (s.chg.unreadSince.any fun m => decide (m + 2000000 ≤ s.now)) = true) → s.excessCause = .none) := by
  unfold State.excessCause
  refine ⟨fun full grace => ?_, fun full grace fresh aged => ?_, fun grace aged => ?_⟩
  · rw [if_neg (by omega), if_pos grace]
  · rw [if_neg (by omega), if_neg (by rw [grace]; nofun), fresh]
    exact if_pos aged
  · by_cases full : s.chg.excess = 50
    · have no := fun h => grace ⟨full, h⟩
      rw [if_neg (by omega), if_neg no]
      refine if_neg fun h => aged ?_
      rw [Bool.and_eq_true, Bool.not_eq_true'] at h
      exact ⟨full, Bool.eq_false_iff.2 no, h⟩
    · exact if_pos (by omega)

theorem excessAfter_le (cur : Nat) (i : Int) (e : Nat) : excessAfter cur i e ≤ 50 := by
  unfold excessAfter countUp
  split <;> omega

end steps

/-! ## The transitions (08 R148 to R152, R154), after a row of changes -/

section transitions
variable {r : ScanRecord} {c : Charger} {n cur : Nat} {s u : State}

theorem Turned.state (h : Turned c n cur s u) : u.chg.state = c.state := by
  rw [h.1.1]
  rfl

theorem Turned.settings (h : Turned c n cur s u) : u.settings = s.settings := by
  obtain ⟨⟨-, -, -, -, -, settings, -⟩, -⟩ := h
  exact settings

theorem transition_precharge (h : Turned c n cur s u) (ceil : c.orderCeil = s.settings.chgVcell) (state : c.state = .precharge) :
    (3000 ≤ r.cells.vmin →
        Owned c.bulked (n + advance cur (State.bulkCurrent { s with chg := c })) (State.bulkCurrent { s with chg := c }) s
          (chargeTransition r u))
      ∧ (¬3000 ≤ r.cells.vmin → Owned c n cur s (chargeTransition r u)) := by
  unfold chargeTransition
  rw [h.state.trans state]
  refine ⟨fun enough => ?_, fun low => ?_⟩
  · rw [if_pos enough]
    exact (h.bulked ceil).owned
  · rw [if_neg low]
    exact h.owned

theorem transition_bulk (h : Turned c n cur s u) (ceil : c.orderCeil = s.settings.chgVcell) (state : c.state = .bulk) :
    (s.settings.chgVcell ≤ r.cells.vmax → Owned c.topped n cur s (chargeTransition r u))
      ∧ (¬s.settings.chgVcell ≤ r.cells.vmax → Owned c n cur s (chargeTransition r u)) := by
  unfold chargeTransition
  rw [h.state.trans state, h.settings]
  refine ⟨fun full => ?_, fun low => ?_⟩
  · rw [if_pos full]
    exact (h.topped ceil).owned
  · rw [if_neg low]
    exact h.owned

/-- The order current of TOPOFF after a valid scan's CELL_OVER check (08 R150). -/
def lowered (t : Settings) (r : ScanRecord) (cur : Nat) : Nat := if t.chgVcell ≤ r.cells.vmax then cur - 20 else cur

theorem transition_topoff (h : Turned c n cur s u) (ceil : c.orderCeil = s.settings.chgVcell) (state : c.state = .topoff) {low m : Nat}
    (is_ : lowered s.settings r cur = low) (count : n + advance cur low = m) :
    (s.settings.termI < low → Owned c m low s (chargeTransition r u))
      ∧ (¬s.settings.termI < low →
        (s.settings.balDelta < r.cells.spread → Owned (c.balanced s.now) (m + advance low 0) 0 s (chargeTransition r u))
          ∧ (¬s.settings.balDelta < r.cells.spread → Owned c.filled (m + advance low 0) 0 s (chargeTransition r u))) := by
  obtain ⟨v, hv⟩ : ∃ v, v = (if u.settings.chgVcell ≤ r.cells.vmax then putOrder (u.chg.orderCur - 20) u.settings.chgVcell u else u) := ⟨_, rfl⟩
  have cur' : u.chg.orderCur = cur := by rw [h.1.1]; rfl
  have e : chargeTransition r u
      = if v.chg.orderCur ≤ v.settings.termI then (if v.settings.balDelta < r.cells.spread then enterBalance v else enterDone v) else v := by
    rw [hv]
    unfold chargeTransition
    rw [h.state.trans state]
    rfl
  have row : Turned c m low s v := by
    rw [hv, h.settings, cur', ← count, ← is_]
    unfold lowered
    split
    · exact h.put _ ceil
    · rw [advance_self]
      exact h
  have at_ : v.chg.orderCur = low := by rw [row.1.1]; rfl
  rw [e, at_, row.settings]
  refine ⟨fun goes => ?_, fun ends => ?_⟩
  · rw [if_neg (Nat.not_le.2 goes)]
    exact row.owned
  rw [if_pos (Nat.not_lt.1 ends)]
  refine ⟨fun wide => ?_, fun even => ?_⟩
  · rw [if_pos wide]
    exact row.balanced ceil
  · rw [if_neg even]
    exact row.filled ceil

theorem transition_balance (h : Turned c n cur s u) (ceil : c.orderCeil = s.settings.chgVcell) (state : c.state = .balance) :
    (r.cells.spread ≤ s.settings.balDelta / 2 → Owned c.filled (n + advance cur 0) 0 s (chargeTransition r u))
      ∧ (¬r.cells.spread ≤ s.settings.balDelta / 2 → Owned c n cur s (chargeTransition r u)) := by
  unfold chargeTransition
  rw [h.state.trans state, h.settings]
  refine ⟨fun even => ?_, fun wide => ?_⟩
  · rw [if_pos even]
    exact h.filled ceil
  · rw [if_neg wide]
    exact h.owned

theorem transition_done (h : Turned c n cur s u) (state : c.state = .done) :
    chargeTransition r u = if r.cells.vmax + s.settings.rechargeDrop < s.settings.chgVcell then requestCharge u else u := by
  unfold chargeTransition
  rw [h.state.trans state, h.settings]

theorem transition_paused (h : Turned c n cur s u) (state : c.state = .paused) :
    chargeTransition r u
      = if resumable s.settings r = true then requestCharge { u with chg := { u.chg with pauseReason := .none } } else u := by
  unfold chargeTransition
  rw [h.state.trans state, h.settings]

theorem transition_rests (h : Turned c n cur s u)
    (state : c.state = .absent ∨ c.state = .qualify ∨ c.state = .waitIdle ∨ c.state = .fault) : chargeTransition r u = u := by
  unfold chargeTransition
  rw [h.state]
  rcases state with e | e | e | e <;> rw [e]

end transitions

end Sys2Proof.Machine
end

section
/-! PROOFS. The charge controller's judgement of a scan, case by case, as the scan leaves it (08 R157). -/

namespace Sys2Proof.Machine

theorem windowed_iff (st : ChargeState) : st.windowed = true ↔ st.charging = true ∨ st = .balance := by
  cases st <;> decide

/-- A controller that waits already, behind a motor that holds the path. -/
theorem Landed.waitsOn {g : Charger} {n : Nat} {s y x : State} (h : Landed g n 0 s y) (state : g.state = .waitIdle)
    (path : y.arb.path = .discharge) (wait : y.arb.waiting = some .charger) (ceil : g.orderCeil = s.settings.chgVcell)
    (after : Scanned s y x) : Requested g n s x := by
  have same : ({ g with state := .waitIdle } : Charger) = g := by rw [← state]
  refine Landed.waits ?_ path wait ceil after
  rw [same]
  exact h

/-- The controller finds `s` at a scan with its order as its state forms it, and the scan leaves `x` (08 R145; 03 R60, R61). -/
structure Judging (r : ScanRecord) (s x : State) : Prop where
  ceil : s.chg.orderCeil = s.settings.chgVcell
  num : s.chg.orderNum ≤ 255
  forms : s.formedCurrent = s.chg.orderCur
  holds : s.arb.path = .charge ↔ s.chg.state.charging = true
  waits : s.arb.waiting = some .charger ↔ s.chg.state = .waitIdle
  behind : s.arb.waiting = some .charger → s.arb.path = .discharge
  after : Scanned s (chargeJudge r s) x

/-- The order current that a valid scan's new COLD forms (08 R145). -/
def State.coldOrder (r : ScanRecord) (s : State) : Nat := State.formedCurrent { s with chg := s.chg.stored r }

/-- The controller that a valid scan's steps find: the values stored and, in a charging state, the excess counted. -/
def State.heardCharger (r : ScanRecord) (s : State) : Charger :=
  { s.chg.stored r with
    excess := if s.chg.state.charging = true then excessAfter (s.coldOrder r) r.i s.chg.excess else s.chg.excess }

section judging
variable {r : ScanRecord} {s x : State}

theorem Judging.stored (j : Judging r s x) :
    Turned (s.chg.stored r) (advance s.chg.orderCur (s.coldOrder r)) (s.coldOrder r) s (storeLatest r s) :=
  storeLatest_turned j.ceil j.num j.forms

theorem Judging.valid (j : Judging r s x) (valid : r.isValid = true) :
    Scanned s (bleedScan r (chargeSteps r (storeLatest r s))) x := by
  have after := j.after
  unfold chargeJudge at after
  rwa [if_pos valid] at after

theorem Judging.free (j : Judging r s x) (rests : s.chg.state ≠ .waitIdle) : s.arb.waiting ≠ some .charger :=
  fun h => rests (j.waits.1 h)

/-- The steps' own changes, with the bleeds selected, are what the scan leaves. -/
theorem Judging.lands (j : Judging r s x) (valid : r.isValid = true) (rests : s.chg.state ≠ .waitIdle) {c : Charger} {n cur : Nat}
    (row : Owned c n cur s (chargeSteps r (storeLatest r s))) : Landed (c.bled s.settings r) n cur s x :=
  row.bled.scanned (j.free rests) (j.valid valid)

theorem charging_rests {st : ChargeState} (charging : st.charging = true) : st ≠ .waitIdle := fun h => by
  rw [h] at charging
  cases charging

/-- In a charging state no motor drives, so that the scan leaves what the steps leave. -/
theorem Judging.plain (j : Judging r s x) (valid : r.isValid = true) (charging : s.chg.state.charging = true) :
    x = bleedScan r (chargeSteps r (storeLatest r s)) := by
  rcases j.valid valid with e | ⟨no, -⟩
  · exact e
  · cases (j.holds.2 charging).symm.trans no

/-- The row of a charge fault, as the scan leaves it. -/
theorem Judging.faults (j : Judging r s x) (valid : r.isValid = true) (charging : s.chg.state.charging = true) {c : Charger}
    {n cur : Nat} {u : State} {cause : ChargeCause} (row : Turned c n cur s u) (ceil : c.orderCeil = s.settings.chgVcell)
    (steps : chargeSteps r (storeLatest r s) = enterChargeFault cause u) :
    Landed (c.failed cause) (n + advance cur 0) 0 s x ∧ x.noted .chargeFault ∧ x.dockNoted .chargeFault := by
  obtain ⟨own, fault, dock⟩ := row.failed ceil cause
  have state : (enterChargeFault cause u).chg.state = .fault := by
    rw [own.1.1]
    rfl
  have e : x = enterChargeFault cause u := by
    rw [j.plain valid charging, steps]
    exact bleedScan_rests (by rw [state]; rintro (no | no) <;> cases no)
  rw [e]
  exact ⟨own.1, fault, dock⟩

theorem Judging.cellOver (j : Judging r s x) (valid : r.isValid = true) (charging : s.chg.state.charging = true)
    (high : s.settings.chgVcell + 50 < r.cells.vmax) :
    Landed ((s.chg.stored r).failed .cellOver) (advance s.chg.orderCur (s.coldOrder r) + advance (s.coldOrder r) 0) 0 s x
      ∧ x.noted .chargeFault ∧ x.dockNoted .chargeFault := by
  have row := j.stored
  refine j.faults valid charging row j.ceil (chargeSteps_over ?_ ?_)
  · rw [row.state]
    exact charging
  · rw [row.settings]
    exact high

theorem Judging.pauses (j : Judging r s x) (valid : r.isValid = true)
    (low : ¬(s.chg.state.charging = true ∧ s.settings.chgVcell + 50 < r.cells.vmax)) (windowed : s.chg.state.windowed = true) :
    (r.thermFault = true →
        Landed ((s.chg.stored r).paused .therm) (advance s.chg.orderCur (s.coldOrder r) + advance (s.coldOrder r) 0) 0 s x)
      ∧ (r.thermFault = false → outsideWindow s.settings r.tmin r.tmax = true →
        Landed ((s.chg.stored r).paused .temp) (advance s.chg.orderCur (s.coldOrder r) + advance (s.coldOrder r) 0) 0 s x) := by
  have row := j.stored
  have rests : s.chg.state ≠ .waitIdle := fun h => by
    rw [h] at windowed
    cases windowed
  have low' : ¬((storeLatest r s).chg.state.charging = true ∧ (storeLatest r s).settings.chgVcell + 50 < r.cells.vmax) := by
    rw [row.state, row.settings]
    exact low
  have windowed' : (storeLatest r s).chg.state.windowed = true := by
    rw [row.state]
    exact windowed
  have lands {reason : PauseReason} (steps : chargeSteps r (storeLatest r s) = enterPaused reason (storeLatest r s)) :
      Landed ((s.chg.stored r).paused reason) (advance s.chg.orderCur (s.coldOrder r) + advance (s.coldOrder r) 0) 0 s x := by
    have own := row.paused j.ceil reason
    rw [← steps] at own
    exact j.lands valid rests own
  refine ⟨fun therm => lands (chargeSteps_therm low' windowed' therm), fun sound out => lands (chargeSteps_temp low' windowed' sound ?_)⟩
  rw [row.settings]
  exact out

/-- A charging state whose cells and temperatures pass: the excess count judges. -/
theorem Judging.counts (j : Judging r s x) (charging : s.chg.state.charging = true) (low : ¬s.settings.chgVcell + 50 < r.cells.vmax)
    (sound : r.thermFault = false) (inside : outsideWindow s.settings r.tmin r.tmax = false) :
    ∃ u, Turned (s.heardCharger r) (advance s.chg.orderCur (s.coldOrder r)) (s.coldOrder r) s u
      ∧ chargeSteps r (storeLatest r s)
        = if u.excessCause = .none then chargeTransition r u else enterChargeFault u.excessCause u := by
  have row := j.stored
  have cur : (storeLatest r s).chg.orderCur = s.coldOrder r := by rw [row.1.1]; rfl
  refine ⟨(storeLatest r s).counted r, ?_, chargeSteps_counted ?_ ?_ sound ?_⟩
  · have same : (storeLatest r s).counted r
        = { storeLatest r s with
            chg := (s.heardCharger r).advanced (advance s.chg.orderCur (s.coldOrder r)) (s.coldOrder r) s.now } := by
      unfold State.counted State.heardCharger
      rw [cur, if_pos charging, row.1.1]
      rfl
    rw [same]
    exact row.chg rfl
  · rw [row.state]
    exact charging
  · rw [row.settings]
    exact low
  · rw [row.settings]
    exact inside

/-- Outside the charging states, with a pause not called for: the transition of the state in force. -/
theorem Judging.goesOn (j : Judging r s x) (rests : ¬s.chg.state.charging = true)
    (sound : s.chg.state.windowed = true → r.thermFault = false ∧ outsideWindow s.settings r.tmin r.tmax = false) :
    Turned (s.heardCharger r) (advance s.chg.orderCur (s.coldOrder r)) (s.coldOrder r) s (storeLatest r s)
      ∧ chargeSteps r (storeLatest r s) = chargeTransition r (storeLatest r s) := by
  have row := j.stored
  refine ⟨?_, chargeSteps_on ?_ ?_⟩
  · have same : s.heardCharger r = s.chg.stored r := by
      unfold State.heardCharger
      rw [if_neg rests]
      rfl
    rw [same]
    exact row
  · rw [row.state]
    exact rests
  · rw [row.state, row.settings]
    exact sound

/-- An invalid scan: the bleeds off, and a pause at the third in a row of a state whose temperatures are checked. -/
theorem Judging.invalid (j : Judging r s x) (invalid : ¬r.isValid = true) :
    (s.chg.state.windowed = true → r.invalidCount = 3 →
        Landed (s.chg.paused .scan) (advance s.chg.orderCur 0) 0 s x)
      ∧ (¬(s.chg.state.windowed = true ∧ r.invalidCount = 3) →
        (s.chg.state ≠ .waitIdle → Landed { s.chg with bleeds := Bleeds.off } 0 s.chg.orderCur s x)
          ∧ (s.chg.state = .waitIdle → Requested { s.chg with bleeds := Bleeds.off } 0 s x)) := by
  have off : Turned { s.chg with bleeds := Bleeds.off } 0 s.chg.orderCur s { s with chg := { s.chg with bleeds := Bleeds.off } } := by
    have row := (turned_refl j.num).chg (e := { s.chg with bleeds := Bleeds.off }) rfl
    rwa [advanced_none (c := { s.chg with bleeds := Bleeds.off }) s.now j.num] at row
  have after := j.after
  unfold chargeJudge at after
  rw [if_neg invalid] at after
  dsimp only at after
  refine ⟨fun windowed third => ?_, fun on => ?_⟩
  · rw [if_pos (by rw [windowed, third]; rfl)] at after
    have rests : s.chg.state ≠ .waitIdle := fun h => by
      rw [h] at windowed
      cases windowed
    have own := (off.paused j.ceil .scan).scanned (j.free rests) after
    rwa [Nat.zero_add] at own
  · rw [if_neg (by rw [Bool.and_eq_true, beq_iff_eq]; exact on)] at after
    refine ⟨fun rests => off.owned.scanned (j.free rests) after, fun waiting => ?_⟩
    have wait := j.waits.2 waiting
    have cur : s.chg.orderCur = 0 := by
      rw [← j.forms]
      unfold State.formedCurrent
      rw [waiting]
    obtain ⟨row, -⟩ := off
    rw [cur] at row
    exact row.waitsOn waiting (j.behind wait) wait j.ceil after

/-- Behind a motor that keeps the path, or hands it on: a valid scan in WAIT_IDLE. -/
theorem Judging.waitsOn (j : Judging r s x) (valid : r.isValid = true) (waiting : s.chg.state = .waitIdle) :
    Requested (s.heardCharger r) 0 s x := by
  obtain ⟨row, steps⟩ := j.goesOn (by rw [waiting]; nofun) (by rw [waiting]; nofun)
  have cur : s.chg.orderCur = 0 := by
    rw [← j.forms]
    unfold State.formedCurrent
    rw [waiting]
  have order : s.coldOrder r = 0 := by
    unfold State.coldOrder State.formedCurrent Charger.stored
    rw [waiting]
  rw [order, cur, advance_self] at row
  have state : (s.heardCharger r).state = .waitIdle := waiting
  have wait := j.waits.2 waiting
  have after := j.valid valid
  rw [steps, transition_rests row (Or.inr (Or.inr (Or.inl state))),
    bleedScan_rests (by rw [row.state, state]; rintro (no | no) <;> cases no)] at after
  exact row.1.waitsOn state (by rw [row.2]; exact j.behind wait) (by rw [row.2]; exact wait) j.ceil after

end judging

end Sys2Proof.Machine
end

section
/-! PROOFS. The transitions of a valid scan as the scan leaves them, and the controller's path (08 R148 to R154; 03 R61). -/

namespace Sys2Proof.Machine

section transitions
variable {r : ScanRecord} {s x : State}

/-- The changes of the order that a valid scan makes before its transitions. -/
def State.coldCount (r : ScanRecord) (s : State) : Nat := advance s.chg.orderCur (s.coldOrder r)

/-- What the excess count calls for at a valid scan in a charging state, from the state as its COLD left it. -/
def State.heardCause (r : ScanRecord) (s : State) : ChargeCause :=
  State.excessCause { s with chg := (s.heardCharger r).advanced (s.coldCount r) (s.coldOrder r) s.now }

theorem heardCharger_state (r : ScanRecord) (s : State) : (s.heardCharger r).state = s.chg.state := rfl

theorem Judging.counted (j : Judging r s x) (charging : s.chg.state.charging = true) (low : ¬s.settings.chgVcell + 50 < r.cells.vmax)
    (sound : r.thermFault = false) (inside : outsideWindow s.settings r.tmin r.tmax = false) :
    ∃ u, Turned (s.heardCharger r) (s.coldCount r) (s.coldOrder r) s u
      ∧ chargeSteps r (storeLatest r s)
        = if s.heardCause r = .none then chargeTransition r u else enterChargeFault (s.heardCause r) u := by
  obtain ⟨u, row, steps⟩ := j.counts charging low sound inside
  have cause : u.excessCause = s.heardCause r := by
    obtain ⟨⟨chg, -, -, -, now, -⟩, -⟩ := id row
    unfold State.heardCause State.excessCause State.gracePassed State.orderIsRead
    rw [chg, now]
    rfl
  rw [cause] at steps
  exact ⟨u, row, steps⟩

theorem Judging.excess (j : Judging r s x) (valid : r.isValid = true) (charging : s.chg.state.charging = true)
    (low : ¬s.settings.chgVcell + 50 < r.cells.vmax) (sound : r.thermFault = false)
    (inside : outsideWindow s.settings r.tmin r.tmax = false) (cause : s.heardCause r ≠ .none) :
    Landed ((s.heardCharger r).failed (s.heardCause r)) (s.coldCount r + advance (s.coldOrder r) 0) 0 s x
      ∧ x.noted .chargeFault ∧ x.dockNoted .chargeFault := by
  obtain ⟨u, row, steps⟩ := j.counted charging low sound inside
  exact j.faults valid charging row j.ceil (steps.trans (if_neg cause))

/-- The row a transition works on, where neither a fault nor a pause is called for. -/
theorem Judging.transits (j : Judging r s x)
    (low : ¬(s.chg.state.charging = true ∧ s.settings.chgVcell + 50 < r.cells.vmax))
    (sound : s.chg.state.windowed = true → r.thermFault = false ∧ outsideWindow s.settings r.tmin r.tmax = false)
    (cause : s.chg.state.charging = true → s.heardCause r = .none) :
    ∃ u, Turned (s.heardCharger r) (s.coldCount r) (s.coldOrder r) s u
      ∧ chargeSteps r (storeLatest r s) = chargeTransition r u := by
  by_cases charging : s.chg.state.charging = true
  · obtain ⟨fine, inside⟩ := sound ((windowed_iff _).2 (Or.inl charging))
    obtain ⟨u, row, steps⟩ := j.counted charging (fun h => low ⟨charging, h⟩) fine inside
    exact ⟨u, row, steps.trans (if_pos (cause charging))⟩
  · obtain ⟨row, steps⟩ := j.goesOn charging sound
    exact ⟨_, row, steps⟩

end transitions

/-! ## The scan as the controller meets it -/

/-- A scan that is neither attach nor detach, from the controller's side. -/
theorem receiveScan_judging {r : ScanRecord} {s : State} (ok : PathOk s) (order : ChargeOk s)
    (dock : s.chg.state = .absent ↔ (receiveScan r s).chg.state = .absent) :
    ∃ p, Judging r p (receiveScan r s)
      ∧ p.chg = { s.chg with attach := (receiveScan r s).chg.attach, detach := (receiveScan r s).chg.detach }
      ∧ p.settings = s.settings ∧ p.now = s.now ∧ p.smp = s.smp := by
  obtain ⟨path, wait, chg, -, now, settings⟩ := handedOff_path r s
  have smp : (handedOff r s).smp = s.smp := by
    obtain ⟨_, _, _, _, _, _, e⟩ := handedOff_frame r s
    rw [e]
  obtain ⟨a, d, judged⟩ : ∃ a d, chargeScan r (handedOff r s) = chargeJudge r { handedOff r s with chg := { s.chg with attach := a, detach := d } } := by
    rw [chargeScan_eq, chg]
    by_cases absent : s.chg.state = .absent
    · have few : ¬5 ≤ s.chg.attachCount r := fun found => by
        obtain ⟨⟨chg', -⟩, -⟩ := receiveScan_attach (r := r) ok absent found
        have gone := dock.1 absent
        rw [chg'] at gone
        cases gone
      rw [if_pos absent, if_neg few]
      exact ⟨_, _, rfl⟩
    · have few : ¬2 ≤ s.chg.detachCount r := fun lost => absent (dock.2 (by
        obtain ⟨chg', -⟩ := receiveScan_detach (r := r) ok absent lost
        rw [chg']
        rfl))
      rw [if_neg absent, if_neg few]
      exact ⟨_, _, rfl⟩
  obtain ⟨p, hp⟩ : ∃ p, p = ({ handedOff r s with chg := { s.chg with attach := a, detach := d } } : State) := ⟨_, rfl⟩
  have fields : p.chg = { s.chg with attach := a, detach := d } ∧ p.arb = (handedOff r s).arb ∧ p.settings = s.settings ∧ p.now = s.now
      ∧ p.smp = s.smp := hp ▸ ⟨rfl, rfl, settings, now, smp⟩
  obtain ⟨pchg, parb, pset, pnow, psmp⟩ := fields
  rw [← hp] at judged
  have after : Scanned p (chargeJudge r p) (receiveScan r s) := by
    rw [← judged]
    by_cases faults : (suctionScan r (s.atMotor r)).suc.state = .fault ∧ s.suc.state ≠ .fault
    · obtain ⟨fault, was⟩ := faults
      obtain ⟨held, -⟩ := ok
      have drives := suctionScan_newFault fault (by rw [(atMotor_kept r s).1]; exact was)
      rw [(atMotor_kept r s).1] at drives
      exact Or.inr ⟨by rw [parb, path]; exact held.2 drives, receiveScan_faulted fault was⟩
    · refine Or.inl (receiveScan_unfaulted fun fault => ?_)
      by_contra was
      exact faults ⟨fault, was⟩
  obtain ⟨attach, detach, -⟩ := (chargeJudge_shape r p).stays.trans (judged ▸ receiveScan_stays r s)
  obtain ⟨-, holds, -, waits, -, behind, -⟩ := ok
  obtain ⟨forms, ceil, num, -⟩ := order
  rw [pchg] at attach detach
  have current : p.formedCurrent = p.chg.orderCur := by
    rw [pchg]
    refine Eq.trans ?_ forms.symm
    unfold State.formedCurrent State.bulkCurrent
    rw [pchg, pset]
  refine ⟨p, ⟨by rw [pchg, pset]; exact ceil, by rw [pchg]; exact num, current, ?_, ?_, ?_, after⟩, ?_, pset, pnow, psmp⟩
  · rw [parb, path, pchg]
    exact holds
  · rw [parb, wait, pchg]
    exact waits
  · rw [parb, wait, path]
    exact behind
  · rw [pchg, attach, detach]

/-- The path after a scan in a charging state: kept, or released to a run that waits (03 R61). -/
theorem receiveScan_charging {r : ScanRecord} {s : State} (ok : PathOk s) (charging : s.chg.state.charging = true) :
    ((receiveScan r s).arb.path = .charge ∧ (receiveScan r s).arb.waiting = s.arb.waiting)
      ∨ ((receiveScan r s).arb.path ≠ .charge ∧ (receiveScan r s).arb.waiting = none
        ∧ (s.arb.waiting = none → (receiveScan r s).arb.path = .idle)
        ∧ (s.arb.waiting = some .suction →
          (receiveScan r s).arb.path = .discharge ∧ (receiveScan r s).suc.state = .starting ∧ (receiveScan r s).men = true)) := by
  obtain ⟨held, holds, waits, -, -, behind, -⟩ := ok
  have mine := holds.2 charging
  have rests : ¬s.suc.state.driving = true := fun drives => by cases mine.symm.trans (held.2 drives)
  obtain ⟨path, wait, -⟩ := handedOff_path r s
  obtain ⟨-, -, steered, -⟩ := handedOff_spec r s
  obtain ⟨suc, -⟩ := atMotor_kept r s
  have e : receiveScan r s = chargeScan r (handedOff r s) := receiveScan_unfaulted fun fault => by
    by_contra was
    have drives := suctionScan_newFault fault (by rw [suc]; exact was)
    rw [suc] at drives
    exact rests drives
  have present : (handedOff r s).chg.state ≠ .absent := fun h => by
    rw [(handedOff_path r s).2.2.1] at h
    rw [h] at charging
    cases charging
  obtain ⟨-, alone, queued⟩ := chargeScan_pathWork (r := r) (s := handedOff r s) (Or.inr (Or.inl present))
  rw [path, wait, ← e] at alone queued
  cases who : s.arb.waiting with
  | none =>
    obtain ⟨-, other, free⟩ := alone (by rw [mine]; nofun) who
    cases now : (receiveScan r s).arb.path with
    | idle => exact Or.inr ⟨nofun, free, fun _ => rfl, nofun⟩
    | charge => exact Or.inl ⟨rfl, free⟩
    | discharge => exact absurd now other
  | some side =>
    cases side with
    | charger => cases mine.symm.trans (behind who)
    | suction =>
      have waiting := waits.1 who
      have still : (handedOff r s).suc.state = .waitPath := by
        rw [steered, suctionScan_rests (by rw [suc]; exact Or.inr waiting)]
        change ((s.atMotor r).suc.heard r).state = _
        rw [suc]
        exact (heard_kept r s.suc).1.trans waiting
      obtain ⟨-, ⟨-, keeps, on⟩ | ⟨-, discharge, free, begun, -⟩⟩ := queued mine who still
      · exact Or.inl ⟨keeps, on⟩
      · refine Or.inr ⟨by rw [discharge]; nofun, free, nofun, fun _ => ⟨discharge, by rw [begun]; rfl, ?_⟩⟩
        unfold State.men
        rw [begun, discharge]
        rfl

end Sys2Proof.Machine
end

section
/-! PROOFS. A scan moves the charge (08 R141 to R157). -/

namespace Sys2Proof.Machine

theorem coldAfter_eq (tmin : Option Int) (cold : Bool) :
    coldAfter tmin cold
      = if (tmin.any fun z => decide (z < 11)) = true then true
        else if (tmin.any fun z => decide (13 ≤ z)) = true then false else cold := by
  unfold coldAfter
  cases tmin with
  | none => rfl
  | some t =>
    simp only [Option.any_some, decide_eq_true_iff]
    by_cases low : t ≤ 10
    · rw [if_pos low, if_pos (show t < 11 by omega)]
    · rw [if_neg low, if_neg (show ¬t < 11 by omega)]

theorem resumable_iff (t : Settings) (r : ScanRecord) :
    resumable t r = true ↔ r.thermFault = false ∧ (r.tmin.all fun z => decide (t.chgTlo + 3 ≤ z)) = true
      ∧ (r.tmax.all fun z => decide (z ≤ t.chgThi - 3)) = true := by
  unfold resumable
  rw [Bool.and_eq_true, Bool.and_eq_true, Bool.not_eq_true', and_assoc]

theorem bled_on {settings : Settings} {r : ScanRecord} {c : Charger} (h : c.state = .topoff ∨ c.state = .balance) :
    c.bled settings r = { c with bleeds := selectBleeds settings.balDelta r.cells } := by
  unfold Charger.bled
  rw [if_pos h]

theorem advance_zero (old new : Nat) : advance old new = 0 ↔ new = old := by
  unfold advance
  by_cases same : new = old
  · rw [if_pos same]
    exact iff_of_true rfl same
  · rw [if_neg same]
    exact iff_of_false nofun same

/-- Settles O46: the judgement case by case, its rows of changes read as the charger they leave. -/
theorem scanMovesCharge : Obligations.ScanMovesCharge := by
  intro s ok order start first k phase
  obtain ⟨t, r, n, next, table, ⟨counts, sound⟩, e⟩ := scan_received k phase
  refine ⟨t, r, next, table, ?_⟩
  intro dock valid spread below cold most bulk charging windowed outside formed number unread isRead grace aged excess overcurrent unheard
    cellOver cut lowered_ advances kept becomes paused faulted selected requested
  obtain ⟨q, hq⟩ : ∃ q, q = s.atScan start n := ⟨_, rfl⟩
  obtain ⟨x, hx⟩ : ∃ x, x = receiveScan r q := ⟨_, rfl⟩
  rw [← hq, ← hx] at e
  have qok : PathOk q := hq ▸ ok
  have qorder : ChargeOk q := hq ▸ order
  have same : q.chg = s.chg ∧ q.settings = s.settings ∧ q.smp = n ∧ q.arb = s.arb := hq ▸ ⟨rfl, rfl, rfl, rfl⟩
  obtain ⟨qchg, qset, qsmp, qarb⟩ := same
  have now : t.now = q.now := by
    obtain ⟨_, _, _, _, _, _, _, _, _, _, _, _, _, frame⟩ := receiveScan_frame r q
    rw [e, hx, frame]
  have tchg : t.chg = x.chg := by rw [e]
  have tok : PathOk t := by
    obtain ⟨t', next', settled⟩ := exec_settled (.scanCompletion k) (by nofun) ((pathOk_iff s).1 ok)
    rw [next] at next'
    cases next'
    exact (pathOk_iff t).2 settled
  obtain ⟨p, j, pchg, pset, pnow, psmp⟩ := receiveScan_judging (r := r) qok qorder (by rw [qchg, ← hx, ← tchg]; exact dock)
  rw [← hx] at j pchg
  rw [qchg, ← tchg] at pchg
  rw [qset] at pset
  have pnow' : p.now = t.now := pnow.trans now.symm
  have pstate : p.chg.state = s.chg.state := by rw [pchg]
  have charges : charging ↔ p.chg.state.charging = true := by rw [pstate, charging_iff]
  have windows : windowed ↔ p.chg.state.windowed = true := by rw [windowed_iff, ← charges, pstate]
  have isValid_ (yes : valid) : r.isValid = true := (isValid_iff r).2 yes
  obtain ⟨forms, ceil, num, -, bleedsOff⟩ := id order
  have pnum : s.chg.orderNum % 256 = s.chg.orderNum := Nat.mod_eq_of_lt (Nat.lt_succ_of_le num)
  let noticed : Prop := (t.chg.state ≠ s.chg.state → t.noted .chargeState) ∧ (advances ≠ 0 → t.dockNoted .orderChanged)
  -- the charger the statement speaks of, but for its order
  obtain ⟨B, hB⟩ : ∃ B : Bleeds → Charger, B = fun b =>
      { s.chg with
        attach := t.chg.attach, detach := t.chg.detach, cold := cold
        latest := if valid then some ⟨r.cells.vmin, r.cells.vmax, spread, r.tmin, r.tmax, r.thermFault⟩ else s.chg.latest
        excess := excess, bleeds := b } := ⟨_, rfl⟩
  obtain ⟨count, hcount⟩ : ∃ count : Nat → Nat, ∀ cur, count cur = advance s.chg.orderCur formed + advance formed lowered_ + advance lowered_ cur :=
    ⟨_, fun _ => rfl⟩
  have keptIs : kept = (B (if valid ∧ (t.chg.state = .topoff ∨ t.chg.state = .balance) then selectBleeds s.settings.balDelta r.cells
      else Bleeds.off)).advanced advances t.chg.orderCur t.now := by
    rw [hB]
    rfl
  have advancesIs : advances = count t.chg.orderCur := (hcount _).symm
  have both {g : Charger} {cur : Nat} (landed : Landed g (count cur) cur p x) (f : Charger → Charger) (b : Bleeds)
      (shape : g = f (B b)) (through : ∀ c n cur now, f (Charger.advanced n cur now c) = (f c).advanced n cur now)
      (fits : (if valid ∧ (g.state = .topoff ∨ g.state = .balance) then selectBleeds s.settings.balDelta r.cells else Bleeds.off) = b) :
      t.chg = { f kept with orderCur := cur } ∧ noticed := by
    obtain ⟨chg, -, state, dockN, -⟩ := landed
    rw [← tchg, pnow'] at chg
    have st : t.chg.state = g.state := by rw [chg]; rfl
    have adv : advances = count cur := by rw [advancesIs, chg]; rfl
    refine ⟨?_, fun moved => ?_, fun some_ => ?_⟩
    · rw [keptIs, st, fits, through, adv, chg, shape]
      rfl
    · rw [e]
      exact state (by rw [pstate, ← st]; exact Ne.symm moved)
    · rw [e]
      exact dockN (by rw [← adv]; exact some_)
  have still {g : Charger} (rests : ¬(g.state = .topoff ∨ g.state = .balance)) :
      (if valid ∧ (g.state = .topoff ∨ g.state = .balance) then selectBleeds s.settings.balDelta r.cells else Bleeds.off) = Bleeds.off :=
    if_neg fun h => rests h.2
  have lowIs (no : ¬(valid ∧ s.chg.state = .topoff ∧ ¬cut)) : lowered_ = formed := if_neg fun h => no ⟨h.1, h.2.1, h.2.2.1⟩
  have countIs (low : lowered_ = formed) (cur : Nat) : advance s.chg.orderCur formed + advance formed cur = count cur := by
    rw [hcount, low, advance_self, Nat.add_zero]
  -- a valid scan's values, its COLD and its excess count
  have coldIs (yes : valid) : cold = coldAfter r.tmin s.chg.cold := by
    rw [coldAfter_eq]
    exact if_congr (and_iff_right yes) rfl (if_congr (and_iff_right yes) rfl rfl)
  have bulkIs (c : Charger) (same : c.cap = s.chg.cap) (chill : c.cold = cold) : State.bulkCurrent { p with chg := c } = bulk := by
    rw [bulkCurrent_eq]
    dsimp only
    rw [same, chill, pset]
  have stands (rests : s.chg.state ≠ .bulk) : formed = s.chg.orderCur := if_neg rests
  have zero (rests : ¬charging) : s.chg.orderCur = 0 := by
    rw [forms]
    unfold State.formedCurrent
    cases st : s.chg.state with
    | precharge => exact absurd (Or.inl st) rests
    | bulk => exact absurd (Or.inr (Or.inl st)) rests
    | topoff => exact absurd (Or.inr (Or.inr st)) rests
    | absent | qualify | waitIdle | balance | done | paused | fault => rfl
  have storedIs (yes : valid) : p.chg.stored r = { B s.chg.bleeds with excess := s.chg.excess } := by
    rw [hB, pchg]
    unfold Charger.stored
    dsimp only
    rw [if_pos yes, coldIs yes]
    rfl
  have formedIs (yes : valid) : p.coldOrder r = formed := by
    by_cases inBulk : s.chg.state = .bulk
    · have e' : p.coldOrder r = State.bulkCurrent { p with chg := p.chg.stored r } := by
        unfold State.coldOrder State.formedCurrent
        dsimp only
        rw [show (p.chg.stored r).state = .bulk from pstate.trans inBulk]
      rw [e', bulkIs _ (by rw [pchg]; rfl) (by rw [coldIs yes, pchg]; rfl)]
      exact (if_pos inBulk).symm
    · rw [stands inBulk]
      unfold State.coldOrder State.formedCurrent
      dsimp only
      rw [show (p.chg.stored r).state = s.chg.state from pstate]
      cases st : s.chg.state with
      | precharge =>
        rw [forms]
        unfold State.formedCurrent
        rw [st]
      | bulk => exact absurd st inBulk
      | topoff =>
        rw [pchg]
        rfl
      | absent | qualify | waitIdle | balance | done | paused | fault =>
        exact (zero (by change ¬(s.chg.state = _ ∨ s.chg.state = _ ∨ s.chg.state = _); rw [st]; decide)).symm
  have countedIs (yes : valid) : p.coldCount r = advance s.chg.orderCur formed := by
    unfold State.coldCount
    rw [formedIs yes, pchg]
  have heardIs (yes : valid) : p.heardCharger r = B s.chg.bleeds := by
    unfold State.heardCharger
    rw [storedIs yes, formedIs yes, hB]
    have counted : (if p.chg.state.charging = true then excessAfter formed r.i p.chg.excess else p.chg.excess) = excess := by
      rw [if_congr charges.symm rfl rfl, show p.chg.excess = s.chg.excess by rw [pchg]]
      exact (if_congr (and_iff_right yes) rfl rfl).symm
    rw [counted]
  have causes (yes : valid) (on : charging) :
      (excess = 50 → grace = true → p.heardCause r = .overcurrent)
        ∧ (excess = 50 → grace = false → isRead = false → aged = true → p.heardCause r = .noOrderRead)
        ∧ (¬overcurrent → ¬unheard → p.heardCause r = .none) := by
    obtain ⟨z, hz⟩ : ∃ z, z = ({ p with chg := (B s.chg.bleeds).advanced (advance s.chg.orderCur formed) formed p.now } : State) := ⟨_, rfl⟩
    have is_ : p.heardCause r = z.excessCause := by
      unfold State.heardCause
      rw [hz, heardIs yes, countedIs yes, formedIs yes]
    have most_ : z.chg.excess ≤ 50 := by
      have here : z.chg.excess = excess := by rw [hz, hB]; rfl
      rw [here, show excess = excessAfter formed r.i s.chg.excess from if_pos ⟨yes, on⟩]
      exact excessAfter_le _ _ _
    have full : z.chg.excess = excess := by rw [hz, hB]; rfl
    have moved := advance_zero s.chg.orderCur formed
    have numIs : z.chg.orderNum = number := by
      rw [hz, hB]
      change (s.chg.orderNum + advance s.chg.orderCur formed) % 256 = _
      unfold advance
      by_cases same : formed = s.chg.orderCur
      · rw [if_pos same, Nat.add_zero, pnum]
        exact (if_pos same).symm
      · rw [if_neg same]
        exact (if_neg same).symm
    have unreadIs : z.chg.unreadSince = unread := by
      rw [hz, hB]
      change (if advance s.chg.orderCur formed = 0 then s.chg.unreadSince else some (s.chg.unreadSince.getD p.now)) = _
      rw [pnow']
      exact if_congr moved rfl rfl
    have readIs : z.chg.read = s.chg.read := by rw [hz, hB]; rfl
    have nowIs : z.now = t.now := by rw [hz]; exact pnow'
    have graceIs : z.gracePassed = grace := by rw [gracePassed_any, numIs, readIs, nowIs]
    have heardIs' : z.orderIsRead = isRead := by rw [orderIsRead_any, numIs, readIs]
    have agedIs : (z.chg.unreadSince.any fun m => decide (m + 2000000 ≤ z.now)) = aged := by rw [unreadIs, nowIs]
    obtain ⟨grave, unread_, quiet⟩ := excessCause_cases most_
    rw [agedIs, graceIs, heardIs', full] at unread_ quiet
    rw [graceIs, full] at grave
    rw [is_]
    exact ⟨grave, unread_, fun no no' => quiet (fun h => no ⟨on, h⟩) fun h => no' ⟨on, h⟩⟩
  -- a request for the path
  have asks {g : Charger} {reason : PauseReason} (rests : ¬charging)
      (shape : g = { B Bleeds.off with pauseReason := reason, state := s.chg.state }) (req : Requested g 0 p x) :
      requested reason ∧ noticed := by
    have low : lowered_ = formed := lowIs fun h => rests (Or.inr (Or.inr h.2.1))
    have formed0 : formed = 0 := (stands fun h => rests (Or.inr (Or.inl h))).trans (zero rests)
    have countIs' (cur : Nat) : 0 + advance 0 cur = count cur := by
      rw [← countIs low, formed0, zero rests, advance_self]
    obtain ⟨held, holds, -, waits, -, -, enabled, -⟩ := id tok
    rcases req with ⟨state, landed⟩ | ⟨away, paused_, begins⟩
    · rw [← tchg] at state
      have path : t.arb.path = .discharge := by
        obtain ⟨-, -, -, -, -, behind, -⟩ := tok
        exact behind (waits.2 state)
      have men : t.men = true := by
        unfold State.men
        rw [path, enabled, held.1 path]
        rfl
      have landed' : Landed { g with state := .waitIdle } (count 0) 0 p x := by
        rw [← countIs' 0, advance_self]
        exact landed
      have out := both landed' (fun c => { c with state := .waitIdle, pauseReason := reason }) Bleeds.off (by rw [shape])
        (fun _ _ _ _ => rfl) (still (by rintro (no | no) <;> cases no))
      refine ⟨?_, out.2⟩
      change ite _ _ _
      rw [if_pos men]
      exact ⟨out.1, waits.2 state⟩
    · have men : ¬t.men = true := fun on => by
        have path : t.arb.path = .discharge := by
          unfold State.men at on
          rw [Bool.and_eq_true, beq_iff_eq] at on
          exact on.2
        rw [e] at path
        exact away path
      have latestIs : g.latest = kept.latest := by rw [shape, hB]
      have pause (why : PauseReason) (landed : Landed (g.paused why) (0 + advance 0 0) 0 p x) :
          paused why ∧ noticed := by
        rw [countIs'] at landed
        exact both landed (fun c => { c with state := .paused, pauseReason := why, preTimer := none, balTimer := none, excess := 0 })
          Bleeds.off (by rw [shape, hB]; rfl) (fun _ _ _ _ => rfl) (still (by rintro (no | no) <;> cases no))
      have goes : selected reason ∧ noticed := by
        cases known : g.latest with
        | none =>
          have out := pause .scan (paused_ known)
          exact ⟨⟨fun _ => out.1, fun v some_ => absurd (known.symm.trans (latestIs.trans some_)) nofun⟩, out.2⟩
        | some v =>
          have chain := begins v known
          rw [bulkIs g (by rw [shape, hB]) (by rw [shape, hB]), psmp, qsmp, counts, pset] at chain
          refine and_assoc.2 ⟨fun none_ => absurd (known.symm.trans (latestIs.trans none_)) nofun, ?_⟩
          have same (w : LatestValues) (some_ : kept.latest = some w) : v = w :=
            Option.some.inj (known.symm.trans (latestIs.trans some_))
          by_cases third : 3 ≤ r.invalidCount
          · rw [if_pos third] at chain
            have out := pause .scan chain
            exact ⟨fun w _ => by rw [if_pos third]; exact out.1, out.2⟩
          rw [if_neg third] at chain
          by_cases therm : v.thermFault = true
          · rw [if_pos therm] at chain
            have out := pause .therm chain
            exact ⟨fun w some_ => by rw [← same w some_, if_neg third, if_pos therm]; exact out.1, out.2⟩
          rw [if_neg therm] at chain
          by_cases out_ : outsideWindow s.settings v.tmin v.tmax = true
          · rw [if_pos out_] at chain
            have out := pause .temp chain
            exact ⟨fun w some_ => by rw [← same w some_, if_neg third, if_neg therm]; exact (if_pos out_).mpr out.1, out.2⟩
          rw [if_neg out_] at chain
          by_cases empty : v.vmin < 3000
          · rw [if_pos empty, countIs'] at chain
            have out := both chain (fun c => { c with
                pauseReason := reason, state := .precharge, preTimer := some (t.now + 1800000000), excess := 0 }) Bleeds.off
              (by rw [shape, hB, pnow']; rfl) (fun _ _ _ _ => rfl) (still (by rintro (no | no) <;> cases no))
            refine ⟨fun w some_ => ?_, out.2⟩
            rw [← same w some_, if_neg third, if_neg therm]
            refine (if_neg out_).mpr ?_
            rw [if_pos empty]
            exact out.1
          · rw [if_neg empty, countIs'] at chain
            have out := both chain (fun c => { c with pauseReason := reason, state := .bulk, preTimer := none, excess := 0 }) Bleeds.off
              (by rw [shape, hB]; rfl) (fun _ _ _ _ => rfl) (still (by rintro (no | no) <;> cases no))
            refine ⟨fun w some_ => ?_, out.2⟩
            rw [← same w some_, if_neg third, if_neg therm]
            refine (if_neg out_).mpr ?_
            rw [if_neg empty]
            exact out.1
      refine ⟨?_, goes.2⟩
      change ite _ _ _
      rw [if_neg men]
      exact goes.1
  -- an invalid scan
  have silent (no : ¬valid) : { p.chg with bleeds := Bleeds.off } = B Bleeds.off ∧ ∀ cur, advance s.chg.orderCur cur = count cur := by
    have chill : cold = s.chg.cold := (if_neg fun h => no h.1).trans (if_neg fun h => no h.1)
    have uncounted : excess = s.chg.excess := if_neg fun h => no h.1
    have formedNo : formed = s.chg.orderCur := by
      by_cases inBulk : s.chg.state = .bulk
      · refine (if_pos inBulk).trans ?_
        rw [forms]
        unfold State.formedCurrent
        rw [inBulk]
        dsimp only
        rw [bulkCurrent_eq, ← chill]
      · exact stands inBulk
    refine ⟨?_, fun cur => ?_⟩
    · rw [hB, pchg, chill, uncounted]
      dsimp only
      rw [if_neg no]
    · rw [← countIs (lowIs fun h => no h.1), formedNo, advance_self, Nat.zero_add]
  have invalid_ (no : ¬valid) : ¬r.isValid = true := fun h => no ((isValid_iff r).1 h)
  have scanPaused (no : ¬valid) (on : windowed) (third : r.invalidCount = 3) := by
    obtain ⟨pauses, -⟩ := j.invalid (invalid_ no)
    obtain ⟨shape, counted⟩ := silent no
    have landed := pauses (windows.1 on) third
    rw [show p.chg.orderCur = s.chg.orderCur by rw [pchg], counted] at landed
    exact both landed (fun c => { c with state := .paused, pauseReason := .scan, preTimer := none, balTimer := none, excess := 0 })
      Bleeds.off (by rw [← shape]; rfl) (fun _ _ _ _ => rfl) (still (by rintro (no | no) <;> cases no))
  have silentStays (no : ¬valid) (on : ¬(windowed ∧ r.invalidCount = 3)) (rests : s.chg.state ≠ .waitIdle) := by
    obtain ⟨-, goes⟩ := j.invalid (invalid_ no)
    obtain ⟨shape, counted⟩ := silent no
    have landed := (goes fun h => on ⟨windows.2 h.1, h.2⟩).1 (by rw [pstate]; exact rests)
    rw [show p.chg.orderCur = s.chg.orderCur by rw [pchg], shape, ← advance_self s.chg.orderCur, counted] at landed
    exact both landed (fun c => c) Bleeds.off rfl (fun _ _ _ _ => rfl) (if_neg fun h => no h.1)
  have offAt (rests : ¬(s.chg.state = .topoff ∨ s.chg.state = .balance)) : s.chg.bleeds = Bleeds.off :=
    bleedsOff (fun h => rests (Or.inl h)) fun h => rests (Or.inr h)
  have waiting (wait : s.chg.state = .waitIdle) := by
    have rests : ¬charging := by
      change ¬(s.chg.state = _ ∨ s.chg.state = _ ∨ s.chg.state = _)
      rw [wait]
      decide
    have off := offAt (by rw [wait]; decide)
    by_cases yes : valid
    · refine asks (reason := s.chg.pauseReason) rests ?_ (j.waitsOn (isValid_ yes) (pstate.trans wait))
      rw [heardIs yes, off, hB]
    · obtain ⟨-, goes⟩ := j.invalid (invalid_ yes)
      obtain ⟨shape, -⟩ := silent yes
      refine asks (reason := s.chg.pauseReason) rests ?_ ((goes fun h => ?_).2 (pstate.trans wait))
      · rw [shape, hB]
      · have on := h.1
        rw [pstate, wait] at on
        cases on
  -- a valid scan, step by step
  have noTopoff (h : cut) : ¬(valid ∧ s.chg.state = .topoff ∧ ¬cut) := fun no => no.2.2 h
  have countCut (h : cut) : p.chg.orderCur = s.chg.orderCur ∧ advance s.chg.orderCur formed + advance formed 0 = count 0 :=
    ⟨by rw [pchg], countIs (lowIs (noTopoff h)) 0⟩
  have fails (yes : valid) (h : cut) {c : ChargeCause} {n : Nat}
      (landed : Landed ((B s.chg.bleeds).failed c) n 0 p x ∧ x.noted .chargeFault ∧ x.dockNoted .chargeFault)
      (counted : n = advance s.chg.orderCur formed + advance formed 0) :
      faulted c ∧ noticed := by
    obtain ⟨row, fault, dockFault⟩ := landed
    rw [counted, (countCut h).2] at row
    have out := both row
      (fun d => { d with state := .fault, faultCause := c, helloTimer := none, preTimer := none, balTimer := none, excess := 0 })
      Bleeds.off (by rw [hB]; rfl) (fun _ _ _ _ => rfl) (still (by rintro (no | no) <;> cases no))
    exact ⟨⟨out.1, by rw [e]; exact fault, by rw [e]; exact dockFault⟩, out.2⟩
  have cellFault (yes : valid) (h : cellOver) := by
    have landed := j.cellOver (isValid_ yes) (charges.1 h.1) (by rw [pset]; exact h.2)
    rw [formedIs yes, (countCut (Or.inl h)).1, storedIs yes] at landed
    exact fails yes (Or.inl h) landed rfl
  have low' (no : ¬cellOver) : ¬(p.chg.state.charging = true ∧ p.settings.chgVcell + 50 < r.cells.vmax) := fun h =>
    no ⟨charges.2 h.1, by have high := h.2; rw [pset] at high; exact high⟩
  have pauses (yes : valid) (h : cut) {why : PauseReason} {n : Nat} (landed : Landed ((B s.chg.bleeds).paused why) n 0 p x)
      (counted : n = advance s.chg.orderCur formed + advance formed 0) :
      paused why ∧ noticed := by
    rw [counted, (countCut h).2] at landed
    exact both landed (fun c => { c with state := .paused, pauseReason := why, preTimer := none, balTimer := none, excess := 0 })
      Bleeds.off (by rw [hB]; rfl) (fun _ _ _ _ => rfl) (still (by rintro (no | no) <;> cases no))
  have thermPaused (yes : valid) (no : ¬cellOver) (on : windowed) (therm : r.thermFault = true) := by
    have h : cut := Or.inr (Or.inl ⟨on, Or.inl therm⟩)
    have landed := (j.pauses (isValid_ yes) (low' no) (windows.1 on)).1 therm
    rw [formedIs yes, (countCut h).1, storedIs yes] at landed
    exact pauses yes h landed rfl
  have tempPaused (yes : valid) (no : ¬cellOver) (on : windowed) (therm : r.thermFault = false) (out : outside r.tmin r.tmax = true) := by
    have h : cut := Or.inr (Or.inl ⟨on, Or.inr out⟩)
    have landed := (j.pauses (isValid_ yes) (low' no) (windows.1 on)).2 therm (by rw [pset]; exact out)
    rw [formedIs yes, (countCut h).1, storedIs yes] at landed
    exact pauses yes h landed rfl
  have excessFault (yes : valid) (no : ¬cellOver) (on : charging) (therm : r.thermFault = false) (inside : outside r.tmin r.tmax = false)
      (h : cut) {c : ChargeCause} (cause : p.heardCause r = c) (some_ : c ≠ .none) := by
    have landed := j.excess (isValid_ yes) (charges.1 on) (fun high => low' no ⟨charges.1 on, high⟩) therm (by rw [pset]; exact inside)
      (by rw [cause]; exact some_)
    rw [cause, heardIs yes, countedIs yes, formedIs yes] at landed
    exact fails yes h landed rfl
  have currentFault (yes : valid) (no : ¬cellOver) (therm : r.thermFault = false) (inside : outside r.tmin r.tmax = false) (h : overcurrent) :=
    excessFault yes no h.1 therm inside (Or.inr (Or.inr (Or.inl h))) ((causes yes h.1).1 h.2.1 h.2.2) nofun
  have unheardFault (yes : valid) (no : ¬cellOver) (therm : r.thermFault = false) (inside : outside r.tmin r.tmax = false) (h : unheard) :=
    excessFault yes no h.1 therm inside (Or.inr (Or.inr (Or.inr h)))
      ((causes yes h.1).2.1 h.2.1 h.2.2.1 h.2.2.2.1 h.2.2.2.2) nofun
  -- the transitions of a valid scan
  have transits (yes : valid) (on : ¬cut) : ∃ u, Turned (B s.chg.bleeds) (advance s.chg.orderCur formed) formed p u
      ∧ chargeSteps r (storeLatest r p) = chargeTransition r u := by
    have found := j.transits (r := r) (low' fun h => on (Or.inl h)) (fun w => ?_) fun c => ?_
    · rwa [heardIs yes, countedIs yes, formedIs yes] at found
    · have fine : ¬(r.thermFault = true ∨ outside r.tmin r.tmax = true) := fun h => on (Or.inr (Or.inl ⟨windows.2 w, h⟩))
      rw [pset]
      exact ⟨Bool.eq_false_iff.2 fun h => fine (Or.inl h), Bool.eq_false_iff.2 fun h => fine (Or.inr h)⟩
    · exact (causes yes (charges.2 c)).2.2 (fun h => on (Or.inr (Or.inr (Or.inl h)))) fun h => on (Or.inr (Or.inr (Or.inr h)))
  have stateB (b : Bleeds) : (B b).state = s.chg.state := by rw [hB]
  have ceilB : (B s.chg.bleeds).orderCeil = p.settings.chgVcell := by
    rw [pset, hB]
    exact ceil
  have lands (yes : valid) (rests : s.chg.state ≠ .waitIdle) {c : Charger} {n cur : Nat} (row : Owned c n cur p (chargeSteps r (storeLatest r p))) :
      Landed (c.bled s.settings r) n cur p x := by
    have landed := j.lands (isValid_ yes) (by rw [pstate]; exact rests) row
    rwa [pset] at landed
  have countStays (low : lowered_ = formed) : advance s.chg.orderCur formed = count formed := by
    rw [← countIs low, advance_self, Nat.add_zero]
  have stays (yes : valid) (away : s.chg.state ≠ .waitIdle) {n cur : Nat}
      (own : Owned (B s.chg.bleeds) n cur p (chargeSteps r (storeLatest r p))) (counted : n = count cur) :
      becomes kept cur ∧ noticed := by
    have landed := lands yes away own
    rw [counted] at landed
    by_cases bleeds : s.chg.state = .topoff ∨ s.chg.state = .balance
    · refine both landed (fun c => c) (selectBleeds s.settings.balDelta r.cells) ?_ (fun _ _ _ _ => rfl) ?_
      · rw [bled_on (by rw [stateB]; exact bleeds), hB]
      · exact if_pos ⟨yes, by change (B _).state = _ ∨ (B _).state = _; rw [stateB]; exact bleeds⟩
    · have rest : ¬((B s.chg.bleeds).state = .topoff ∨ (B s.chg.bleeds).state = .balance) := by rw [stateB]; exact bleeds
      rw [bled_of rest] at landed
      exact both landed (fun c => c) Bleeds.off (by rw [offAt bleeds]) (fun _ _ _ _ => rfl) (still rest)
  have fromPrecharge (yes : valid) (on : ¬cut) (st : s.chg.state = .precharge) :
      ((3000 ≤ r.cells.vmin → becomes { kept with state := .bulk, preTimer := none, excess := 0 } bulk)
          ∧ (¬3000 ≤ r.cells.vmin → becomes kept 150))
        ∧ noticed := by
    obtain ⟨u, row, steps⟩ := transits yes on
    obtain ⟨begins, keeps⟩ := transition_precharge (r := r) row ceilB ((stateB _).trans st)
    rw [← steps] at begins keeps
    rw [bulkIs _ (by rw [hB]) (by rw [hB])] at begins
    have off := offAt (by rw [st]; decide)
    have low := lowIs fun h => by cases st.symm.trans h.2.1
    have away : s.chg.state ≠ .waitIdle := by rw [st]; nofun
    by_cases enough : 3000 ≤ r.cells.vmin
    · have landed := lands yes away (begins enough)
      rw [bled_of (by rintro (no | no) <;> cases no), countIs low, off] at landed
      have out := both landed (fun c => { c with state := .bulk, preTimer := none, excess := 0 }) Bleeds.off rfl
        (fun _ _ _ _ => rfl) (still (by rintro (no | no) <;> cases no))
      exact ⟨⟨fun _ => out.1, fun no => absurd enough no⟩, out.2⟩
    · have is150 : formed = 150 := by
        rw [stands (by rw [st]; nofun), forms]
        unfold State.formedCurrent
        rw [st]
      have out := stays yes away (keeps enough) (countStays low)
      rw [is150] at out
      exact ⟨⟨fun no => absurd no enough, fun _ => out.1⟩, out.2⟩
  have fromBulk (yes : valid) (on : ¬cut) (st : s.chg.state = .bulk) :
      ((s.settings.chgVcell ≤ r.cells.vmax → becomes { kept with state := .topoff, excess := 0 } bulk)
          ∧ (¬s.settings.chgVcell ≤ r.cells.vmax → becomes kept bulk))
        ∧ noticed := by
    obtain ⟨u, row, steps⟩ := transits yes on
    obtain ⟨tops, keeps⟩ := transition_bulk (r := r) row ceilB ((stateB _).trans st)
    have low := lowIs fun h => by cases st.symm.trans h.2.1
    have away : s.chg.state ≠ .waitIdle := by rw [st]; nofun
    have isBulk : formed = bulk := if_pos st
    rw [← steps, pset] at tops keeps
    by_cases full : s.settings.chgVcell ≤ r.cells.vmax
    · have landed := lands yes away (tops full)
      rw [countStays low, isBulk] at landed
      have out := both landed (fun c => { c with state := .topoff, excess := 0 }) (selectBleeds s.settings.balDelta r.cells)
        (by rw [bled_on (Or.inl rfl), hB]; rfl) (fun _ _ _ _ => rfl) (if_pos ⟨yes, Or.inl rfl⟩)
      exact ⟨⟨fun _ => out.1, fun no => absurd full no⟩, out.2⟩
    · have out := stays yes away (keeps full) (countStays low)
      rw [isBulk] at out
      exact ⟨⟨fun no => absurd no full, fun _ => out.1⟩, out.2⟩
  have fromTopoff (yes : valid) (on : ¬cut) (st : s.chg.state = .topoff) :
      ((s.settings.termI < lowered_ → becomes kept lowered_)
          ∧ (¬s.settings.termI < lowered_ →
            (s.settings.balDelta < spread → becomes { kept with state := .balance, balTimer := some (t.now + 7200000000), excess := 0 } 0)
              ∧ (¬s.settings.balDelta < spread → becomes { kept with state := .done, balTimer := none, excess := 0 } 0)))
        ∧ noticed := by
    obtain ⟨u, row, steps⟩ := transits yes on
    have away : s.chg.state ≠ .waitIdle := by rw [st]; nofun
    have low : lowered p.settings r formed = lowered_ := by
      rw [pset]
      by_cases full : s.settings.chgVcell ≤ r.cells.vmax
      · exact (if_pos full).trans (if_pos ⟨yes, st, on, full⟩).symm
      · exact (if_neg full).trans (if_neg fun h => full h.2.2.2).symm
    obtain ⟨goesOn, ends⟩ := transition_topoff (r := r) row ceilB ((stateB _).trans st) low rfl
    rw [← steps, pset] at goesOn ends
    by_cases goes : s.settings.termI < lowered_
    · have out := stays yes away (goesOn goes) (by rw [hcount, advance_self, Nat.add_zero])
      exact ⟨⟨fun _ => out.1, fun no => absurd goes no⟩, out.2⟩
    obtain ⟨balances, fills⟩ := ends goes
    by_cases wide : s.settings.balDelta < spread
    · have landed := lands yes away (balances wide)
      rw [← hcount] at landed
      have out := both landed (fun c => { c with state := .balance, balTimer := some (t.now + 7200000000), excess := 0 })
        (selectBleeds s.settings.balDelta r.cells) (by rw [bled_on (Or.inr rfl), hB, pnow']; rfl) (fun _ _ _ _ => rfl)
        (if_pos ⟨yes, Or.inr rfl⟩)
      exact ⟨⟨fun no => absurd no goes, fun _ => ⟨fun _ => out.1, fun no => absurd wide no⟩⟩, out.2⟩
    · have landed := lands yes away (fills wide)
      rw [bled_of (by rintro (no | no) <;> cases no), ← hcount] at landed
      have out := both landed (fun c => { c with state := .done, balTimer := none, excess := 0 }) Bleeds.off (by rw [hB]; rfl)
        (fun _ _ _ _ => rfl) (still (by rintro (no | no) <;> cases no))
      exact ⟨⟨fun no => absurd no goes, fun _ => ⟨fun no => absurd no wide, fun _ => out.1⟩⟩, out.2⟩
  have fromBalance (yes : valid) (on : ¬cut) (st : s.chg.state = .balance) :
      ((spread ≤ s.settings.balDelta / 2 → becomes { kept with state := .done, balTimer := none, excess := 0 } 0)
          ∧ (¬spread ≤ s.settings.balDelta / 2 → becomes kept 0))
        ∧ noticed := by
    obtain ⟨u, row, steps⟩ := transits yes on
    obtain ⟨fills, keeps⟩ := transition_balance (r := r) row ceilB ((stateB _).trans st)
    have low := lowIs fun h => by cases st.symm.trans h.2.1
    have away : s.chg.state ≠ .waitIdle := by rw [st]; nofun
    have formed0 : formed = 0 := by
      rw [stands (by rw [st]; nofun)]
      refine zero ?_
      change ¬(s.chg.state = _ ∨ s.chg.state = _ ∨ s.chg.state = _)
      rw [st]
      decide
    rw [← steps, pset] at fills keeps
    by_cases even : spread ≤ s.settings.balDelta / 2
    · have landed := lands yes away (fills even)
      rw [bled_of (by rintro (no | no) <;> cases no), countIs low] at landed
      have out := both landed (fun c => { c with state := .done, balTimer := none, excess := 0 }) Bleeds.off (by rw [hB]; rfl)
        (fun _ _ _ _ => rfl) (still (by rintro (no | no) <;> cases no))
      exact ⟨⟨fun _ => out.1, fun no => absurd even no⟩, out.2⟩
    · have out := stays yes away (keeps even) (countStays low)
      rw [formed0] at out
      exact ⟨⟨fun no => absurd no even, fun _ => out.1⟩, out.2⟩
  have free (st : s.chg.state = .done ∨ s.chg.state = .paused) : ¬charging ∧ s.arb.path ≠ .charge ∧ s.chg.bleeds = Bleeds.off := by
    have rests : ¬charging := by
      change ¬(s.chg.state = _ ∨ s.chg.state = _ ∨ s.chg.state = _)
      rcases st with st | st <;> rw [st] <;> decide
    refine ⟨rests, fun h => ?_, offAt (by rcases st with st | st <;> rw [st] <;> decide)⟩
    obtain ⟨-, holds, -⟩ := ok
    exact rests ((charging_iff _).1 (holds.1 h))
  have away (st : s.chg.state = .done ∨ s.chg.state = .paused) : p.arb.path ≠ .charge := fun h => by
    have on := j.holds.1 h
    rw [pstate] at on
    exact (free st).1 ((charging_iff _).1 on)
  have flat (rests : ¬charging) : formed = 0 ∧ advance s.chg.orderCur formed = 0 := by
    have formed0 : formed = 0 := (stands fun h => rests (Or.inr (Or.inl h))).trans (zero rests)
    exact ⟨formed0, by rw [formed0, zero rests, advance_self]⟩
  have fromDone (yes : valid) (on : ¬cut) (st : s.chg.state = .done) :
      ((r.cells.vmax + s.settings.rechargeDrop < s.settings.chgVcell → requested s.chg.pauseReason)
          ∧ (¬r.cells.vmax + s.settings.rechargeDrop < s.settings.chgVcell → becomes kept 0))
        ∧ noticed := by
    obtain ⟨rests, -, off⟩ := free (Or.inl st)
    obtain ⟨u, row, steps⟩ := transits yes on
    obtain ⟨formed0, none_⟩ := flat rests
    have low := lowIs fun h => by cases st.symm.trans h.2.1
    rw [transition_done row ((stateB _).trans st), pset] at steps
    by_cases drained : r.cells.vmax + s.settings.rechargeDrop < s.settings.chgVcell
    · rw [if_pos drained] at steps
      rw [none_, formed0] at row
      have after := j.valid (isValid_ yes)
      rw [steps] at after
      have out := asks rests (by rw [off, hB]) (row.requests ceilB (away (Or.inl st)) after)
      exact ⟨⟨fun _ => out.1, fun no => absurd drained no⟩, out.2⟩
    · rw [if_neg drained] at steps
      have own := row.owned
      rw [← steps] at own
      have out := stays yes (by rw [st]; nofun) own (countStays low)
      rw [formed0] at out
      exact ⟨⟨fun no => absurd no drained, fun _ => out.1⟩, out.2⟩
  have fromPaused (yes : valid) (on : ¬cut) (st : s.chg.state = .paused) :
      ((resumable s.settings r = true → requested .none) ∧ (¬resumable s.settings r = true → becomes kept 0))
        ∧ noticed := by
    obtain ⟨rests, -, off⟩ := free (Or.inr st)
    obtain ⟨u, row, steps⟩ := transits yes on
    obtain ⟨formed0, none_⟩ := flat rests
    have low := lowIs fun h => by cases st.symm.trans h.2.1
    rw [transition_paused row ((stateB _).trans st), pset] at steps
    by_cases resumes : resumable s.settings r = true
    · rw [if_pos resumes] at steps
      have row' := row.chg (e := { B s.chg.bleeds with pauseReason := .none }) rfl
      have is_ : ({ u.chg with pauseReason := .none } : Charger)
          = Charger.advanced (advance s.chg.orderCur formed) formed p.now { B s.chg.bleeds with pauseReason := .none } := by
        rw [row.1.1]
        rfl
      rw [← is_, none_, formed0] at row'
      have after := j.valid (isValid_ yes)
      rw [steps] at after
      have out := asks rests (by rw [off, hB]) (row'.requests ceilB (away (Or.inr st)) after)
      exact ⟨⟨fun _ => out.1, fun no => absurd resumes no⟩, out.2⟩
    · rw [if_neg resumes] at steps
      have own := row.owned
      rw [← steps] at own
      have out := stays yes (by rw [st]; nofun) own (countStays low)
      rw [formed0] at out
      exact ⟨⟨fun no => absurd no resumes, fun _ => out.1⟩, out.2⟩
  have fromRest (yes : valid) (on : ¬cut) (st : s.chg.state = .qualify ∨ s.chg.state = .fault ∨ s.chg.state = .absent) :
      becomes kept 0 ∧ noticed := by
    have rests : ¬charging := by
      change ¬(s.chg.state = _ ∨ s.chg.state = _ ∨ s.chg.state = _)
      rcases st with st | st | st <;> rw [st] <;> decide
    obtain ⟨u, row, steps⟩ := transits yes on
    have low := lowIs fun h => rests (Or.inr (Or.inr h.2.1))
    rw [transition_rests row (by rw [stateB]; rcases st with st | st | st <;> rw [st] <;> decide)] at steps
    have own := row.owned
    rw [← steps] at own
    have out := stays yes (by rcases st with st | st | st <;> rw [st] <;> nofun) own (countStays low)
    rw [(flat rests).1] at out
    exact out
  have notices : noticed := by
    by_cases wait : s.chg.state = .waitIdle
    · exact (waiting wait).2
    by_cases yes : valid
    · by_cases over_ : cellOver
      · exact (cellFault yes over_).2
      by_cases on : cut
      · by_cases warm : windowed ∧ (r.thermFault = true ∨ outside r.tmin r.tmax = true)
        · by_cases therm : r.thermFault = true
          · exact (thermPaused yes over_ warm.1 therm).2
          · exact (tempPaused yes over_ warm.1 (Bool.eq_false_iff.2 therm) (warm.2.resolve_left therm)).2
        · have fine (c : charging) : r.thermFault = false ∧ outside r.tmin r.tmax = false :=
            ⟨Bool.eq_false_iff.2 fun h => warm ⟨Or.inl c, Or.inl h⟩, Bool.eq_false_iff.2 fun h => warm ⟨Or.inl c, Or.inr h⟩⟩
          rcases on with no | no | many | many
          · exact absurd no over_
          · exact absurd no warm
          · exact (currentFault yes over_ (fine many.1).1 (fine many.1).2 many).2
          · exact (unheardFault yes over_ (fine many.1).1 (fine many.1).2 many).2
      cases st : s.chg.state with
      | precharge => exact (fromPrecharge yes on st).2
      | bulk => exact (fromBulk yes on st).2
      | topoff => exact (fromTopoff yes on st).2
      | balance => exact (fromBalance yes on st).2
      | done => exact (fromDone yes on st).2
      | paused => exact (fromPaused yes on st).2
      | qualify => exact (fromRest yes on (Or.inl st)).2
      | fault => exact (fromRest yes on (Or.inr (Or.inl st))).2
      | absent => exact (fromRest yes on (Or.inr (Or.inr st))).2
      | waitIdle => exact absurd st wait
    · by_cases third : windowed ∧ r.invalidCount = 3
      · exact (scanPaused yes third.1 third.2).2
      · exact (silentStays yes third wait).2
  have paths (on : charging) := receiveScan_charging (r := r) qok (by rw [qchg, charging_iff]; exact on)
  rw [← hx, qarb] at paths
  have tarb : t.arb = x.arb := by rw [e]
  have tsuc : t.suc = x.suc := by rw [e]
  have tmen : t.men = x.men := by
    unfold State.men
    rw [tarb, tsuc]
  rw [← tarb, ← tsuc, ← tmen] at paths
  obtain ⟨-, holdsT, -⟩ := tok
  refine ⟨fun no on third => (scanPaused no on third).1, fun no on rests => (silentStays no on rests).1, fun wait => (waiting wait).1,
    fun yes on => (cellFault yes on).1, fun yes no on therm => (thermPaused yes no on therm).1,
    fun yes no on therm out => (tempPaused yes no on therm out).1, fun yes no therm inside on => (currentFault yes no therm inside on).1,
    fun yes no therm inside on => (unheardFault yes no therm inside on).1,
    fun yes on => ⟨fun st => ?_, fun st => ?_, fun st => ?_, fun st => ?_, fun st => ?_, fun st => ?_, fun st => (fromRest yes on st).1⟩,
    notices.1, notices.2, fun on after => ?_, fun on after => ?_⟩
  · rw [ite_prop_iff_and]
    exact (fromPrecharge yes on st).1
  · rw [ite_prop_iff_and]
    exact (fromBulk yes on st).1
  · rw [ite_prop_iff_and, ite_prop_iff_and]
    exact (fromTopoff yes on st).1
  · rw [ite_prop_iff_and]
    exact (fromBalance yes on st).1
  · rw [ite_prop_iff_and]
    exact (fromDone yes on st).1
  · rw [ite_prop_iff_and, ← resumable_iff]
    exact (fromPaused yes on st).1
  · have mine := holdsT.2 after
    rcases paths on with ⟨-, wait⟩ | ⟨no, -⟩
    · refine ⟨mine, wait, ?_⟩
      unfold State.chgg
      rw [after, mine]
      rfl
    · exact absurd mine no
  · rcases paths on with ⟨mine, -⟩ | ⟨-, gone, idle, starts⟩
    · rw [holdsT.1 mine] at after
      cases after
    · refine ⟨?_, gone, idle, starts⟩
      unfold State.chgg
      rw [after]
      rfl

end Sys2Proof.Machine
end

section
/-! PROOFS. A soft reset (10 R183). -/

namespace Sys2Proof.Machine

/-- Every block after a soft reset, but for BIN_FULL (10 R183). -/
def State.wiped (s : State) (b : Bin) : State :=
  { s with
    smp := s.smp.softReset s.now
    alw := s.alw.softReset
    arb := ⟨freeAll, [], [], 0, 0, 0, 0, false, false, 0, .idle, none⟩
    suc := Suction.softReset s.now
    head := Head.unpowered
    dirt := s.dirt.softReset
    bin := b
    acct := s.acct.softReset
    chg := s.chg.softReset
    ports := s.ports.softReset
    settings := Settings.defaults
    pwr := { s.pwr with entry := .none, deepTimer := none } }

/-- Every block after a soft reset, as the recomputation finds it. -/
def State.wiping (s : State) (b : Bin) : State :=
  { s.wiped b with arb := { s.arb.dropBoth with path := .idle, waiting := none, shortS := false, shortH := false } }

theorem recompute_wiping (s : State) (b : Bin) : recompute (s.wiping b) = s.wiped b := by
  have noS : (s.wiping b).demandS = 0 := demandS_rest rfl
  have grantS : (s.wiping b).grantS = 0 := by
    unfold State.grantS
    rw [noS, Nat.zero_min]
  have grantH : (s.wiping b).grantH = 0 := Nat.zero_min _
  have formed : (s.wiping b).formGrants = (s.wiped b).arb := by
    unfold State.formGrants
    rw [noS, grantS, grantH]
    rfl
  unfold recompute
  rw [formed, grantS]
  rfl

theorem softReset_eq (s : State) :
    softReset s = raiseIfFull (s.bin.softReset s.now s.settings).2 (s.wiped (s.bin.softReset s.now s.settings).1) := by
  rw [← recompute_wiping]
  rfl

/-! ## The gauge after a soft reset (06 R122, R123) -/

/-- The gauge with its measurement and its timers reset, before the defaults reach it. -/
def Bin.cancelled (now : Nat) (b : Bin) : Bin :=
  { b with meas := none, lastTry := b.tryBefore, calPending := false, latchTimer := some (now + 20000) }

theorem binReset_kept {old : Settings} (same : old.refwin = 1024 ∧ old.double = false) (now : Nat) (b : Bin) :
    b.softReset now old = (b.cancelled now).reform 160 90 := if_pos same

theorem binReset_dropped {old : Settings} (moved : ¬(old.refwin = 1024 ∧ old.double = false)) (now : Nat) (b : Bin) :
    b.softReset now old = ((b.cancelled now).uncalibrate, false) := if_neg moved

theorem reform_frame (ratio pct : Nat) (b : Bin) :
    (b.reform ratio pct).1 = { b with cal := (b.reform ratio pct).1.cal, state := (b.reform ratio pct).1.state } := by
  unfold Bin.reform
  cases b.cal <;> rfl

/-! ## SOFT_RESET served -/

/-- The handle notices after a soft reset: BIN_FULL alone, where the gauge has raised it. -/
def fullNotes (full : Bool) : BitVec 15 := if full then HandleNotice.binFull.bit else 0#15

theorem raiseIfFull_notes (full : Bool) {s : State} (clear : s.ports.handleNotes = 0#15) :
    raiseIfFull full s = { s with ports := { s.ports with handleNotes := fullNotes full } } := by
  cases full with
  | false =>
    change s = { s with ports := { s.ports with handleNotes := 0#15 } }
    rw [← clear]
  | true =>
    change raiseHandle .binFull s = _
    rw [raiseHandle_eq, raiseHandle_ports, clear, BitVec.zero_or]
    rfl

theorem serve_softReset (tag : Byte) (s : State) : serve .handle ⟨ReqKind.softReset.byte, tag, []⟩ s = ⟨softReset s, .ok, []⟩ := rfl

/-- What SOFT_RESET's service leaves: every block wiped, its response READY at the handle port (09 R173). -/
def State.resetAnswered (s : State) (tag : Byte) (b : Bin) (full : Bool) : State :=
  { s.wiped b with
    ports :=
      { s.ports.softReset with
        handleNotes := fullNotes full
        handle :=
          { s.ports.handle with
            queue := [], slot := .answerReady, buf := frame (statusByte .ok (fullNotes full != 0#15)) tag [] } } }

theorem handleServe_softReset (tag : Byte) (s : State) :
    handleServe ⟨ReqKind.softReset.byte, tag, []⟩ s
      = s.resetAnswered tag (s.bin.softReset s.now s.settings).1 (s.bin.softReset s.now s.settings).2 := by
  unfold handleServe
  rw [serve_softReset, softReset_eq]
  generalize s.bin.softReset s.now s.settings = b
  rw [raiseIfFull_notes b.2 (s := s.wiped b.1) rfl]
  rfl

theorem accountReset_eq (a : Account) :
    a.softReset
      = { a with
          session := false, learning := a.learning && !a.session, qUnder := false, qOver := false, lastI := none, iavg := 0
          fcc := max 1250 (min 2750 a.fcc), q := min a.q (max 1250 (min 2750 a.fcc))
          cycles := min 65535 (a.cycles + a.discharged / max 1250 (min 2750 a.fcc))
          discharged := a.discharged % max 1250 (min 2750 a.fcc) } := by
  have held : holdFcc Settings.defaults.designCap a.fcc = max 1250 (min 2750 a.fcc) := by
    unfold holdFcc clampInt
    change (max ((1250 : Nat) : Int) (min ((2750 : Nat) : Int) (a.fcc : Int))).toNat = _
    omega
  unfold Account.softReset
  dsimp only
  rw [closeSession_eq, applyDesignCap_fields (by decide)]
  dsimp only
  rw [held]

/-- The gauge of a calibrated bin after a soft reset under the default REFWIN and DOUBLE (06 R122). -/
theorem binReset_calibrated {old : Settings} (same : old.refwin = 1024 ∧ old.double = false) (now : Nat) {b : Bin} {c : Calibration}
    (cal : b.cal = some c) :
    b.softReset now old
      = ({ b.cancelled now with
            cal := some ⟨c.baseline, c.baseline * 160 / 256, c.refilled 160 b.lastCount⟩
            state := (judgeFill 90 (c.refilled 160 b.lastCount) b.state).1 },
          (judgeFill 90 (c.refilled 160 b.lastCount) b.state).2) := by
  rw [binReset_kept same, reform_some (b := b.cancelled now) (c := c) cal]
  rfl

theorem binReset_uncalibrated {old : Settings} (same : old.refwin = 1024 ∧ old.double = false) (now : Nat) {b : Bin} (cal : b.cal = none) :
    b.softReset now old = (b.cancelled now, false) := by
  rw [binReset_kept same, reform_none (b := b.cancelled now) cal]

/-- The measurement is cancelled whatever becomes of the calibration (06 R123). -/
theorem binReset_frame (old : Settings) (now : Nat) (b : Bin) :
    (b.softReset now old).1 = { b.cancelled now with cal := (b.softReset now old).1.cal, state := (b.softReset now old).1.state } := by
  by_cases same : old.refwin = 1024 ∧ old.double = false
  · rw [binReset_kept same]
    exact reform_frame _ _ _
  · rw [binReset_dropped same]
    rfl

/-- BIN_FULL is raised for a full bin alone. -/
theorem binReset_raises {old : Settings} {now : Nat} {b : Bin} (raised : (b.softReset now old).2 = true) :
    (b.softReset now old).1.state = .full := by
  by_cases same : old.refwin = 1024 ∧ old.double = false
  · rw [binReset_kept same] at raised ⊢
    exact ((reform_fullRaised _ _ _).1 raised).1
  · rw [binReset_dropped same] at raised
    cases raised

/-- Settles O60: the state a soft reset forms, block by block. -/
theorem softResetRestores : Obligations.SoftResetRestores := by
  intro dt tag s open_
  obtain ⟨u, hu⟩ : ∃ u, u = s.atHandle dt := ⟨_, rfl⟩
  obtain ⟨b, hb⟩ : ∃ b, b = s.bin.softReset (s.now + dt) s.settings := ⟨_, rfl⟩
  have frame_ : u = { s with now := s.now + dt, pwr := { s.pwr with entry := u.pwr.entry }, gens := u.gens } := hu ▸ atHandle_frame s dt
  have served : handleServe ⟨ReqKind.softReset.byte, tag, []⟩ u = u.resetAnswered tag b.1 b.2 := by
    rw [handleServe_softReset, hb, frame_]
  obtain ⟨t, ht⟩ : ∃ t, t = event (handleServe ⟨ReqKind.softReset.byte, tag, []⟩) u := ⟨_, rfl⟩
  have row : exec (.softReset dt .handle tag []) s = .next t := by
    rw [ht, hu]
    exact exec_row_handle .softReset dt tag [] open_ (by decide)
  obtain ⟨g, l, e⟩ : ∃ g l, t = { u.resetAnswered tag b.1 b.2 with gens := g, smp := { u.smp.softReset u.now with lastSwitch := l } } := by
    rw [ht]
    unfold event
    rw [served]
    exact ⟨_, _, rfl⟩
  have kept : u.now = s.now + dt ∧ u.alw = s.alw ∧ u.dirt = s.dirt ∧ u.acct = s.acct ∧ u.chg = s.chg ∧ u.ports = s.ports
      ∧ u.trigLine = s.trigLine ∧ u.latchLine = s.latchLine ∧ u.choices = s.choices ∧ u.pending = s.pending
      ∧ u.pwr = { s.pwr with entry := u.pwr.entry } := by
    rw [frame_]
    exact ⟨rfl, rfl, rfl, rfl, rfl, rfl, rfl, rfl, rfl, rfl, rfl⟩
  obtain ⟨now, alw, dirt, acct, chg, ports, trig, latch, choices, pending, pwr⟩ := kept
  have account : t.acct = s.acct.softReset := by rw [e, ← acct]; rfl
  rw [accountReset_eq] at account
  have bin : t.bin = { s.bin.cancelled (s.now + dt) with cal := b.1.cal, state := b.1.state } := by
    rw [e, hb, ← binReset_frame]
    rfl
  have notes : t.ports.handleNotes = fullNotes b.2 := by rw [e]; rfl
  have charger : t.chg = s.chg.softReset := by rw [e, ← chg]; rfl
  have time : t.now = s.now + dt := by rw [e, ← now]; rfl
  have kept_ (same : s.settings.refwin = 1024 ∧ s.settings.double = false) (c : Calibration) (cal : s.bin.cal = some c) :
      let full := c.baseline * 160 / 256
      let fill :=
        match s.bin.lastCount with
        | none => c.fill
        | some n => if c.baseline ≤ n then 0 else min 100 ((c.baseline - n) * 100 / (c.baseline - full))
      t.bin.cal = some ⟨c.baseline, full, fill⟩
        ∧ t.bin.state
          = (if s.bin.state = .ready ∧ 90 ≤ fill then .full else if s.bin.state = .full ∧ fill + 10 < 90 then .ready else s.bin.state)
        ∧ (s.bin.state = .ready → 90 ≤ fill → t.noted .binFull) := by
    intro full fill
    have fillIs : c.refilled 160 s.bin.lastCount = fill := by
      unfold Calibration.refilled fillOf fullCount
      cases last : s.bin.lastCount <;> simp only [fill, full, last]
    have formed := binReset_calibrated same (s.now + dt) cal
    rw [← hb, fillIs] at formed
    have state : t.bin.state = (judgeFill 90 fill s.bin.state).1 := by rw [bin, formed]
    refine ⟨by rw [bin, formed], state.trans (judgeFill_calls _ _ _), fun ready enough => ?_⟩
    have raised : b.2 = true := by
      rw [formed, ready]
      exact judgeFill_raises (by rw [judgeFill_calls, if_pos ⟨rfl, enough⟩])
    change t.ports.handleNotes &&& _ = _
    rw [notes, raised]
    exact BitVec.and_self
  have gauge (same : s.settings.refwin = 1024 ∧ s.settings.double = false) :
      t.bin.cal.map (·.baseline) = s.bin.cal.map (·.baseline) ∧ (s.bin.cal = none → t.bin.state = s.bin.state) := by
    cases cal : s.bin.cal with
    | none =>
      have formed := binReset_uncalibrated same (s.now + dt) cal
      rw [← hb] at formed
      rw [bin, formed]
      exact ⟨congrArg _ cal, fun _ => rfl⟩
    | some c =>
      rw [(kept_ same c cal).1]
      exact ⟨rfl, nofun⟩
  have dropped (moved : ¬(s.settings.refwin = 1024 ∧ s.settings.double = false)) :
      t.bin.cal = none ∧ t.bin.state = if s.bin.state = .detached then .detached else .uncal := by
    have formed := binReset_dropped moved (s.now + dt) s.bin
    rw [← hb] at formed
    rw [bin, formed]
    exact ⟨rfl, rfl⟩
  have raises : t.ports.handleNotes = 0 ∨ (t.ports.handleNotes = HandleNotice.binFull.bit ∧ t.bin.state = .full) := by
    rw [notes]
    cases raised : b.2 with
    | false => exact Or.inl rfl
    | true =>
      refine Or.inr ⟨rfl, ?_⟩
      rw [bin]
      rw [hb] at raised ⊢
      exact binReset_raises raised
  have answer : t.ports.handle
      = { s.ports.handle with
          slot := .answerReady, buf := frame (statusByte .ok (t.notePending .handle)) tag [], queue := [] } := by
    rw [show t.notePending .handle = (fullNotes b.2 != 0#15) from congrArg (· != 0#15) notes, e, ← ports]
    rfl
  refine ⟨t, row, time, ?_, by rw [e, ← alw]; rfl, by rw [e]; rfl, ?_, by rw [e]; rfl, by rw [e, ← dirt]; rfl, by rw [e]; rfl,
    by rw [bin]; rfl, by rw [bin, time]; rfl, by rw [bin]; rfl, by rw [bin]; rfl, by rw [bin]; rfl, by rw [bin]; rfl, by rw [bin]; rfl,
    by rw [bin]; rfl, by rw [bin]; rfl, fun same => ⟨(gauge same).1, (gauge same).2, kept_ same⟩, dropped, ?_⟩
  · rw [e]
    rfl
  · rw [time, ← now, e]
    rfl
  refine ⟨by rw [account], by rw [account], by rw [account], by rw [account], by rw [account], by rw [account], by rw [account],
    by rw [account], by rw [account], by rw [account], by rw [account], by rw [account], by rw [account], by rw [account], by rw [account],
    by rw [charger]; rfl, by rw [charger]; rfl, answer, by rw [e, ← ports]; rfl, by rw [e, ← ports]; rfl, by rw [e]; rfl, by rw [e]; rfl, raises,
    ?_, by rw [e]; rfl, by rw [e]; rfl, by rw [e, ← trig]; rfl, by rw [e, ← latch]; rfl, by rw [e, ← choices]; rfl, by rw [e, ← pending]; rfl⟩
  have awake : s.pwr.awake = true := open_.1
  rw [e]
  change ({ u.pwr with entry := .none, deepTimer := none } : Power) = _
  rw [pwr, ← awake]

end Sys2Proof.Machine
end

section
/-! PROOFS. O24: a record's generation advances exactly when an event changes the record. -/

namespace Sys2Proof.Machine

/-! ## What leaves every record alone -/

/-- No record moves, whatever the moment it is read at; no generation advances, and the shelf entry stands. -/
def Quiet (s t : State) : Prop :=
  t.gens = s.gens ∧ t.pwr.entry = s.pwr.entry
    ∧ ∀ now r page, recordBytes r page { t with now := now } = recordBytes r page { s with now := now }

theorem Quiet.refl (s : State) : Quiet s s := ⟨rfl, rfl, fun _ _ _ => rfl⟩

theorem Quiet.trans {s t u : State} (h : Quiet s t) (k : Quiet t u) : Quiet s u :=
  ⟨k.1.trans h.1, k.2.1.trans h.2.1, fun now r page => (k.2.2 now r page).trans (h.2.2 now r page)⟩

/-- Time, ports, the free choices and the queue are in no record. -/
theorem quiet_around (s : State) (now : Nat) (ports : Ports) (choices : Nat) (pending : List Instr) :
    Quiet s { s with now := now, ports := ports, choices := choices, pending := pending } :=
  ⟨rfl, rfl, fun _ r _ => by cases r <;> rfl⟩

theorem elapse_quiet (s : State) (dt : Nat) : Quiet s (s.elapse dt) := quiet_around s _ s.ports s.choices s.pending

theorem reach_quiet (s : State) (d : Nat) : Quiet s (s.reach d) := quiet_around s _ s.ports s.choices s.pending

theorem ports_quiet (s : State) (ports : Ports) : Quiet s { s with ports := ports } :=
  quiet_around s s.now ports s.choices s.pending

theorem setWire_quiet (w : Wire) (p : WirePort) (s : State) : Quiet s (s.setWire w p) := by
  cases w <;> exact ports_quiet s _

/-- Neither the lines nor their debounce timers are in a record. -/
theorem lines_quiet (s : State) (trig latch : Bool) (trigTimer latchTimer : Option Nat) :
    Quiet s
      { s with
        trigLine := trig, latchLine := latch, suc := { s.suc with trigTimer := trigTimer }
        bin := { s.bin with latchTimer := latchTimer } } :=
  ⟨rfl, rfl, fun _ r _ => by cases r <;> rfl⟩

/-- A scan's schedule is in no record. -/
theorem phase_quiet (s : State) (phase : ScanPhase) : Quiet s { s with smp := { s.smp with phase := phase } } :=
  ⟨rfl, rfl, fun _ r _ => by cases r <;> rfl⟩

/-! ## One event -/

/-- The record, or the page, that a generation counts. -/
def Counted (r : RecordId) (page : Nat) : Prop := page ≤ 3 ∧ (r ≠ .settings → page = 0)

/-- The record differs at the moment the command ends. -/
def Changed (r : RecordId) (page : Nat) (s t : State) : Prop := recordBytes r page { s with now := t.now } ≠ recordBytes r page t

/-- Every generation advances by one where its record changed, and stands elsewhere. -/
def OneEvent (s t : State) : Prop :=
  ∀ r page, Counted r page →
    (Changed r page s t → generationOf r page t.gens = generationOf r page s.gens + 1#8)
      ∧ (¬Changed r page s t → generationOf r page t.gens = generationOf r page s.gens)

theorem Quiet.oneEvent {s t : State} (h : Quiet s t) : OneEvent s t := fun r page _ =>
  ⟨fun changed => absurd (h.2.2 t.now r page).symm changed, fun _ => by rw [h.1]⟩

/-- What is quiet before an event belongs to it. -/
theorem Quiet.before {s t u : State} (h : Quiet s t) (k : OneEvent t u) : OneEvent s u := by
  intro r page counted
  have same : Changed r page t u ↔ Changed r page s u := by unfold Changed; rw [h.2.2]
  rw [← same, ← h.1]
  exact k r page counted

theorem generationOf_nextGenerations {r : RecordId} {page : Nat} (h : Counted r page) (s t : State) :
    generationOf r page (nextGenerations s t) = nextGeneration r page s t := by
  obtain ⟨bound, only⟩ := h
  cases r with
  | settings =>
    match page, bound with
    | 0, _ => simp only [generationOf, nextGenerations]
    | 1, _ => simp only [generationOf, nextGenerations]
    | 2, _ => simp only [generationOf, nextGenerations]
    | 3, _ => simp only [generationOf, nextGenerations]
  | _ =>
    obtain rfl := only (by simp)
    simp only [generationOf, nextGenerations]

/-- The note that an event makes of itself is in no record. -/
theorem recordBytes_event (r : RecordId) (page : Nat) (f : State → State) (s : State) :
    recordBytes r page (event f s) = recordBytes r page (f s) := by cases r <;> rfl

theorem recordBytes_event_at (r : RecordId) (page now : Nat) (f : State → State) (s : State) :
    recordBytes r page { event f s with now := now } = recordBytes r page { f s with now := now } := by cases r <;> rfl

/-- What advances no generation by itself is one event. -/
theorem event_one {f : State → State} {s : State} (gens : (f s).gens = s.gens) : OneEvent s (event f s) := by
  intro r page counted
  have next : generationOf r page (event f s).gens = nextGeneration r page { s with now := (f s).now } (f s) :=
    generationOf_nextGenerations counted _ _
  unfold Changed
  rw [recordBytes_event, next, ← gens]
  exact ⟨fun changed => if_neg changed, fun same => if_pos (not_not.1 same)⟩

theorem event_work {f : State → State} {s : State} (h : Work s (f s)) : OneEvent s (event f s) := event_one h.onward.2.1

/-- An event that does nothing advances nothing. -/
theorem event_quiet {f : State → State} {s : State} (h : f s = s) : Quiet s (event f s) := by
  refine ⟨?_, by rw [← congrArg (·.pwr.entry) h]; rfl, fun now r page => ?_⟩
  · change nextGenerations { s with now := (f s).now } (f s) = s.gens
    rw [h]
    simp only [nextGenerations, nextGeneration, if_true]
    rfl
  · rw [recordBytes_event_at, h]

/-! ## The delivery of a SHELF_ENTER's response, an event of its own -/

/-- Nothing but the STATUS record's shelf entry may move, and that only where a request waits for its response to be delivered. -/
def Delivered (s t : State) : Prop :=
  (∀ r page, Counted r page → r ≠ .status ∨ s.pwr.entry ≠ .request false →
      generationOf r page t.gens = generationOf r page s.gens
        ∧ ∀ now, recordBytes r page { t with now := now } = recordBytes r page { s with now := now })
    ∧ OneEvent s t

theorem Quiet.delivered {s t : State} (h : Quiet s t) : Delivered s t :=
  ⟨fun r page _ _ => ⟨by rw [h.1], fun now => h.2.2 now r page⟩, h.oneEvent⟩

theorem Quiet.deliveredBefore {s t u : State} (h : Quiet s t) (k : Delivered t u) : Delivered s u := by
  refine ⟨fun r page counted which => ?_, h.before k.2⟩
  obtain ⟨gens, bytes⟩ := k.1 r page counted (by rwa [h.2.1])
  exact ⟨by rw [gens, h.1], fun now => (bytes now).trans (h.2.2 now r page)⟩

/-- With no request that waits for its delivery nothing is marked. -/
theorem shelfDelivered_same {s : State} (h : s.pwr.entry ≠ .request false) : shelfDelivered s = s := by
  unfold shelfDelivered
  split
  · rename_i d entry
    cases d with
    | false => exact absurd entry h
    | true => rw [← entry]
  · rfl

/-- The mark is in the STATUS record alone. -/
theorem shelfDelivered_bytes {r : RecordId} (other : r ≠ .status) (page now : Nat) (s : State) :
    recordBytes r page { shelfDelivered s with now := now } = recordBytes r page { s with now := now } := by
  unfold shelfDelivered
  split
  · cases r with
    | status => exact absurd rfl other
    | _ => rfl
  · rfl

theorem shelfDelivered_event (s : State) : Delivered s (event shelfDelivered s) := by
  by_cases waits : s.pwr.entry = .request false
  · have one : OneEvent s (event shelfDelivered s) := event_work (shelfDelivered_work s)
    refine ⟨fun r page counted which => ?_, one⟩
    have other : r ≠ .status := which.resolve_right (not_not.2 waits)
    have bytes (now : Nat) :
        recordBytes r page { event shelfDelivered s with now := now } = recordBytes r page { s with now := now } :=
      (recordBytes_event_at r page now shelfDelivered s).trans (shelfDelivered_bytes other page now s)
    exact ⟨(one r page counted).2 (not_not.2 (bytes _).symm), bytes⟩
  · exact (event_quiet (shelfDelivered_same waits)).delivered

/-- An arrival's replacement of what stands: the mark where a response stands, else nothing. -/
theorem replaceAnswer_event (s : State) : Delivered s (event replaceAnswer s) := by
  by_cases stands : s.ports.handle.slot = .answerReady
  · have same : replaceAnswer s = shelfDelivered s := by unfold replaceAnswer; rw [if_pos stands]
    have e : event replaceAnswer s = event shelfDelivered s := by unfold event; rw [same]
    rw [e]
    exact shelfDelivered_event s
  · exact (event_quiet (by unfold replaceAnswer; rw [if_neg stands])).delivered

/-- With no response standing an arrival replaces nothing. -/
theorem replaceAnswer_quiet {s : State} (h : s.ports.handle.slot ≠ .answerReady) : Quiet s (event replaceAnswer s) :=
  event_quiet (by unfold replaceAnswer; rw [if_neg h])

/-- The outgoing side of a transaction: quiet, or a delivery that leaves the slot IDLE. -/
theorem shiftOut_delivered (n : Nat) (s : State) :
    Quiet s (shiftOut n s) ∨ Delivered s (shiftOut n s) ∧ (shiftOut n s).ports.handle.slot = .idle := by
  unfold shiftOut
  dsimp only
  split
  · refine Or.inr ⟨(ports_quiet s _).deliveredBefore (shelfDelivered_event _), ?_⟩
    simp only [event]
    unfold shelfDelivered
    split <;> rfl
  · exact Or.inl (ports_quiet s _)

/-! ## What a command other than a scan's completion notes -/

/-- The statement's two clauses: a change is one advance, but for STATUS where a SHELF_ENTER's delivery may be an event of its own. -/
def Noted (s t : State) : Prop :=
  ∀ r page, Counted r page →
    (r ≠ .status ∨ s.pwr.entry ≠ .request false →
        (Changed r page s t → generationOf r page t.gens = generationOf r page s.gens + 1#8)
          ∧ (¬Changed r page s t → generationOf r page t.gens = generationOf r page s.gens))
      ∧ ∃ n : Nat, n ≤ 2 ∧ (Changed r page s t → n ≠ 0)
        ∧ generationOf r page t.gens = generationOf r page s.gens + BitVec.ofNat 8 n

theorem OneEvent.advances {s t : State} (h : OneEvent s t) {r : RecordId} {page : Nat} (counted : Counted r page) :
    ∃ n : Nat, n ≤ 1 ∧ (Changed r page s t → n ≠ 0)
      ∧ generationOf r page t.gens = generationOf r page s.gens + BitVec.ofNat 8 n := by
  obtain ⟨advances, stands⟩ := h r page counted
  by_cases changed : Changed r page s t
  · exact ⟨1, le_rfl, fun _ => by decide, advances changed⟩
  · exact ⟨0, Nat.zero_le _, fun k => absurd k changed, by rw [stands changed]; exact (BitVec.add_zero _).symm⟩

theorem OneEvent.noted {s t : State} (h : OneEvent s t) : Noted s t := by
  intro r page counted
  obtain ⟨n, bound, advances⟩ := h.advances counted
  exact ⟨fun _ => h r page counted, n, bound.trans (by decide), advances⟩

theorem Quiet.noted {s t : State} (h : Quiet s t) : Noted s t := h.oneEvent.noted

theorem Quiet.notedBefore {s t u : State} (h : Quiet s t) (k : Noted t u) : Noted s u := by
  intro r page counted
  have same : Changed r page t u ↔ Changed r page s u := by unfold Changed; rw [h.2.2]
  rw [← same, ← h.1, ← h.2.1]
  exact k r page counted

/-- The STATUS record shows no time. -/
theorem status_timeless (page now : Nat) (s : State) : recordBytes .status page { s with now := now } = recordBytes .status page s :=
  rfl

/-- A delivery and an event after it: two events for STATUS, one for every other record. -/
theorem Delivered.noted {s t u : State} (h : Delivered s t) (k : OneEvent t u) : Noted s u := by
  intro r page counted
  by_cases which : r ≠ .status ∨ s.pwr.entry ≠ .request false
  · obtain ⟨gens, bytes⟩ := h.1 r page counted which
    have same : Changed r page t u ↔ Changed r page s u := by unfold Changed; rw [bytes]
    obtain ⟨n, bound, advances⟩ := k.advances counted
    rw [← same, ← gens]
    exact ⟨fun _ => k r page counted, n, bound.trans (by decide), advances⟩
  · obtain ⟨status, -⟩ := not_or.1 which
    cases not_not.1 status
    obtain ⟨n, few, first, delivered⟩ := h.2.advances counted
    obtain ⟨m, least, second, served⟩ := k.advances counted
    refine ⟨fun only => absurd only which, n + m, by omega, fun changed none_ => ?_, ?_⟩
    · obtain ⟨nothing, still⟩ := Nat.add_eq_zero_iff.1 none_
      have kept : recordBytes .status page s = recordBytes .status page t := not_not.1 fun d => first d nothing
      have stays : recordBytes .status page t = recordBytes .status page u := not_not.1 fun d => second d still
      exact changed (kept.trans stays)
    · rw [served, delivered, BitVec.add_assoc, BitVec.ofNat_add]

/-! ## The single-wire ports -/

/-- The slot that a service leaves on a wire. -/
theorem wireServe_slot (w : Wire) (r : Request) (s : State) : ((event (wireServe w r) s).wirePort w).slot = .serving := by
  cases w <;> rfl

/-- A byte is quiet, or it is the last of a request that is served. -/
theorem wireByte_noted (w : Wire) (b : Byte) (s : State) :
    Quiet s (wireByte w s b) ∨ OneEvent s (wireByte w s b) ∧ ((wireByte w s b).wirePort w).slot = .serving := by
  unfold wireByte
  dsimp only
  split
  · exact Or.inl (Quiet.refl s)
  · split
    · exact Or.inl (setWire_quiet w _ s)
    · split
      · rename_i r _
        exact Or.inr ⟨event_work (wireServe_work w r s), wireServe_slot w r s⟩
      · exact Or.inl (setWire_quiet w _ s)
      · exact Or.inl (setWire_quiet w _ s)
      · exact Or.inl (setWire_quiet w _ s)

/-- The bytes of one command hold at most one request that is served. -/
theorem wireReceive_one (w : Wire) (bytes : List Byte) (s : State) : OneEvent s (wireReceive w bytes s) := by
  induction bytes generalizing s with
  | nil => exact (Quiet.refl s).oneEvent
  | cons b rest ih =>
    rw [wireReceive_cons]
    rcases wireByte_noted w b s with quiet | ⟨served, slot⟩
    · exact quiet.before (ih _)
    · rw [wireReceive_serving w rest _ (Or.inl slot)]
      exact served

theorem wireArrive_one (w : Wire) (r : Request) (s : State) : OneEvent s (wireArrive w r s) := by
  unfold wireArrive
  dsimp only
  split
  · exact (Quiet.refl s).oneEvent
  · split
    · exact (setWire_quiet w _ s).oneEvent
    · exact event_work (wireServe_work w r s)

/-! ## The handle port -/

/-- During SERVING a request waits; else what stands is replaced, and the request is served. -/
theorem handleArrive_noted (r : Request) (s : State) : Noted s (handleArrive r s) := by
  unfold handleArrive
  split
  · exact (ports_quiet s _).noted
  · exact (replaceAnswer_event s).noted (event_work (handleServe_work r _))

/-- With no response standing an arrival is one event. -/
theorem handleArrive_one (r : Request) {s : State} (h : s.ports.handle.slot ≠ .answerReady) : OneEvent s (handleArrive r s) := by
  unfold handleArrive
  split
  · exact (ports_quiet s _).oneEvent
  · exact (replaceAnswer_quiet h).before (event_work (handleServe_work r _))

theorem answerReady_noted (s : State) : Noted s (answerReady s) := by
  unfold answerReady
  dsimp only
  split
  · exact (ports_quiet s _).noted
  · rename_i r rest _
    refine Quiet.notedBefore ?_ (handleArrive_noted r _)
    exact ports_quiet s _

/-- A transaction delivers what stands, or it replaces what stands undelivered: the delivery is marked once. -/
theorem transact_noted (mosi : List Byte) (s : State) : Noted s (transact mosi s) := by
  have carried (u : State) : shiftIn mosi u = u ∨ ∃ r, shiftIn mosi u = handleArrive r u := by
    unfold shiftIn
    split
    · exact Or.inl rfl
    · split
      · exact Or.inl rfl
      · split
        · exact Or.inr ⟨_, rfl⟩
        · exact Or.inl rfl
  unfold transact
  rcases shiftOut_delivered mosi.length s with quiet | ⟨delivered, idle⟩ <;>
    rcases carried (shiftOut mosi.length s) with none_ | ⟨r, request⟩
  · rw [none_]; exact quiet.noted
  · rw [request]; exact quiet.notedBefore (handleArrive_noted r _)
  · rw [none_]; exact delivered.noted (Quiet.refl _).oneEvent
  · rw [request]; exact delivered.noted (handleArrive_one r (by rw [idle]; decide))

theorem arrive_noted (link : Link) (r : Request) (s : State) : Noted s (arrive link r s) := by
  unfold arrive
  split
  · cases link with
    | handle =>
      dsimp only
      split
      · exact (Quiet.refl s).noted
      · exact handleArrive_noted r s
    | wand => exact (wireArrive_one .wand r s).noted
    | dock => exact (wireArrive_one .dock r s).noted
  · cases link with
    | handle => exact (event_work (wakeUp_work .link s)).noted
    | wand => exact (Quiet.refl s).noted
    | dock => exact (Quiet.refl s).noted

/-! ## Every command -/

/-- The outcome of an event after what is quiet. -/
theorem next_event_noted {f : State → State} {s u : State} (quiet : Quiet s u) (work : Work u (f u)) :
    ∃ t, (.next (event f u) : Host.Outcome State Fault Refusal) = .next t ∧ Noted s t :=
  ⟨_, rfl, (quiet.before (event_work work)).noted⟩

/-- The outcome of what is quiet. -/
theorem next_quiet_noted {s u : State} (quiet : Quiet s u) :
    ∃ t, (.next u : Host.Outcome State Fault Refusal) = .next t ∧ Noted s t := ⟨_, rfl, quiet.noted⟩

theorem exec_row_noted (k : ReqKind) (dt : Nat) (link : Link) (tag : Byte) (p : List Byte) (s : State) :
    ∃ t, exec (k.row dt link tag p) s = .next t ∧ Noted s t :=
  ⟨_, exec_row k dt link tag p s, (elapse_quiet s dt).notedBefore (arrive_noted link _ _)⟩

theorem execShelfEntry_noted (txn : Option (List Byte)) (s : State) :
    ∃ t, execShelfEntry txn s = .next t ∧ Noted s t := by
  have cut : Delivered s (cutTransaction txn s) := by
    unfold cutTransaction
    split
    · exact (Quiet.refl s).delivered
    · rename_i mosi
      exact (shiftOut_delivered mosi.length s).elim Quiet.delivered And.left
  unfold execShelfEntry
  dsimp only
  split
  · rename_i cause _
    exact ⟨_, rfl, cut.noted (event_work (carryShelf_work cause _))⟩
  · exact next_quiet_noted (Quiet.refl s)

/-- TRIG changes its level and restarts its timer. -/
theorem changeTrig_quiet (level : Bool) (s : State) : Quiet s (changeTrig level s) :=
  lines_quiet s level s.latchLine _ s.bin.latchTimer

/-- The line alone. -/
theorem trigLine_quiet (level : Bool) (s : State) : Quiet s { s with trigLine := level } :=
  lines_quiet s level s.latchLine s.suc.trigTimer s.bin.latchTimer

theorem execTrigEdge_noted (dt : Nat) (s : State) : ∃ t, execTrigEdge dt s = .next t ∧ Noted s t := by
  have passes := elapse_quiet s dt
  unfold execTrigEdge
  dsimp only
  split
  · exact next_quiet_noted (passes.trans (changeTrig_quiet _ _))
  · split
    · exact next_quiet_noted (passes.trans (trigLine_quiet _ _))
    · exact next_event_noted (passes.trans (trigLine_quiet _ _)) (wakeUp_work .trig _)

theorem execWake_noted (dt : Nat) (input : WakeInput) (s : State) : ∃ t, execWake dt input s = .next t ∧ Noted s t := by
  have passes := elapse_quiet s dt
  unfold execWake
  cases input with
  | trig =>
    dsimp only
    split
    · exact next_quiet_noted passes
    · split
      · exact next_quiet_noted (passes.trans (changeTrig_quiet _ _))
      · exact next_event_noted (passes.trans (trigLine_quiet _ _)) (wakeUp_work .trig _)
  | dock =>
    dsimp only
    split
    · exact next_quiet_noted passes
    · exact next_event_noted passes (wakeUp_work .dock _)
  | link =>
    dsimp only
    split
    · exact next_quiet_noted passes
    · exact next_event_noted passes (wakeUp_work .link _)

/-- Every command but POWER_ON and a scan's completion notes what it changes. -/
theorem exec_noted (c : Instr) (s : State) (power : c ≠ .powerOn) (scan : ∀ k, c ≠ .scanCompletion k) :
    ∃ t, exec c s = .next t ∧ Noted s t := by
  have reaches (d : Nat) : Quiet s (s.reach d) := reach_quiet s d
  have passes (dt : Nat) : Quiet s (s.elapse dt) := elapse_quiet s dt
  have stands : ∃ t, (.next s : Host.Outcome State Fault Refusal) = .next t ∧ Noted s t := next_quiet_noted (Quiet.refl s)
  cases c with
  | powerOn => exact absurd rfl power
  | scanCompletion k => exact absurd rfl (scan k)
  | softReset dt link tag p => exact exec_row_noted .softReset dt link tag p s
  | ident dt link tag p => exact exec_row_noted .ident dt link tag p s
  | readRec dt link tag p => exact exec_row_noted .readRec dt link tag p s
  | clearNote dt link tag p => exact exec_row_noted .clearNote dt link tag p s
  | writeSet dt link tag p => exact exec_row_noted .writeSet dt link tag p s
  | clearSticky dt link tag p => exact exec_row_noted .clearSticky dt link tag p s
  | shelfEnter dt link tag p => exact exec_row_noted .shelfEnter dt link tag p s
  | claimPush dt link tag p => exact exec_row_noted .claimPush dt link tag p s
  | claimPop dt link tag p => exact exec_row_noted .claimPop dt link tag p s
  | claimReplace dt link tag p => exact exec_row_noted .claimReplace dt link tag p s
  | claimDrop dt link tag p => exact exec_row_noted .claimDrop dt link tag p s
  | lockOn dt link tag p => exact exec_row_noted .lockOn dt link tag p s
  | lockOff dt link tag p => exact exec_row_noted .lockOff dt link tag p s
  | binMeasure dt link tag p => exact exec_row_noted .binMeasure dt link tag p s
  | binCalEmpty dt link tag p => exact exec_row_noted .binCalEmpty dt link tag p s
  | headHello dt link tag p => exact exec_row_noted .headHello dt link tag p s
  | floorReport dt link tag p => exact exec_row_noted .floorReport dt link tag p s
  | dockHello dt link tag p => exact exec_row_noted .dockHello dt link tag p s
  | orderRead dt link tag p => exact exec_row_noted .orderRead dt link tag p s
  | shelfEntry txn => exact execShelfEntry_noted txn s
  | wake dt input => exact execWake_noted dt input s
  | trigEdge dt => exact execTrigEdge_noted dt s
  | binlatchEdge dt =>
    change ∃ t, execBinlatchEdge dt s = .next t ∧ Noted s t
    unfold execBinlatchEdge
    dsimp only
    split
    · exact next_quiet_noted ((passes dt).trans (lines_quiet _ s.trigLine _ s.suc.trigTimer _))
    · exact next_quiet_noted ((passes dt).trans (lines_quiet _ s.trigLine _ s.suc.trigTimer s.bin.latchTimer))
  | scanStart =>
    change ∃ t, execScanStart s = .next t ∧ Noted s t
    unfold execScanStart
    split
    · exact next_quiet_noted ((reaches _).trans (phase_quiet _ _))
    · exact stands
  | allowanceCompletion =>
    change ∃ t, execAllowanceCompletion s = .next t ∧ Noted s t
    unfold execAllowanceCompletion
    split
    · rename_i c flies
      exact next_event_noted (reaches c.due) (completeBudget_work c _ flies)
    · exact stands
  | triggerDebounceCompletion =>
    change ∃ t, execTriggerDebounceCompletion s = .next t ∧ Noted s t
    unfold execTriggerDebounceCompletion
    split
    · exact next_event_noted ((reaches _).trans (lines_quiet _ s.trigLine s.latchLine none s.bin.latchTimer)) (takeTrigger_work _)
    · exact stands
  | stallTimerExpiry =>
    change ∃ t, execStallTimerExpiry s = .next t ∧ Noted s t
    unfold execStallTimerExpiry
    split
    · exact next_event_noted (reaches _) (stallExpires_work _)
    · exact stands
  | stopTimerExpiry =>
    change ∃ t, execStopTimerExpiry s = .next t ∧ Noted s t
    unfold execStopTimerExpiry
    split
    · exact next_event_noted (reaches _) (stopExpires_work _)
    · exact stands
  | tachPulse dt =>
    change ∃ t, execTachPulse dt s = .next t ∧ Noted s t
    unfold execTachPulse
    dsimp only
    split
    · exact next_event_noted (passes dt) (tachPulse_work _)
    · exact next_quiet_noted (passes dt)
  | tachTimeout =>
    change ∃ t, execTachTimeout s = .next t ∧ Noted s t
    unfold execTachTimeout
    split
    · exact next_event_noted (reaches _) (tachQuiet_work _)
    · exact stands
  | piezoEdge dt => exact ⟨_, rfl, ((passes dt).before (event_one rfl)).noted⟩
  | windowExpiry =>
    change ∃ t, execWindowExpiry s = .next t ∧ Noted s t
    unfold execWindowExpiry
    split
    · rename_i d isOpen
      exact next_event_noted (reaches d.expiry) (windowExpires_work _ d isOpen)
    · exact stands
  | latchDebounceCompletion =>
    change ∃ t, execLatchDebounceCompletion s = .next t ∧ Noted s t
    unfold execLatchDebounceCompletion
    split
    · exact next_event_noted ((reaches _).trans (lines_quiet _ s.trigLine s.latchLine s.suc.trigTimer none)) (takeLatch_work _)
    · exact stands
  | tryCompletion dt h1 h2 =>
    change ∃ t, execTryCompletion dt h1 h2 s = .next t ∧ Noted s t
    unfold execTryCompletion
    dsimp only
    split
    · rename_i m flies
      exact next_event_noted (passes dt) (tryCompleted_work m _ _ _ flies)
    · exact next_quiet_noted (passes dt)
  | silenceExpiry =>
    change ∃ t, execSilenceExpiry s = .next t ∧ Noted s t
    unfold execSilenceExpiry
    split
    · exact next_event_noted (reaches _) (silenceExpires_work _)
    · exact stands
  | wandOffTimerExpiry =>
    change ∃ t, execWandOffTimerExpiry s = .next t ∧ Noted s t
    unfold execWandOffTimerExpiry
    split
    · exact next_event_noted (reaches _) Act.powerOff.work
    · exact stands
  | helloTimerExpiry =>
    change ∃ t, execHelloTimerExpiry s = .next t ∧ Noted s t
    unfold execHelloTimerExpiry
    split
    · exact next_event_noted (reaches _) (helloExpires_work _)
    · exact stands
  | prechargeTimerExpiry =>
    change ∃ t, execPrechargeTimerExpiry s = .next t ∧ Noted s t
    unfold execPrechargeTimerExpiry
    split
    · exact next_event_noted (reaches _) (prechargeExpires_work _)
    · exact stands
  | balanceTimerExpiry =>
    change ∃ t, execBalanceTimerExpiry s = .next t ∧ Noted s t
    unfold execBalanceTimerExpiry
    split
    · exact next_event_noted (reaches _) (balanceExpires_work _)
    · exact stands
  | deepDischargeTimerExpiry =>
    change ∃ t, execDeepDischargeTimerExpiry s = .next t ∧ Noted s t
    unfold execDeepDischargeTimerExpiry
    split
    · exact ⟨_, rfl, ((reaches _).before (event_one rfl)).noted⟩
    · exact stands
  | frameArrival dt wire bytes =>
    change ∃ t, execFrameArrival dt wire bytes s = .next t ∧ Noted s t
    unfold execFrameArrival
    dsimp only
    split
    · exact ⟨_, rfl, ((passes dt).before (wireReceive_one wire bytes _)).noted⟩
    · exact next_quiet_noted (passes dt)
  | frameStartBit dt wire =>
    change ∃ t, execFrameStartBit dt wire s = .next t ∧ Noted s t
    unfold execFrameStartBit
    dsimp only
    split
    · exact next_quiet_noted ((passes dt).trans (setWire_quiet wire _ _))
    · exact next_quiet_noted (passes dt)
  | gapTimerExpiry dt wire =>
    change ∃ t, execGapTimerExpiry dt wire s = .next t ∧ Noted s t
    unfold execGapTimerExpiry
    dsimp only
    split
    · exact next_quiet_noted ((passes dt).trans ((reach_quiet _ _).trans (setWire_quiet wire _ _)))
    · exact next_quiet_noted (passes dt)
  | responseDelivered dt wire =>
    change ∃ t, execResponseDelivered dt wire s = .next t ∧ Noted s t
    unfold execResponseDelivered
    dsimp only
    split
    · exact next_quiet_noted ((passes dt).trans (setWire_quiet wire _ _))
    · exact next_quiet_noted (passes dt)
  | handleTransaction dt mosi =>
    change ∃ t, execHandleTransaction dt mosi s = .next t ∧ Noted s t
    unfold execHandleTransaction
    dsimp only
    split
    · exact ⟨_, rfl, (passes dt).notedBefore (transact_noted mosi _)⟩
    · exact next_event_noted ((passes dt).trans (ports_quiet _ _)) (wakeUp_work .link _)
  | handleAnswerReady dt =>
    change ∃ t, execHandleAnswerReady dt s = .next t ∧ Noted s t
    unfold execHandleAnswerReady
    dsimp only
    split
    · exact ⟨_, rfl, (passes dt).notedBefore (answerReady_noted _)⟩
    · exact next_quiet_noted (passes dt)

/-! ## A scan's completion -/

theorem completeScan_gens (start : Nat) (first : Bool) (k : ScanCodes) (s : State) :
    (completeScan start first k s).gens = s.gens := by
  let r := scanRecord s.smp first k
  have received : (receiveScan r (s.published first k)).gens = s.gens :=
    calc (receiveScan r (s.published first k)).gens
      _ = (handedOff r (s.published first k)).gens := (receiveScan_work r _).onward.2.1
      _ = ((s.published first k).judged r).gens := (handedOff_work r _).onward.2.1
      _ = s.gens := (judged_work r _).onward.2.1
  exact (completeScan_work start first k s).onward.2.1.trans received

/-- A changed bleed set advances the CELLS generation once more, and moves no record. -/
theorem bleedEvent_advances (before : Bleeds) (s : State) {r : RecordId} {page : Nat} (counted : Counted r page) :
    generationOf r page (bleedEvent before s).gens
        = generationOf r page s.gens + (if r = .cells ∧ (bleedEvent before s).chg.bleeds ≠ before then 1#8 else 0#8)
      ∧ (bleedEvent before s).now = s.now
      ∧ recordBytes r page (bleedEvent before s) = recordBytes r page s := by
  obtain ⟨bound, only⟩ := counted
  by_cases same : s.chg.bleeds = before
  · have stands : bleedEvent before s = s := if_pos same
    rw [stands, if_neg fun moved => moved.2 same]
    exact ⟨(BitVec.add_zero _).symm, rfl, rfl⟩
  · have moves : bleedEvent before s = { s with gens := { s.gens with cells := s.gens.cells + 1#8 } } := if_neg same
    rw [moves]
    refine ⟨?_, rfl, by cases r <;> rfl⟩
    cases r with
    | cells => exact (congrArg (_ + ·) (if_pos ⟨rfl, same⟩)).symm
    | settings =>
      rw [if_neg (by simp)]
      exact (BitVec.add_zero _).symm
    | _ =>
      rw [if_neg (by simp)]
      exact (BitVec.add_zero _).symm


/-- The statement's count of a record's advances at a command. -/
theorem advanced_count {g h : Byte} {changed bleeds : Prop} [Decidable changed] [Decidable bleeds]
    (once : changed → g = h + 1#8) (stands : ¬changed → g = h) :
    g + (if bleeds then 1#8 else 0#8) = h + (if changed then 1#8 else 0#8) + (if bleeds then 1#8 else 0#8)
      ∧ ∃ n : Nat, n ≤ 2 ∧ (changed → n ≠ 0) ∧ g + (if bleeds then 1#8 else 0#8) = h + BitVec.ofNat 8 n := by
  have first : g = h + (if changed then 1#8 else 0#8) := by
    split
    · rename_i c; exact once c
    · rename_i c; rw [stands c]; exact (BitVec.add_zero h).symm
  refine ⟨by rw [first], (if changed then 1 else 0) + (if bleeds then 1 else 0), ?_, ?_, ?_⟩
  · split <;> split <;> decide
  · intro c
    rw [if_pos c]
    omega
  · rw [first, BitVec.add_assoc]
    split <;> split <;> rfl

/-- Settles O24: what a command does is quiet, or one event, or, on the handle link, a delivery and the event after it; at a scan a changed
bleed set is an event of the CELLS record alone. -/
theorem eventAdvancesGenerations : Obligations.EventAdvancesGenerations := by
  intro c s power
  by_cases scans : ∃ k, c = .scanCompletion k
  · obtain ⟨k, rfl⟩ := scans
    obtain ⟨u, run, one⟩ : ∃ u, exec (.scanCompletion k) s = .next (bleedEvent s.chg.bleeds u) ∧ OneEvent s u := by
      cases phase : s.smp.phase with
      | running start first =>
        exact ⟨_, exec_scanCompletion k s start first phase, (reach_quiet s _).before (event_one (completeScan_gens _ _ _ _))⟩
      | stopped => exact ⟨s, by rw [exec_scanCompletion_idle k s (by simp [phase])]; simp [bleedEvent], (Quiet.refl s).oneEvent⟩
      | resting due first =>
        exact ⟨s, by rw [exec_scanCompletion_idle k s (by simp [phase])]; simp [bleedEvent], (Quiet.refl s).oneEvent⟩
    refine ⟨_, run, fun r page bound only => ?_⟩
    obtain ⟨gens, now, bytes⟩ := bleedEvent_advances s.chg.bleeds u (r := r) (page := page) ⟨bound, only⟩
    obtain ⟨once, stands⟩ := one r page ⟨bound, only⟩
    dsimp only
    rw [gens, now, bytes]
    simp only [true_and]
    obtain ⟨sum, few⟩ := advanced_count (changed := recordBytes r page { s with now := u.now } ≠ recordBytes r page u)
      (bleeds := r = .cells ∧ (bleedEvent s.chg.bleeds u).chg.bleeds ≠ s.chg.bleeds) once stands
    exact ⟨fun _ => sum, few⟩
  · obtain ⟨t, run, noted⟩ := exec_noted c s power fun k e => scans ⟨k, e⟩
    refine ⟨t, run, fun r page bound only => ?_⟩
    obtain ⟨count, few⟩ := noted r page ⟨bound, only⟩
    refine ⟨fun which => ?_, few⟩
    obtain ⟨once, stands⟩ := count which
    obtain ⟨sum, -⟩ := advanced_count (changed := recordBytes r page { s with now := t.now } ≠ recordBytes r page t)
      (bleeds := False) once stands
    simp only [if_false, BitVec.add_zero] at sum
    refine sum.trans ((congrArg (_ + ·) (if_neg ?_)).trans (BitVec.add_zero _)).symm
    rintro ⟨-, scan, -⟩
    cases c with
    | scanCompletion k => exact scans ⟨k, rfl⟩
    | _ => cases scan

end Sys2Proof.Machine
end
